-- ==== Sys2Proof/Word.lean ====
section
/-! DEFINITION. The two word types of the trunk and of the management tables (R2, R179). -/

namespace Sys2Proof

/-- A byte of a frame (R2). Bit 0 is the least significant bit (R179). -/
abbrev Byte := BitVec 8

/-- A 16-bit field of a frame or of a management table (R166, R179). -/
abbrev Word := BitVec 16

/-- A whole frame as it stands on the line, sync bytes first (R2). -/
abbrev Frame := List Byte

end Sys2Proof
end

