-- ==== Sys2Proof/Syntax.lean ====
section
/-! DEFINITION. The commands of the part: one constructor of `Instr` per row of
spec/opcode_table.json, with the operands the row's event carries.

The table gives its rows no operand fields and no bits; the operands below are those the spec's
rules give each event (notes/assumptions/2.md). The events of ONE physical frame are ONE command:
`frameArrival` carries everything TIF does with an arriving frame, the hand-off to SIN, PLU or
MGU included (R9). `sampleArrival`, `yardArrival` and `mreqArrival` are those hand-offs alone, and
each management command is the arrival at MGU of the MREQ that asks for it
(notes/assumptions/3.md). -/

namespace Sys2Proof

/-- The two trunk ports (R1). -/
inductive Port where
  /-- the field port, facing the stations and signs -/
  | field
  /-- the quay port, facing the concentrator and yard control -/
  | quay
  deriving DecidableEq, Repr

/-- What the receive side of a port presents at any moment (R1). -/
inductive Line where
  /-- a data byte -/
  | byte (b : Byte)
  /-- line idle -/
  | idle
  deriving DecidableEq, Repr

/-- The fields of a good SAMPLE frame from a station that TIF hands to SIN (R9, R181). -/
structure SampleCopy where
  /-- the source slot -/
  station : Fin 48
  /-- the round byte -/
  round : Byte
  /-- payload offset 0 -/
  channel : Byte
  /-- payload offset 1; bit 0 is TEST -/
  flags : Byte
  /-- payload offsets 2 and 3 -/
  value : Word
  deriving DecidableEq, Repr

/-- The fields of a good YARD frame that TIF hands to PLU (R9, R97, R181). -/
structure YardCopy where
  /-- payload offset 0 -/
  pile : Byte
  /-- payload offset 1 -/
  event : Byte
  /-- payload offsets 2 and 3 -/
  duration : Word
  deriving DecidableEq, Repr

/-- The part of a management request that every command's MREQ carries: the port it arrived on,
its source address and its tag (R9, R181). -/
structure Envelope where
  /-- arrival port, toward which the response goes (R8) -/
  port : Port
  /-- source address, the response's destination (R8) -/
  source : Byte
  /-- the requester's tag, echoed (R181) -/
  tag : Byte
  deriving DecidableEq, Repr

/-- The index, field and data of a management request (R181). A command that does not read one of
them still echoes it (R169, R171). -/
structure Body where
  /-- payload offsets 3 and 4 of the MREQ -/
  index : Word
  /-- payload offset 5 -/
  field : Byte
  /-- payload offsets 6 and 7 -/
  data : Word
  deriving DecidableEq, Repr

/-- The two standby tables a STANDBY_TABLE_WRITE can name (R112). -/
inductive StandbyTable where
  /-- table 2 of management unit 2 -/
  | plume
  /-- table 0 of management unit 3 -/
  | zones
  deriving DecidableEq, Repr

/-- Which of two blocks is taken next where the manual allows either order inside one event: OUT's
pass over the zones and MGU's takes (R12 "Contention", R156, R159, R168). -/
inductive Turn where
  /-- the output unit visits its next zone -/
  | out
  /-- the management unit looks at its queue, and takes the head if it may -/
  | mgu
  deriving DecidableEq, Repr

/-- The commands, one per row of spec/opcode_table.json.

`after` is the number of whole milliseconds that pass, since the command before, until the event
happens (the arrival clock of R29 advances by it); the rows that carry it are the ones whose event
is stamped with that clock. -/
inductive Instr where
  /-- POWER_ON_RESET (R16): the supply ramp. -/
  | powerOnReset
  /-- PIN_RESET (R16): RESET_N is asserted. -/
  | pinReset
  /-- RESET_RELEASE (R7): the reset in force is released with ADDR[2:0] at `addr`. -/
  | resetRelease (addr : BitVec 3)
  /-- STRAY_BYTE (R3): the receive side of `port` presents `rx` to its framer. -/
  | strayByte (after : Nat) (port : Port) (rx : Line)
  /-- FRAME_ARRIVAL (R9): the frame `bytes` arrives on `port` (R4, R5). -/
  | frameArrival (after : Nat) (port : Port) (bytes : Frame)
  /-- SAMPLE_ARRIVAL (R39): SIN takes the copy of a good SAMPLE frame from a station. -/
  | sampleArrival (after : Nat) (copy : SampleCopy)
  /-- YARD_ARRIVAL (R97): PLU takes the copy of a good YARD frame. -/
  | yardArrival (copy : YardCopy)
  /-- MREQ_ARRIVAL (R167): a good MREQ for the part's management unit `unit` reaches MGU. -/
  | mreqArrival (unit : Fin 4) (env : Envelope) (op : Byte) (table : Byte) (body : Body)
  /-- FRAME_SENT (R14): `port` has sent the last byte of its frame. `turns` settles R12's
  contention between OUT's drain and MGU's takes when a frame leaves the insertion queue. -/
  | frameSent (port : Port) (turns : List Turn)
  /-- ROUND_TIMER_EXPIRY (R22). -/
  | roundTimerExpiry
  /-- CLOSE_DEADLINE (R23). -/
  | closeDeadline
  /-- PILE_VISIT (R101): PLU visits the next enabled pile of its pass. -/
  | pileVisit
  /-- PROJECTION (R122). -/
  | projection
  /-- ZONE_EVALUATION (R128): ZNU evaluates the next enabled zone of its pass. -/
  | zoneEvaluation
  /-- EVALUATION_COMPLETE (R139). `turns` settles between which visits of OUT's sign pass MGU's
  takes come at the completion (R156). -/
  | evaluationComplete (turns : List Turn)
  /-- PROBE_TIMER_EXPIRY (R34). -/
  | probeTimerExpiry
  /-- PANEL_FRAME_CAPTURE (R163): bit 0 of a panel frame begins. -/
  | panelFrameCapture
  /-- START (R21): COMMAND 1 to unit 0. -/
  | start (env : Envelope) (body : Body)
  /-- STOP (R31): COMMAND 2 to unit 0. -/
  | stop (env : Envelope) (body : Body)
  /-- PROBE (R32): COMMAND 3 to unit 0. -/
  | probe (env : Envelope) (body : Body)
  /-- SWAP (R114): COMMAND 4 to unit 0. -/
  | swap (env : Envelope) (body : Body)
  /-- COPY (R119): COMMAND 5 to unit 0. -/
  | copy (env : Envelope) (body : Body)
  /-- COPY_COMPLETE (R119): the copy in execution is done; the end of an execution makes MGU look at
  its queue (R168). -/
  | copyComplete
  /-- SNAP (R176): COMMAND 6 to unit 0. -/
  | snap (env : Envelope) (body : Body)
  /-- ADMIT (R90): COMMAND 1 to unit 1; `body.index` is the station. -/
  | admitStation (env : Envelope) (body : Body)
  /-- RELAX (R142): COMMAND 1 to unit 3; `body.index` is the zone. -/
  | relax (env : Envelope) (body : Body)
  /-- DRILL (R148): COMMAND 2 to unit 3; index: duration, field: half, data: zone mask. -/
  | drill (env : Envelope) (body : Body)
  /-- ENDDRILL (R149): COMMAND 3 to unit 3; field: half, data: zone mask. -/
  | endDrill (env : Envelope) (body : Body)
  /-- STATION_CONFIG_WRITE (R91): WRITE to table 0 of unit 1. -/
  | stationConfigWrite (env : Envelope) (body : Body)
  /-- PILE_CONFIG_WRITE (R95): WRITE to table 0 of unit 2. -/
  | pileConfigWrite (env : Envelope) (body : Body)
  /-- STANDBY_TABLE_WRITE (R112): WRITE to a standby table. -/
  | standbyTableWrite (env : Envelope) (which : StandbyTable) (body : Body)
  /-- LINE_CONFIG_WRITE (R161): WRITE to table 3 of unit 3. -/
  | lineConfigWrite (env : Envelope) (body : Body)
  /-- COUNTER_READ (R170): READ of a counter field. -/
  | counterRead (env : Envelope) (unit : Fin 4) (table : Byte) (body : Body)
  /-- NOTICE_STATUS_READ (R173): READ of field 12 of table 2 of unit 0; `data` is not read. -/
  | noticeStatusRead (env : Envelope) (data : Word)
  /-- TABLE_WRITE (R170): WRITE to any other table. -/
  | tableWrite (env : Envelope) (unit : Fin 4) (table : Byte) (body : Body)
  deriving DecidableEq, Repr

end Sys2Proof
end

