-- ==== Sys2Proof/Decode.lean ====
section
/-! DEFINITION. The command a word spells by the opcode table's bits.

spec/opcode_table.json gives bits to none of its rows (every row's "fields" is empty, and its
source has neither match nor mask), so no word spells a command. The bytes of trunk frames are
decoded where they arrive (Machine/Frames.lean, Machine/Trunk.lean). -/

namespace Sys2Proof

/-- No row of the table has bits, so every word spells no command. -/
def decodeTableWord (_nbits _w : Nat) : Option Instr := none

end Sys2Proof
end

