-- ==== Sys2Proof/Config.lean ====
section
/-! DEFINITION. The quantities the manual fixes for the PZ-3224 (00_scope, Selection Table; R177).

The manual leaves no VALUE of this part open: where it leaves an ORDER open (two events at the
same moment), the order is an operand of the command or the order of the command queue, so this
file declares no free value. -/

namespace Sys2Proof.Config

/-- A transit FIFO holds up to 8 frames (R11). -/
def transitDepth : Nat := 8

/-- An insertion queue holds up to 16 frames (R12). -/
def queueDepth : Nat := 16

/-- MGU's request queue holds up to 4 requests (R167). -/
def requestDepth : Nat := 4

/-- The longest frame, an unknown-class frame of 64 bytes (R5). -/
def longestFrame : Nat := 64

/-- The value at which a counter stops (R15, 00_scope "Counters"). -/
def counterTop : Nat := 65535

/-- The value at which the arrival clock stops, in milliseconds (R29). -/
def clockTop : Nat := 8191

/-- The value at which an arrival-line slot stops (R124). -/
def arrivalTop : Nat := 4095

/-- The fault count that retires a station (R85). -/
def retireFaults : Nat := 3

/-- The rounds-since-START count from which a pile without a healthy head is BLIND (R102). -/
def startGrace : Nat := 8

/-- Length of a round-period unit in milliseconds (R19, R23). -/
def periodUnitMs : Nat := 50

/-- The close reserve, in milliseconds (R23). -/
def closeReserveMs : Nat := 100

/-- The longest time a COPY takes, in milliseconds (R119). -/
def copyTimeMs : Nat := 2

/-- Vendor code of the identity record (R177). -/
def vendorCode : Nat := 0x2E41

/-- Part code of the identity record (R177). -/
def partCode : Nat := 0x0C98

/-- Revision of the identity record (R177). -/
def revision : Nat := 1

/-- Destination address of every NOTICE frame (R8). -/
def noticeDestination : Byte := 192

end Sys2Proof.Config
end

