-- ==== Sys2Proof/Machine/Frames.lean ====
section
/-! DEFINITION. Frames as bytes: classes, CRC, the header of R8 and the payloads of R181, and the
byte order and bit fields they use (R2, R6, R8, R179 to R181). -/

namespace Sys2Proof.Machine

/-- The seven classes the part knows (R2). -/
inductive FrameClass where
  | sample | yard | mark | sign | mreq | mrsp | notice
  deriving DecidableEq, Repr

/-- The class codes of R2. -/
def FrameClass.code : FrameClass → Byte
  | .sample => 0x11
  | .yard => 0x12
  | .mark => 0x21
  | .sign => 0x22
  | .mreq => 0x31
  | .mrsp => 0x32
  | .notice => 0x41

/-- The payload length of each class (R2). -/
def FrameClass.payloadBytes : FrameClass → Nat
  | .sample | .yard | .mark | .sign => 4
  | .mreq | .mrsp => 8
  | .notice => 6

/-- "the frame length L of a known class is 8 plus its payload length" (R2). -/
def FrameClass.frameBytes (c : FrameClass) : Nat := 8 + c.payloadBytes

/-- The known class of a class byte, or none for an unknown class (R2). -/
def classOfByte (b : Byte) : Option FrameClass :=
  if b = 0x11 then some .sample
  else if b = 0x12 then some .yard
  else if b = 0x21 then some .mark
  else if b = 0x22 then some .sign
  else if b = 0x31 then some .mreq
  else if b = 0x32 then some .mrsp
  else if b = 0x41 then some .notice
  else none

/-- First sync byte (R2). -/
def sync1 : Byte := 0xA6

/-- Second sync byte (R2). -/
def sync2 : Byte := 0x3D

/-- The high byte of a 16-bit field, sent first (R179). -/
def hiByte (w : Word) : Byte := w.extractLsb' 8 8

/-- The low byte of a 16-bit field, sent second (R179). -/
def loByte (w : Word) : Byte := w.extractLsb' 0 8

/-- A 16-bit field from its two bytes, most significant first (R179). -/
def joinBytes (hi lo : Byte) : Word := hi ++ lo

/-- A magnitude as a byte of a frame. -/
def byteOf (n : Nat) : Byte := BitVec.ofNat 8 n

/-- A magnitude as a 16-bit field of a management table. -/
def wordOf (n : Nat) : Word := BitVec.ofNat 16 n

/-- A flag as a number: clear 0, set 1 (R182). -/
def flagCode (b : Bool) : Nat := if b then 1 else 0

/-- One bit of the CRC register's shift by generator 0x1021 (R6). -/
def crcShift (r : Word) : Word :=
  if r.msb then (r <<< 1) ^^^ 0x1021#16 else r <<< 1

/-- The CRC register after one more byte, most significant bit first (R6). -/
def crcByte (r : Word) (b : Byte) : Word :=
  (List.range 8).foldl (fun r _ => crcShift r) (r ^^^ (b ++ 0#8 : BitVec 16))

/-- CRC-16 of R6: generator 0x1021, register from 0xFFFF, no final inversion. -/
def crc16 (bytes : List Byte) : Word := bytes.foldl crcByte 0xFFFF#16

/-- Class, addresses, round byte and payload, then the CRC over them, after the sync bytes
(R2, R6, R8). -/
def buildFrame (cls : FrameClass) (dest src round : Byte) (payload : List Byte) : Frame :=
  let covered := cls.code :: dest :: src :: round :: payload
  let crc := crc16 covered
  sync1 :: sync2 :: (covered ++ [hiByte crc, loByte crc])

/-- Byte `i` of a frame, 0 where it has none. -/
def frameByte (f : Frame) (i : Nat) : Byte := f.getD i 0

/-- The known class of a frame, read from its class byte (byte 2). -/
def frameClass (f : Frame) : Option FrameClass := classOfByte (frameByte f 2)

/-- The bytes the CRC covers: class byte through the last payload byte (R6). -/
def coveredBytes (f : Frame) : List Byte := (f.drop 2).take (f.length - 4)

/-- The CRC a frame carries in its last two bytes, high byte first (R6). -/
def carriedCrc (f : Frame) : Word :=
  joinBytes (frameByte f (f.length - 2)) (frameByte f (f.length - 1))

/-- A frame of class `c` is good: of correct length with a matching CRC (R6). -/
def isGood (c : FrameClass) (f : Frame) : Bool :=
  f.length == c.frameBytes && crc16 (coveredBytes f) == carriedCrc f

/-- Byte `i` of the payload (frame byte 6 + i, R181). -/
def payloadByte (f : Frame) (i : Nat) : Byte := frameByte f (6 + i)

/-- 16-bit field at payload offset `i` (R179, R181). -/
def payloadWord (f : Frame) (i : Nat) : Word := joinBytes (payloadByte f i) (payloadByte f (i + 1))

/-- Destination address byte (R2). -/
def frameDest (f : Frame) : Byte := frameByte f 3

/-- Source address byte (R2). -/
def frameSource (f : Frame) : Byte := frameByte f 4

/-- Round byte (R2). -/
def frameRound (f : Frame) : Byte := frameByte f 5

/-- The copy of a SAMPLE frame's fields for SIN, from station slot `st` (R9, R181). -/
def sampleCopyOf (st : Fin 48) (f : Frame) : SampleCopy :=
  { station := st, round := frameRound f, channel := payloadByte f 0, flags := payloadByte f 1,
    value := payloadWord f 2 }

/-- The copy of a YARD frame's fields for PLU (R9, R181). -/
def yardCopyOf (f : Frame) : YardCopy :=
  { pile := payloadByte f 0, event := payloadByte f 1, duration := payloadWord f 2 }

/-- A byte list that a receive framer can hand on as a frame: sync, a class byte, and either a
known class with at most its L bytes (R4), or an unknown class with 3 to 62 bytes (ended by the
next frame's sync pattern) or with 64 bytes (R5). -/
def arrivable (f : Frame) : Bool :=
  f.length ≥ 3 && frameByte f 0 == sync1 && frameByte f 1 == sync2 &&
    (match frameClass f with
      | some c => f.length ≤ c.frameBytes
      | none => f.length ≤ 62 || f.length == Config.longestFrame)

/-- Management address of unit `u` at strap value A: 224 + 4 × A + u (R7). -/
def managementAddress (strap : BitVec 3) (u : Nat) : Byte := byteOf (224 + 4 * strap.toNat + u)

/-- A MARK frame (R8, R22, R181): payload P, flags, round sequence, 0. -/
def markFrame (strap : BitVec 3) (roundNumber period : Nat) (probe : Bool) (seq : Nat) : Frame :=
  buildFrame .mark (managementAddress strap 0) (managementAddress strap 0) (byteOf roundNumber)
    [byteOf period, byteOf (flagCode probe), byteOf seq, 0]

/-- A SIGN frame (R8, R157, R159, R181): payload zone, level, flags, 0. -/
def signFrame (strap : BitVec 3) (address : Byte) (roundNumber zone level : Nat)
    (drill degraded service : Bool) : Frame :=
  buildFrame .sign address (managementAddress strap 3) (byteOf roundNumber)
    [byteOf zone, byteOf level,
     byteOf (flagCode drill + 2 * flagCode degraded + 4 * flagCode service), 0]

/-- A NOTICE frame (R8, R174, R181): payload class, subject, old, new, flags, 0. -/
def noticeFrame (strap : BitVec 3) (roundNumber cls subject old new flags : Nat) : Frame :=
  buildFrame .notice Config.noticeDestination (managementAddress strap 0) (byteOf roundNumber)
    [byteOf cls, byteOf subject, byteOf old, byteOf new, byteOf flags, 0]

/-- An MRSP frame (R8, R169, R181): payload tag, status, table, index, field, data. -/
def responseFrame (dest src : Byte) (roundNumber : Nat) (tag : Byte) (status : Nat) (table : Byte)
    (index : Word) (field : Byte) (data : Word) : Frame :=
  buildFrame .mrsp dest src (byteOf roundNumber)
    [tag, byteOf status, table, hiByte index, loByte index, field, hiByte data, loByte data]

end Sys2Proof.Machine
end

