-- ==== Sys2Proof/Machine/State.lean ====
section
/-! DEFINITION. The state of the part, block by block (00_scope, "Block Overview"), as plain data,
and its value right after power-on reset. Each item cites the rule that gives it; the reset values
are those of R16, R35, R58, R79, R93, R108, R126, R146, R154, R165 and R178. -/

namespace Sys2Proof.Machine

/-! ### Enumerations -/

/-- Operating state (R18). -/
inductive OpState where
  | config | run
  deriving DecidableEq, Repr

/-- Round phase (R18). -/
inductive Phase where
  /-- NONE: no round exists -/
  | noRound
  /-- OPEN -/
  | opened
  /-- EVALUATING -/
  | evaluating
  /-- CLOSED -/
  | closed
  deriving DecidableEq, Repr

/-- Close mode (R24). -/
inductive CloseMode where
  | deadline | allIn
  deriving DecidableEq, Repr

/-- A station's kind (R37). -/
inductive Kind where
  | absent | anemo | dust
  deriving DecidableEq, Repr

/-- Rotation mode of an anemometer head (R62). -/
inductive Rotation where
  | direct | skewPlus | skewMinus
  deriving DecidableEq, Repr

/-- A wind sector: one of the sixteen downwind bearings, or CALM (R61). -/
inductive Sector where
  | dir (d : Fin 16)
  | calm
  deriving DecidableEq, Repr

/-- Health state (R80). -/
inductive Health where
  | off | unseen | healthy | stale | retired
  deriving DecidableEq, Repr

/-- A pile's activity (R96). -/
inductive Activity where
  | idle | working
  deriving DecidableEq, Repr

/-- A pile's wind source (R96, R102). -/
inductive WindSource where
  | waiting | primary | fallback | blind
  deriving DecidableEq, Repr

/-- A warning level (R127). -/
inductive Level where
  | clear | watch | warn | alert
  deriving DecidableEq, Repr

/-- Panel mode (R164). -/
inductive PanelMode where
  | zones | stations
  deriving DecidableEq, Repr

/-- Reset cause (R177). -/
inductive ResetCause where
  | powerOn | pin
  deriving DecidableEq, Repr

/-- The last-taken mark of an outbound port (R14). -/
inductive Source where
  | transit | insertion
  deriving DecidableEq, Repr

/-- The six notice classes (R172). -/
inductive NoticeClass where
  | zone | station | pile | round | drill | trunk
  deriving DecidableEq, Repr

/-! ### TIF: trunk interface (chapter 1) -/

/-- The receive framer of a port (R3 to R5). -/
inductive Framer where
  /-- HUNT -/
  | hunt
  /-- SAW_A6: one 0xA6 is held -/
  | sawA6
  /-- HEADER: the two sync bytes are in, the next byte is the class byte -/
  | header
  /-- a known-class frame in reception: its bytes so far, and its length L -/
  | known (bytes : Frame) (length : Nat)
  /-- an unknown-class frame in reception: its bytes so far, and whether its last byte is a
  0xA6 that may open a sync pattern -/
  | unknown (bytes : Frame) (pair : Bool)
  deriving DecidableEq, Repr

/-- One trunk port: its receive framer and its outbound side, with the port's counters (R15) and
MGU's TRUNK tallies for it (R175). -/
structure PortState where
  /-- receive framer (R3) -/
  framer : Framer
  /-- the transit FIFO this port's outbound side drains, oldest first (R11) -/
  transit : List Frame
  /-- the insertion queue, oldest first (R12) -/
  queue : List Frame
  /-- reservations of the insertion queue (R12) -/
  reserved : Nat
  /-- last-taken mark (R14) -/
  lastTaken : Source
  /-- the frame being sent, none when the port is idle (R1, R14) -/
  sending : Option Frame
  /-- good frames received (R15) -/
  goodFrames : Nat
  /-- CRC errors (R15) -/
  crcErrors : Nat
  /-- unexamined frames (R15) -/
  unexamined : Nat
  /-- stray bytes (R15) -/
  strayBytes : Nat
  /-- unevaluated SAMPLE frames (R15) -/
  unevaluated : Nat
  /-- transit drops of frames that arrived on this port (R15) -/
  transitDrops : Nat
  /-- frames forwarded by this port (R15) -/
  framesForwarded : Nat
  /-- frames inserted by this port (R15) -/
  framesInserted : Nat
  /-- MGU's CRC-error tally of the round (R175) -/
  crcTally : Nat
  /-- MGU's transit-drop tally of the round (R175) -/
  dropTally : Nat
  deriving DecidableEq, Repr

/-- The trunk interface (R16). -/
structure Tif where
  /-- the field port -/
  fieldPort : PortState
  /-- the quay port -/
  quayPort : PortState
  /-- the MARK slot of the field outbound port (R13) -/
  markSlot : Option Frame
  /-- the strap value A (R7) -/
  strap : BitVec 3
  deriving DecidableEq, Repr

/-! ### RCT: round controller (chapter 2) -/

/-- One probe record (R33). -/
structure ProbeRecord where
  /-- first-arrival offset -/
  offset : Nat
  /-- count -/
  count : Nat
  deriving DecidableEq, Repr

/-- The round controller (R35). -/
structure Rct where
  /-- operating state (R18) -/
  opState : OpState
  /-- round phase (R18) -/
  phase : Phase
  /-- round period P, in units of 50 ms (R19) -/
  period : Nat
  /-- close mode (R24) -/
  closeMode : CloseMode
  /-- RoundMax (R26) -/
  roundMax : Nat
  /-- round timer: milliseconds since the opening, none when stopped (R23) -/
  roundTimer : Option Nat
  /-- milliseconds since the close, while the round evaluation is in progress (the model's own, for
  the 100 ms of R23; notes/assumptions/14.md) -/
  closeTimer : Option Nat
  /-- round number (R26) -/
  roundNumber : Nat
  /-- previous round number, or none (R26) -/
  prevRound : Option Nat
  /-- round sequence, 0..15 (R27) -/
  seq : Fin 16
  /-- expected set of the round (R24) -/
  expected : List (Fin 48)
  /-- outstanding count (R24) -/
  outstanding : Nat
  /-- rounds-since-START count (R25) -/
  roundsSinceStart : Nat
  /-- SYNCED (R28) -/
  synced : Bool
  /-- complete-close-seen flag (R28) -/
  completeSeen : Bool
  /-- SYNC_FAIL (R28) -/
  syncFail : Bool
  /-- arrival clock, in milliseconds (R29) -/
  clock : Nat
  /-- whether the arrival clock runs: reset stops it, an opening or a probe restarts it (R29) -/
  clockRuns : Bool
  /-- probe flag (R32) -/
  probing : Bool
  /-- probe timer: milliseconds since the PROBE, none when stopped (R32) -/
  probeTimer : Option Nat
  /-- the 48 probe records (R33) -/
  probes : Vector ProbeRecord 48
  deriving DecidableEq, Repr

/-! ### SIN: sample intake (chapter 3) -/

/-- A round reading: a complete path pair, or a dust value (R36). -/
inductive Reading where
  | pair (a b : Int)
  | dust (d : Nat)
  deriving DecidableEq, Repr

/-- A pending path-A record: its value and arrival offset (R36). -/
structure PendingA where
  /-- scaled path value -/
  value : Int
  /-- arrival offset -/
  offset : Nat
  deriving DecidableEq, Repr

/-- One round slot with its last arrival offset and intake counters (R36, R57). -/
structure Intake where
  /-- round reading -/
  reading : Option Reading
  /-- pending path-A record -/
  pendingA : Option PendingA
  /-- last arrival offset (R45) -/
  lastOffset : Nat
  /-- ignored (R57) -/
  ignored : Nat
  /-- late (R57) -/
  late : Nat
  /-- foreign (R57) -/
  foreign : Nat
  /-- test dropped (R57) -/
  testDropped : Nat
  /-- held (R57) -/
  held : Nat
  /-- implausible (R57) -/
  implausible : Nat
  /-- pair error (R57) -/
  pairError : Nat
  deriving DecidableEq, Repr

/-! ### STU: station unit (chapters 4 and 5) -/

/-- A station's configuration record (R37, R62, R74, R81). -/
structure StationCfg where
  /-- kind (R37) -/
  kind : Kind
  /-- enable (R37) -/
  enable : Bool
  /-- scale shift s (R37) -/
  shift : Nat
  /-- status-code flag Z (R37) -/
  statusCodes : Bool
  /-- dust window lo (R37) -/
  lo : Nat
  /-- dust window hi (R37) -/
  hi : Nat
  /-- pairing window W, ms (R37) -/
  window : Nat
  /-- rotation mode (R62) -/
  rotation : Rotation
  /-- calm threshold (R62) -/
  calmThreshold : Nat
  /-- gust coefficient a, sixteenths (R62) -/
  gustCoeff : Nat
  /-- mean shift k (R62) -/
  meanShift : Nat
  /-- gust speed threshold (R62) -/
  gustThreshold : Nat
  /-- excess threshold (R62) -/
  excessThreshold : Nat
  /-- lift base (R62) -/
  liftBase : Nat
  /-- sector persistence p (R62) -/
  persistence : Nat
  /-- dust coefficient ad, sixteenths (R74) -/
  dustCoeff : Nat
  /-- stale limit (R81) -/
  staleLimit : Nat
  /-- settle rounds (R81) -/
  settleRounds : Nat
  deriving DecidableEq, Repr

/-- A station's health record (R80). -/
structure HealthRecord where
  /-- health state -/
  state : Health
  /-- missed count -/
  missed : Nat
  /-- rounds since recovery -/
  since : Nat
  /-- fault count -/
  faults : Nat
  /-- reseed flag -/
  reseed : Bool
  /-- took-test flag -/
  tookTest : Bool
  deriving DecidableEq, Repr

/-- A station's computation record (R61). -/
structure Computation where
  /-- reported sector S -/
  sector : Sector
  /-- candidate sector C -/
  candidate : Option Sector
  /-- run count n -/
  runCount : Nat
  /-- first gust stage g1 -/
  g1 : Nat
  /-- second gust stage g2 -/
  g2 : Nat
  /-- mean stage m -/
  m : Nat
  /-- gust speed Mg -/
  gustSpeed : Nat
  /-- mean speed Mm -/
  meanSpeed : Nat
  /-- excess E -/
  excess : Nat
  /-- gust flag -/
  gust : Bool
  /-- lift index I -/
  lift : Nat
  /-- first dust stage d1 -/
  d1 : Nat
  /-- second dust stage d2 -/
  d2 : Nat
  /-- dust level DL -/
  dustLevel : Nat
  deriving DecidableEq, Repr

/-- One station slot of STU. -/
structure Station where
  /-- configuration record -/
  cfg : StationCfg
  /-- health record -/
  health : HealthRecord
  /-- computation record -/
  comp : Computation
  deriving DecidableEq, Repr

/-! ### PLU: pile unit (chapter 6) -/

/-- A pile's configuration record (R94). -/
structure PileCfg where
  /-- enable -/
  enable : Bool
  /-- weight -/
  weight : Nat
  /-- primary anemometer -/
  primary : Fin 48
  /-- fallback anemometer -/
  fallback : Option (Fin 48)
  deriving DecidableEq, Repr

/-- A pile's dynamic record (R96). -/
structure PileDyn where
  /-- activity -/
  activity : Activity
  /-- wet timer -/
  wet : Nat
  /-- shielded -/
  shielded : Bool
  /-- wind source -/
  source : WindSource
  /-- last sector, or none -/
  lastSector : Option Sector
  /-- last contribution -/
  lastContribution : Nat
  deriving DecidableEq, Repr

/-- One pile slot of PLU. -/
structure Pile where
  /-- configuration record -/
  cfg : PileCfg
  /-- dynamic record -/
  dyn : PileDyn
  deriving DecidableEq, Repr

/-- The pile unit. -/
structure Plu where
  /-- the 24 pile slots (R94, R96) -/
  piles : Vector Pile 24
  /-- yard rejects counter (R97) -/
  yardRejects : Nat
  deriving DecidableEq, Repr

/-! ### PJU: projection unit (chapter 7) -/

/-- One plume entry (R110). Weight 0 is an empty entry. -/
structure PlumeEntry where
  /-- zone -/
  zone : Fin 32
  /-- lag, rounds -/
  lag : Nat
  /-- weight, eighths -/
  weight : Nat
  deriving DecidableEq, Repr

/-- A zone configuration record (R111). -/
structure ZoneCfg where
  /-- enable -/
  enable : Bool
  /-- watch threshold -/
  watch : Nat
  /-- warn threshold -/
  warn : Nat
  /-- alert threshold -/
  alert : Nat
  /-- WATCH hold -/
  watchHold : Nat
  /-- WARN hold -/
  warnHold : Nat
  /-- ALERT hold -/
  alertHold : Nat
  /-- r_up -/
  rUp : Nat
  /-- r_down -/
  rDown : Nat
  /-- confirm-required -/
  confirmRequired : Bool
  /-- confirm slot 1 -/
  confirm1 : Option (Fin 48)
  /-- confirm slot 2 -/
  confirm2 : Option (Fin 48)
  /-- confirm slot 3 -/
  confirm3 : Option (Fin 48)
  /-- confirm threshold -/
  confirmThreshold : Nat
  /-- relax-allowed -/
  relaxAllowed : Bool
  /-- sign address 1 -/
  sign1 : Option Byte
  /-- sign address 2 -/
  sign2 : Option Byte
  deriving DecidableEq, Repr

/-- One bank: a plume table, a zone configuration table and the valid flag (R109). The plume table
is a list of (index, entry) pairs in one canonical form: indices strictly rising, and no entry
equal to the cleared entry that an unlisted index reads as (R110, R126). -/
structure Bank where
  /-- plume table, indices 0..1535 -/
  plume : List (Nat × PlumeEntry)
  /-- zone configuration table -/
  zones : Vector ZoneCfg 32
  /-- valid flag (R113) -/
  valid : Bool
  deriving DecidableEq, Repr

/-- One contribution handed by PLU (R105, R122). -/
structure Contribution where
  /-- pile -/
  pile : Fin 24
  /-- sector -/
  sector : Fin 16
  /-- amount c -/
  amount : Nat
  deriving DecidableEq, Repr

/-- The projection unit (R109, R126). -/
structure Pju where
  /-- bank 0 -/
  bank0 : Bank
  /-- bank 1 -/
  bank1 : Bank
  /-- active-bank pointer: whether bank 1 is the active one (R109) -/
  activeIs1 : Bool
  /-- swap-pending flag (R116) -/
  swapPending : Bool
  /-- feeder masks: pile p of zone z in bit p (R121) -/
  feeders : Vector (BitVec 24) 32
  /-- contribution list (R122) -/
  contributions : List Contribution
  deriving DecidableEq, Repr

/-! ### ZNU: zone unit (chapters 8 and 9) -/

/-- A display tuple (R155). -/
structure Tuple where
  /-- effective level -/
  level : Level
  /-- drill flag -/
  drill : Bool
  /-- degraded flag -/
  degraded : Bool
  deriving DecidableEq, Repr

/-- A zone dynamic record (R127). X is always formed from Xs and not held. -/
structure Zone where
  /-- arrival line -/
  arrivals : Vector Nat 16
  /-- exposure state Xs -/
  xs : Nat
  /-- level -/
  level : Level
  /-- hold -/
  hold : Nat
  /-- degraded flag -/
  degraded : Bool
  /-- drill timer -/
  drillTimer : Nat
  /-- effective level -/
  effective : Level
  /-- last display tuple sent -/
  lastSent : Tuple
  /-- sign-pending flag -/
  signPending : Bool
  /-- refresh countdown -/
  refresh : Nat
  deriving DecidableEq, Repr

/-- The zone unit. -/
structure Znu where
  /-- the 32 zone records (R127) -/
  zones : Vector Zone 32
  /-- whether some drill timer was above 0 when the round closed (R151) -/
  drillAtClose : Bool
  deriving DecidableEq, Repr

/-! ### OUT: output unit (chapter 10) -/

/-- A warning line's configuration record (R160). -/
structure LineCfg where
  /-- zone mask, zone z in bit z -/
  mask : BitVec 32
  /-- minimum level -/
  minLevel : Level
  /-- drill-pass flag -/
  drillPass : Bool
  deriving DecidableEq, Repr

/-- The output unit (R165). -/
structure Out where
  /-- line configuration records WL0..WL7 (R160) -/
  lines : Vector LineCfg 8
  /-- sign refresh period R (R158) -/
  refreshPeriod : Nat
  /-- panel mode (R164) -/
  panelMode : PanelMode
  /-- service record of each zone: up to two sign addresses (R159) -/
  service : Vector (List Byte) 32
  /-- the pins WL0..WL7: active is high (R161) -/
  wl : Vector Bool 8
  /-- the pin SVC: active is high (R162) -/
  svc : Bool
  /-- the panel frame last captured, bit i of the stream in bit i; none while PCLK, PDAT and PFRM
  are held low (R163, R165) -/
  panel : Option (BitVec 128)
  deriving DecidableEq, Repr

/-! ### MGU: management unit (chapter 11) -/

/-- A management request (R167). -/
structure Request where
  /-- arrival port -/
  port : Port
  /-- source address -/
  source : Byte
  /-- destination address -/
  dest : Byte
  /-- tag -/
  tag : Byte
  /-- op -/
  op : Byte
  /-- table, or command code -/
  table : Byte
  /-- index, field and data -/
  body : Body
  deriving DecidableEq, Repr

/-- Enable, mask and status flags of one notice class (R172). -/
structure ClassFlags where
  /-- enable flag -/
  enable : Bool
  /-- mask flag -/
  mask : Bool
  /-- status flag -/
  status : Bool
  deriving DecidableEq, Repr

/-- The notice control table (R172, R173, R178). -/
structure Notices where
  /-- ZONE -/
  zone : ClassFlags
  /-- STATION -/
  station : ClassFlags
  /-- PILE -/
  pile : ClassFlags
  /-- ROUND -/
  round : ClassFlags
  /-- DRILL -/
  drill : ClassFlags
  /-- TRUNK -/
  trunk : ClassFlags
  /-- notice-lost flag -/
  lostFlag : Bool
  /-- notices queued -/
  queued : Nat
  /-- notices lost -/
  lost : Nat
  deriving DecidableEq, Repr

/-- A station's entry of the snapshot, as the field codes it reads back as (R176). -/
structure SnapStation where
  /-- health state code -/
  health : Nat
  /-- reported sector code -/
  sector : Nat
  /-- Mg -/
  gustSpeed : Nat
  /-- Mm -/
  meanSpeed : Nat
  /-- I -/
  lift : Nat
  /-- DL -/
  dustLevel : Nat
  deriving DecidableEq, Repr

/-- A zone's entry of the snapshot, as the field codes it reads back as (R176). -/
structure SnapZone where
  /-- X -/
  exposure : Nat
  /-- level -/
  level : Nat
  /-- effective level -/
  effective : Nat
  /-- drill flag -/
  drill : Nat
  /-- degraded flag -/
  degraded : Nat
  deriving DecidableEq, Repr

/-- The snapshot table (R176). -/
structure Snapshot where
  /-- round number of the evaluated round -/
  roundNumber : Nat
  /-- stations 0..47 -/
  stations : Vector SnapStation 48
  /-- zones 0..31 -/
  zones : Vector SnapZone 32
  /-- ready flag -/
  ready : Bool
  /-- armed flag -/
  armed : Bool
  deriving DecidableEq, Repr

/-- The management unit (R178). -/
structure Mgu where
  /-- request queue, oldest first (R167) -/
  requests : List Request
  /-- the request in execution, a COPY (R168, R169) -/
  executing : Option Request
  /-- milliseconds since that COPY was accepted; none when none is in execution. Implied by the 2 ms
  of R119 (notes/assumptions/14.md) -/
  copyTimer : Option Nat
  /-- requests received (R178) -/
  received : Nat
  /-- requests dropped (R178) -/
  dropped : Nat
  /-- notice control -/
  notices : Notices
  /-- snapshot -/
  snapshot : Snapshot
  /-- reset cause (R177) -/
  resetCause : ResetCause
  /-- retired at release (R177) -/
  retiredAtRelease : Nat
  deriving DecidableEq, Repr

/-- Where the chain of the round evaluation stands: which block starts next (R25, R101, R122,
R128, R139). -/
inductive EvalStage where
  /-- no round evaluation is in progress -/
  | idle
  /-- PLU's pass; `p` is the next enabled pile -/
  | piles (p : Fin 24)
  /-- PLU has completed; PJU is to start -/
  | projecting
  /-- ZNU's pass; `z` is the next enabled zone -/
  | zones (z : Fin 32)
  /-- ZNU's pass has visited its last zone -/
  | done
  deriving DecidableEq, Repr

/-- The whole part, with the queue of commands that are waiting. -/
structure State where
  /-- the commands waiting, first in, first out (the model's own field) -/
  pending : List Instr
  /-- the reset in force, not yet released, or none (R1, R16, R165) -/
  resetHeld : Option ResetCause
  /-- TIF -/
  tif : Tif
  /-- RCT -/
  rct : Rct
  /-- SIN -/
  sin : Vector Intake 48
  /-- STU -/
  stu : Vector Station 48
  /-- PLU -/
  plu : Plu
  /-- PJU -/
  pju : Pju
  /-- ZNU -/
  znu : Znu
  /-- OUT -/
  out : Out
  /-- MGU -/
  mgu : Mgu
  /-- the round evaluation's progress -/
  stage : EvalStage
  deriving DecidableEq, Repr

/-- The part stops for no fault: the manual describes none (its errors are counters, flags and
response codes). The type has no constructor, so no step answers a fault. -/
inductive Fault where
  deriving DecidableEq, Repr

/-- Why a step has no meaning. -/
inductive Refusal where
  /-- raised by an arm of `exec` whose command has no meaning yet (no arm is one); safe, because
  the machine stops where the part goes on -/
  | notModelled (mnemonic : String)
  deriving DecidableEq, Repr

/-! ### Reset values -/

/-- A port after a reset (R16, R175). -/
def PortState.cleared : PortState :=
  { framer := .hunt, transit := [], queue := [], reserved := 0, lastTaken := .insertion,
    sending := none, goodFrames := 0, crcErrors := 0, unexamined := 0, strayBytes := 0,
    unevaluated := 0, transitDrops := 0, framesForwarded := 0, framesInserted := 0,
    crcTally := 0, dropTally := 0 }

/-- TIF after a reset (R16); the strap value stands until the release (R7). -/
def Tif.cleared (strap : BitVec 3) : Tif :=
  { fieldPort := .cleared, quayPort := .cleared, markSlot := none, strap := strap }

/-- A probe record after a reset or an accepted PROBE (R33). -/
def ProbeRecord.cleared : ProbeRecord := { offset := 0, count := 0 }

/-- RCT after a reset (R35). -/
def Rct.cleared : Rct :=
  { opState := .config, phase := .noRound, period := 20, closeMode := .allIn, roundMax := 4,
    roundTimer := none, closeTimer := none, roundNumber := 0, prevRound := none, seq := 0,
    expected := [], outstanding := 0, roundsSinceStart := 0, synced := false,
    completeSeen := false, syncFail := false, clock := 0, clockRuns := false, probing := false, probeTimer := none,
    probes := Vector.replicate 48 .cleared }

/-- A round slot after a reset (R58). -/
def Intake.cleared : Intake :=
  { reading := none, pendingA := none, lastOffset := 0, ignored := 0, late := 0, foreign := 0,
    testDropped := 0, held := 0, implausible := 0, pairError := 0 }

/-- The station configuration defaults (R37, R62, R74, R81). -/
def StationCfg.default : StationCfg :=
  { kind := .absent, enable := false, shift := 0, statusCodes := false, lo := 0, hi := 4095,
    window := 40, rotation := .direct, calmThreshold := 5, gustCoeff := 4, meanShift := 5,
    gustThreshold := 120, excessThreshold := 30, liftBase := 80, persistence := 2,
    dustCoeff := 4, staleLimit := 3, settleRounds := 16 }

/-- The health record after power-on reset (R93). -/
def HealthRecord.cleared : HealthRecord :=
  { state := .off, missed := 0, since := 0, faults := 0, reseed := false, tookTest := false }

/-- The computation record's reset values (R79). -/
def Computation.cleared : Computation :=
  { sector := .calm, candidate := none, runCount := 0, g1 := 0, g2 := 0, m := 0, gustSpeed := 0,
    meanSpeed := 0, excess := 0, gust := false, lift := 0, d1 := 0, d2 := 0, dustLevel := 0 }

/-- A station slot after power-on reset (R79, R93). -/
def Station.cleared : Station := { cfg := .default, health := .cleared, comp := .cleared }

/-- The pile configuration defaults (R94). -/
def PileCfg.default : PileCfg := { enable := false, weight := 0, primary := 0, fallback := none }

/-- The pile dynamic record's reset values (R95, R108). -/
def PileDyn.cleared : PileDyn :=
  { activity := .idle, wet := 0, shielded := false, source := .waiting, lastSector := none,
    lastContribution := 0 }

/-- PLU after a reset (R108). -/
def Plu.cleared : Plu :=
  { piles := Vector.replicate 24 { cfg := .default, dyn := .cleared }, yardRejects := 0 }

/-- The cleared plume entry: what an index with nothing listed reads as (R110, R126). -/
def PlumeEntry.cleared : PlumeEntry := { zone := 0, lag := 0, weight := 0 }

/-- The cleared zone configuration record (R111). -/
def ZoneCfg.cleared : ZoneCfg :=
  { enable := false, watch := 4095, warn := 4095, alert := 4095, watchHold := 1, warnHold := 1,
    alertHold := 1, rUp := 1, rDown := 1, confirmRequired := false, confirm1 := none,
    confirm2 := none, confirm3 := none, confirmThreshold := 0, relaxAllowed := false,
    sign1 := none, sign2 := none }

/-- A bank after a reset (R126). -/
def Bank.cleared : Bank := { plume := [], zones := Vector.replicate 32 .cleared, valid := false }

/-- PJU after a reset (R126). -/
def Pju.cleared : Pju :=
  { bank0 := .cleared, bank1 := .cleared, activeIs1 := false, swapPending := false,
    feeders := Vector.replicate 32 0, contributions := [] }

/-- The tuple of a zone at rest (R145). -/
def Tuple.rest : Tuple := { level := .clear, drill := false, degraded := false }

/-- A zone record after a reset (R146). -/
def Zone.cleared : Zone :=
  { arrivals := Vector.replicate 16 0, xs := 0, level := .clear, hold := 0, degraded := false,
    drillTimer := 0, effective := .clear, lastSent := .rest, signPending := false, refresh := 1 }

/-- ZNU after a reset (R146, R154). -/
def Znu.cleared : Znu := { zones := Vector.replicate 32 .cleared, drillAtClose := false }

/-- A line configuration record after a reset (R160). -/
def LineCfg.default : LineCfg := { mask := 0, minLevel := .alert, drillPass := false }

/-- OUT while a reset is held (R165). -/
def Out.cleared : Out :=
  { lines := Vector.replicate 8 .default, refreshPeriod := 10, panelMode := .zones,
    service := Vector.replicate 32 [], wl := Vector.replicate 8 false, svc := true,
    panel := none }

/-- A notice class after a reset: disabled, masked, no status (R178). -/
def ClassFlags.cleared : ClassFlags := { enable := false, mask := true, status := false }

/-- Notice control after a reset (R178). -/
def Notices.cleared : Notices :=
  { zone := .cleared, station := .cleared, pile := .cleared, round := .cleared,
    drill := .cleared, trunk := .cleared, lostFlag := false, queued := 0, lost := 0 }

/-- The snapshot after a reset: every field 0, both flags clear (R176). -/
def Snapshot.cleared : Snapshot :=
  { roundNumber := 0,
    stations := Vector.replicate 48
      { health := 0, sector := 0, gustSpeed := 0, meanSpeed := 0, lift := 0, dustLevel := 0 },
    zones := Vector.replicate 32
      { exposure := 0, level := 0, effective := 0, drill := 0, degraded := 0 },
    ready := false, armed := false }

/-- MGU after a reset; the reset cause and the retired count stand until the release (R177,
R178). -/
def Mgu.cleared (cause : ResetCause) (retired : Nat) : Mgu :=
  { requests := [], executing := none, copyTimer := none, received := 0, dropped := 0,
    notices := .cleared, snapshot := .cleared, resetCause := cause, retiredAtRelease := retired }

/-- The part in power-on reset, not yet released, with no command waiting: every block at its
power-on values (R16, R35, R58, R79, R93, R108, R126, R146, R154, R165, R178). The strap value
before the first release is 0: DESIGN CHOICE, the manual latches it only at a release
(notes/assumptions/1.md). -/
def State.reset : State :=
  { pending := [], resetHeld := some .powerOn, tif := .cleared 0, rct := .cleared,
    sin := Vector.replicate 48 .cleared, stu := Vector.replicate 48 .cleared, plu := .cleared,
    pju := .cleared, znu := .cleared, out := .cleared, mgu := .cleared .powerOn 0,
    stage := .idle }

end Sys2Proof.Machine
end

