-- ==== Sys2Proof/Machine/Ops.lean ====
section
/-! DEFINITION. The named operations over State that every block uses: table access, counters, the
block setters, the part's clock, and the gate of a held reset. -/

namespace Sys2Proof.Machine

/-! ### Tables of a fixed number of records -/

/-- The table with record `i` replaced. -/
def tableSet {α : Type} {n : Nat} (v : Vector α n) (i : Fin n) (x : α) : Vector α n :=
  v.set i.val x i.isLt

/-- The table with every record `i` replaced by `f i record`. -/
def tableMap {α β : Type} {n : Nat} (f : Fin n → α → β) (v : Vector α n) : Vector β n :=
  Vector.ofFn fun i => f i v[i]

/-- The indices of a table in index order. -/
def indices (n : Nat) : List (Fin n) := List.finRange n

/-- The index of a number that names a record of a table, or none. -/
def indexOf (n k : Nat) : Option (Fin n) := if h : k < n then some ⟨k, h⟩ else none

/-! ### Numbers -/

/-- A counter after one increment: it stops at 65535 (R15, R57, R178; 00_scope "Counters"). -/
def bump (n : Nat) : Nat := min Config.counterTop (n + 1)

/-- An increment that stops at 255 (R83, R175). -/
def bump255 (n : Nat) : Nat := min 255 (n + 1)

/-! ### Block setters -/

/-- The state with TIF replaced. -/
def State.setTif (s : State) (x : Tif) : State := { s with tif := x }
/-- The state with RCT replaced. -/
def State.setRct (s : State) (x : Rct) : State := { s with rct := x }
/-- The state with SIN replaced. -/
def State.setSin (s : State) (x : Vector Intake 48) : State := { s with sin := x }
/-- The state with STU replaced. -/
def State.setStu (s : State) (x : Vector Station 48) : State := { s with stu := x }
/-- The state with PLU replaced. -/
def State.setPlu (s : State) (x : Plu) : State := { s with plu := x }
/-- The state with PJU replaced. -/
def State.setPju (s : State) (x : Pju) : State := { s with pju := x }
/-- The state with ZNU replaced. -/
def State.setZnu (s : State) (x : Znu) : State := { s with znu := x }
/-- The state with OUT replaced. -/
def State.setOut (s : State) (x : Out) : State := { s with out := x }
/-- The state with MGU replaced. -/
def State.setMgu (s : State) (x : Mgu) : State := { s with mgu := x }
/-- The state with the evaluation's progress replaced. -/
def State.setStage (s : State) (x : EvalStage) : State := { s with stage := x }
/-- The state with the command queue replaced. -/
def State.setPending (s : State) (x : List Instr) : State := { s with pending := x }
/-- The state with the reset in force replaced. -/
def State.setResetHeld (s : State) (x : Option ResetCause) : State := { s with resetHeld := x }

/-! ### Records of a block -/

/-- Station slot `i` of STU. -/
def State.station (s : State) (i : Fin 48) : Station := s.stu[i]
/-- Round slot `i` of SIN. -/
def State.intake (s : State) (i : Fin 48) : Intake := s.sin[i]
/-- Pile slot `i` of PLU. -/
def State.pile (s : State) (i : Fin 24) : Pile := s.plu.piles[i]
/-- Zone record `i` of ZNU. -/
def State.zone (s : State) (i : Fin 32) : Zone := s.znu.zones[i]

/-- The state with station slot `i` replaced. -/
def State.setStation (s : State) (i : Fin 48) (x : Station) : State :=
  s.setStu (tableSet s.stu i x)
/-- The state with round slot `i` replaced. -/
def State.setIntake (s : State) (i : Fin 48) (x : Intake) : State :=
  s.setSin (tableSet s.sin i x)
/-- The state with pile slot `i` replaced. -/
def State.setPile (s : State) (i : Fin 24) (x : Pile) : State :=
  s.setPlu { s.plu with piles := tableSet s.plu.piles i x }
/-- The state with zone record `i` replaced. -/
def State.setZone (s : State) (i : Fin 32) (x : Zone) : State :=
  s.setZnu { s.znu with zones := tableSet s.znu.zones i x }
/-- The state with every zone record `i` replaced by `f i record`. -/
def State.mapZones (s : State) (f : Fin 32 → Zone → Zone) : State :=
  s.setZnu { s.znu with zones := tableMap f s.znu.zones }
/-- The state with every pile slot `i` replaced by `f i record`. -/
def State.mapPiles (s : State) (f : Fin 24 → Pile → Pile) : State :=
  s.setPlu { s.plu with piles := tableMap f s.plu.piles }
/-- The state with every station slot `i` replaced by `f i record`. -/
def State.mapStations (s : State) (f : Fin 48 → Station → Station) : State :=
  s.setStu (tableMap f s.stu)
/-- The state with every round slot `i` replaced by `f i record`. -/
def State.mapIntakes (s : State) (f : Fin 48 → Intake → Intake) : State :=
  s.setSin (tableMap f s.sin)

/-! ### Conditions many blocks read -/

/-- The operating state is RUN (R18). -/
def State.running (s : State) : Bool := s.rct.opState == .run

/-- A station is HEALTHY (R88). -/
def State.healthy (s : State) (i : Fin 48) : Bool := (s.station i).health.state == .healthy

/-- A drill is running: some zone's drill timer is above 0 (R147). -/
def State.drillRunning (s : State) : Bool := (indices 32).any fun z => 0 < (s.zone z).drillTimer

/-- A station's kind and enable leave it in service: kind not NONE and enable set (R80, R91). -/
def StationCfg.inService (c : StationCfg) : Bool := c.kind != .absent && c.enable

/-! ### Time -/

/-- A timer that runs has reached `ms` milliseconds. -/
def reached (ms : Nat) : Option Nat → Bool
  | some n => ms ≤ n
  | none => false

/-- The span of the round timer and of the probe timer, P × 50 ms (R23, R32). -/
def Rct.periodMs (r : Rct) : Nat := r.period * Config.periodUnitMs

/-- The close deadline of a round, (P × 50 − 100) ms after its opening (R23). -/
def Rct.deadlineMs (r : Rct) : Nat := r.periodMs - Config.closeReserveMs

/-- One millisecond passes: the arrival clock, while it runs, counts and stops at 8191 (R29), and
the timers that run count (R23, R32). -/
def Rct.passTime (r : Rct) : Rct :=
  { r with
    clock := if r.clockRuns then min Config.clockTop (r.clock + 1) else r.clock
    roundTimer := r.roundTimer.map (· + 1)
    closeTimer := r.closeTimer.map (· + 1)
    probeTimer := r.probeTimer.map (· + 1) }

/-- One millisecond of a COPY in execution passes (R119). -/
def Mgu.passTime (m : Mgu) : Mgu := { m with copyTimer := m.copyTimer.map (· + 1) }

/-- One millisecond passes for the part. -/
def State.passTime (s : State) : State := (s.setRct s.rct.passTime).setMgu s.mgu.passTime

/-! ### Reset in force -/

/-- What a command does while no reset is held. While a reset is held the framers take no bytes,
the transmitters, the timers and the panel stream stand, and the queues are empty (R1, R16, R35,
R165): no event but a reset or its release can happen, and the state stays as it is. -/
def whenReleased (f : State → State) (s : State) : Host.Outcome State Fault Refusal :=
  .next (if s.resetHeld.isSome then s else f s)

end Sys2Proof.Machine
end

