-- ==== Sys2Proof/Machine/Trunk.lean ====
section
/-! DEFINITION. TIF's outbound side and framers as pure operations (R3 to R5, R11 to R14). -/

namespace Sys2Proof.Machine

/-- The other port: a frame that arrives on one port leaves on the other (R1, R9). -/
def otherPort : Port → Port
  | .field => .quay
  | .quay => .field

/-- The port's state. -/
def Tif.port (t : Tif) : Port → PortState
  | .field => t.fieldPort
  | .quay => t.quayPort

/-- TIF with one port's state replaced. -/
def Tif.setPort (t : Tif) (p : Port) (x : PortState) : Tif :=
  match p with
  | .field => { t with fieldPort := x }
  | .quay => { t with quayPort := x }

/-- TIF with one port's state changed. -/
def Tif.modPort (t : Tif) (p : Port) (f : PortState → PortState) : Tif := t.setPort p (f (t.port p))

/-- The state with one port's state changed. -/
def State.modPort (s : State) (p : Port) (f : PortState → PortState) : State :=
  s.setTif (s.tif.modPort p f)

/-- The room of an insertion queue: 16 minus the frames held minus the reservations (R12). -/
def PortState.room (p : PortState) : Nat := Config.queueDepth - p.queue.length - p.reserved

/-! ### Arbitration -/

/-- The outbound port begins to send the head of its transit FIFO (R14, R15). -/
def PortState.takeTransit (p : PortState) (f : Frame) (rest : List Frame) : PortState :=
  { p with
    transit := rest, sending := some f, lastTaken := .transit
    framesForwarded := bump p.framesForwarded }

/-- The outbound port begins to send the head of its insertion queue (R14, R15). -/
def PortState.takeInsertion (p : PortState) (f : Frame) (rest : List Frame) : PortState :=
  { p with
    queue := rest, sending := some f, lastTaken := .insertion
    framesInserted := bump p.framesInserted }

/-- Selection between the transit FIFO and the insertion queue (R14, lines 2 to 4). -/
def PortState.select (p : PortState) : PortState :=
  match p.transit, p.queue with
  | f :: fs, q :: qs =>
    match p.lastTaken with
    | .insertion => p.takeTransit f fs
    | .transit => p.takeInsertion q qs
  | f :: fs, [] => p.takeTransit f fs
  | [], q :: qs => p.takeInsertion q qs
  | [], [] => { p with sending := none }

/-- The MARK a port may send: only the field outbound port has the MARK slot (R13, R14). -/
def Tif.markFor (t : Tif) : Port → Option Frame
  | .field => t.markSlot
  | .quay => none

/-- An outbound port selects its next frame: the MARK first, its last-taken mark unchanged, and
otherwise between its two sources (R14). -/
def Tif.select (p : Port) (t : Tif) : Tif :=
  match t.markFor p with
  | some m =>
    let t := { t with markSlot := none }
    t.modPort p fun ps =>
      { ps with sending := some m, framesInserted := bump ps.framesInserted }
  | none => t.modPort p PortState.select

/-- A port that is idle selects at once when a frame becomes available (R14). -/
def Tif.wake (p : Port) (t : Tif) : Tif :=
  if (t.port p).sending.isNone then t.select p else t

/-- A group of frames offered to a port's insertion queue: taken whole, in the order offered, if
the room is at least the group's size, and refused whole (none) otherwise (R12). -/
def Tif.offer (p : Port) (group : List Frame) (t : Tif) : Option Tif :=
  if group.length ≤ (t.port p).room then
    some ((t.modPort p fun ps => { ps with queue := ps.queue ++ group }).wake p)
  else none

/-- One place of a port's insertion queue is reserved for a response (R12). -/
def Tif.reserve (p : Port) (t : Tif) : Tif :=
  t.modPort p fun ps => { ps with reserved := ps.reserved + 1 }

/-- A response enters its reserved place behind the newest frame (R12). -/
def Tif.enterReserved (p : Port) (f : Frame) (t : Tif) : Tif :=
  (t.modPort p fun ps =>
    { ps with reserved := ps.reserved - 1, queue := ps.queue ++ [f] }).wake p

/-- A MARK placed in the slot, replacing any MARK held there (R13). -/
def Tif.placeMark (m : Frame) (t : Tif) : Tif := { t with markSlot := some m }.wake .field

/-- A frame offered to the transit FIFO that outbound port `p` drains: added behind the newest if
fewer than 8 are held, and discarded (none) otherwise (R11). An idle port has yet to select
(`Tif.wake`): what enters its other source at the same instant is selected from as well (R14). -/
def Tif.enterTransit (p : Port) (f : Frame) (t : Tif) : Option Tif :=
  if (t.port p).transit.length < Config.transitDepth then
    some (t.modPort p fun ps => { ps with transit := ps.transit ++ [f] })
  else none

/-! ### Framers -/

/-- What a framer does with what its port presents: its next state, the bytes it discards as stray
bytes, and the frame that arrives, if one does. -/
structure FramerStep where
  /-- next state of the framer -/
  next : Framer
  /-- stray bytes discarded -/
  strays : Nat
  /-- the frame that arrives -/
  arrived : Option Frame
  deriving DecidableEq, Repr

/-- A step that discards nothing and brings no frame. -/
def FramerStep.quiet (f : Framer) : FramerStep := { next := f, strays := 0, arrived := none }

/-- A known-class frame takes one more byte; it arrives at its L-th byte (R4). -/
def knownByte (bytes : Frame) (length : Nat) (b : Byte) : FramerStep :=
  let got := bytes ++ [b]
  if got.length < length then .quiet (.known got length)
  else { next := .hunt, strays := 0, arrived := some got }

/-- An unknown-class frame takes one more byte: a 0x3D that completes a sync pattern ends the frame
before that pattern's 0xA6 and opens the next frame; the 64th byte ends the frame (R5). -/
def unknownByte (bytes : Frame) (pair : Bool) (b : Byte) : FramerStep :=
  if pair && b == sync2 then { next := .header, strays := 0, arrived := some bytes.dropLast }
  else
    let got := bytes ++ [b]
    if got.length < Config.longestFrame then .quiet (.unknown got (b == sync1))
    else { next := .hunt, strays := 0, arrived := some got }

/-- The framer on a byte (R3 to R5). -/
def Framer.onByte (b : Byte) : Framer → FramerStep
  | .hunt => if b = sync1 then .quiet .sawA6 else { next := .hunt, strays := 1, arrived := none }
  | .sawA6 =>
    if b = sync2 then .quiet .header
    else if b = sync1 then { next := .sawA6, strays := 1, arrived := none }
    else { next := .hunt, strays := 2, arrived := none }
  | .header =>
    match classOfByte b with
    | some c => .quiet (.known [sync1, sync2, b] c.frameBytes)
    | none => .quiet (.unknown [sync1, sync2, b] false)
  | .known bytes length => knownByte bytes length b
  | .unknown bytes pair => unknownByte bytes pair b

/-- The framer on line idle (R3 to R5). -/
def Framer.onIdle : Framer → FramerStep
  | .hunt => .quiet .hunt
  | .sawA6 => { next := .hunt, strays := 1, arrived := none }
  | .header => { next := .hunt, strays := 2, arrived := none }
  | .known bytes _ => { next := .hunt, strays := 0, arrived := some bytes }
  | .unknown bytes _ => .quiet (.unknown bytes false)

/-- The framer on what its port presents. -/
def Framer.on (rx : Line) (f : Framer) : FramerStep :=
  match rx with
  | .byte b => f.onByte b
  | .idle => f.onIdle

/-- A counter after `n` increments, each stopping at 65535 (R15). -/
def bumpBy (n k : Nat) : Nat := min Config.counterTop (k + n)

/-- Where the framer stands right after the frame `f` arrived: a known-class frame or one of 64
bytes leaves it in HUNT, a shorter unknown-class frame was ended by the sync pattern that opens
the next (R4, R5). -/
def framerAfter (f : Frame) : Framer :=
  if (frameClass f).isNone && f.length < Config.longestFrame then .header else .hunt

end Sys2Proof.Machine
end

