-- ==== Sys2Proof/Machine/Flags.lean ====
section
/-! DEFINITION. The notice enables, masks and status flags, the events blocks raise into them, and
the TRUNK tallies (R172 to R175), with the codes of R182 that notices carry. -/

namespace Sys2Proof.Machine

/-! ### Codes (R182) -/

/-- Level codes. -/
def Level.code : Level → Nat
  | .clear => 0
  | .watch => 1
  | .warn => 2
  | .alert => 3

/-- Health state codes. -/
def Health.code : Health → Nat
  | .off => 0
  | .unseen => 1
  | .healthy => 2
  | .stale => 3
  | .retired => 4

/-- Wind source codes. -/
def WindSource.code : WindSource → Nat
  | .waiting => 0
  | .primary => 1
  | .fallback => 2
  | .blind => 3

/-- Notice class codes. -/
def NoticeClass.code : NoticeClass → Nat
  | .zone => 1
  | .station => 2
  | .pile => 3
  | .round => 4
  | .drill => 5
  | .trunk => 6

/-- The number by which a notice names a port (R174). -/
def portCode : Port → Nat
  | .field => 0
  | .quay => 1

/-! ### Class flags -/

/-- The flags of a class. -/
def Notices.flags (n : Notices) : NoticeClass → ClassFlags
  | .zone => n.zone
  | .station => n.station
  | .pile => n.pile
  | .round => n.round
  | .drill => n.drill
  | .trunk => n.trunk

/-- The notice control with a class's flags replaced. -/
def Notices.setFlags (n : Notices) (c : NoticeClass) (x : ClassFlags) : Notices :=
  match c with
  | .zone => { n with zone := x }
  | .station => { n with station := x }
  | .pile => { n with pile := x }
  | .round => { n with round := x }
  | .drill => { n with drill := x }
  | .trunk => { n with trunk := x }

/-- The six classes in class-code order. -/
def noticeClasses : List NoticeClass := [.zone, .station, .pile, .round, .drill, .trunk]

/-- The notice control with a class's status set. -/
def Notices.setStatus (n : Notices) (c : NoticeClass) : Notices :=
  n.setFlags c { n.flags c with status := true }

/-- The notice control with all six status flags and the notice-lost flag clear (R173). -/
def Notices.clearStatus (n : Notices) : Notices :=
  { n with
    zone := { n.zone with status := false }, station := { n.station with status := false }
    pile := { n.pile with status := false }, round := { n.round with status := false }
    drill := { n.drill with status := false }, trunk := { n.trunk with status := false }
    lostFlag := false }

/-- The notice status field: ZONE to TRUNK in bits 0 to 5, notice-lost in bit 6 (R173, R182). -/
def Notices.statusField (n : Notices) : Nat :=
  flagCode n.zone.status + 2 * flagCode n.station.status + 4 * flagCode n.pile.status
    + 8 * flagCode n.round.status + 16 * flagCode n.drill.status + 32 * flagCode n.trunk.status
    + 64 * flagCode n.lostFlag

/-- The state with the notice control changed. -/
def State.setNotices (s : State) (n : Notices) : State := s.setMgu { s.mgu with notices := n }

/-! ### Notices -/

/-- What a NOTICE frame says beside its class (R174). -/
structure Report where
  /-- subject -/
  subject : Nat
  /-- old value -/
  old : Nat
  /-- new value -/
  new : Nat
  /-- flags byte -/
  flags : Nat
  deriving DecidableEq, Repr

/-- A NOTICE frame is offered to the quay insertion queue as a group of one: taken, it counts as
queued; without room it is dropped, the notice-lost flag is set and it counts as lost (R172). -/
def sendNotice (c : NoticeClass) (r : Report) (s : State) : State :=
  let f := noticeFrame s.tif.strap s.rct.roundNumber c.code r.subject r.old r.new r.flags
  let n := s.mgu.notices
  match s.tif.offer .quay [f] with
  | some t => (s.setTif t).setNotices { n with queued := bump n.queued }
  | none => s.setNotices { n with lostFlag := true, lost := bump n.lost }

/-- A block raises an event: under the class's enable the status is set, and with the mask clear a
NOTICE frame is offered (R172). -/
def raise (c : NoticeClass) (r : Report) (s : State) : State :=
  let fl := s.mgu.notices.flags c
  if fl.enable then
    let s := s.setNotices (s.mgu.notices.setStatus c)
    if fl.mask then s else sendNotice c r s
  else s

/-- Events raised one after another, in the order of the list. -/
def raiseAll (events : List (NoticeClass × Report)) (s : State) : State :=
  events.foldl (fun s e => raise e.1 e.2 s) s

/-! ### TRUNK events and tallies (R175) -/

/-- The two errors that raise a TRUNK event (R6, R11). -/
inductive TrunkError where
  | crc | drop
  deriving DecidableEq, Repr

/-- The port's counter and, when tallied, its tally of the round, after one error (R15, R175). -/
def PortState.countError (tallied : Bool) (p : PortState) : TrunkError → PortState
  | .crc =>
    { p with
      crcErrors := bump p.crcErrors
      crcTally := if tallied then bump255 p.crcTally else p.crcTally }
  | .drop =>
    { p with
      transitDrops := bump p.transitDrops
      dropTally := if tallied then bump255 p.dropTally else p.dropTally }

/-- TIF counts an error of port `p` and raises a TRUNK event naming it: the TRUNK status is set
while the class is enabled, no notice is sent at once, and while the class is enabled and the
state is RUN the port's tally counts (R6, R11, R15, R175). -/
def trunkError (p : Port) (e : TrunkError) (s : State) : State :=
  let enabled := s.mgu.notices.trunk.enable
  let s := s.modPort p fun ps => ps.countError (enabled && s.running) e
  if enabled then s.setNotices (s.mgu.notices.setStatus .trunk) else s

/-- A port's tallies set to 0 (R175). -/
def PortState.clearTallies (p : PortState) : PortState := { p with crcTally := 0, dropTally := 0 }

/-- Both ports' tallies set to 0 (R175). -/
def clearTallies (s : State) : State :=
  (s.modPort .field PortState.clearTallies).modPort .quay PortState.clearTallies

/-- The TRUNK notice of one port at a close: sent when a tally is above 0 and the mask is clear;
both tallies are then 0 (R175). -/
def trunkNotice (p : Port) (s : State) : State :=
  let ps := s.tif.port p
  let s :=
    if (0 < ps.crcTally || 0 < ps.dropTally) && !s.mgu.notices.trunk.mask then
      sendNotice .trunk { subject := portCode p, old := ps.crcTally, new := ps.dropTally, flags := 0 } s
    else s
  s.modPort p PortState.clearTallies

/-- The TRUNK notices of a close: the field port, then the quay port (R175). -/
def trunkNotices (s : State) : State := trunkNotice .quay (trunkNotice .field s)

end Sys2Proof.Machine
end

