-- ==== Sys2Proof/Machine/Operands.lean ====
section
/-! DEFINITION. How the value of a WRITE is judged by the kind of its field, and the codes of R182
that table fields are written and read with (R19, R37, R94, R111, R169, R179, R182). -/

namespace Sys2Proof.Machine

/-- Response status (R169). -/
inductive Status where
  | ok | clamped | badAddr | badValue | wrongState
  deriving DecidableEq, Repr

/-- Status codes (R182). -/
def Status.code : Status → Nat
  | .ok => 0
  | .clamped => 1
  | .badAddr => 2
  | .badValue => 3
  | .wrongState => 4

/-! ### Judging a value -/

/-- A written value judged by its field: stored as it is, stored at the nearer bound, or out of
the field's set (R169, step 4). -/
inductive Judged (α : Type) where
  | stored (x : α)
  | clamped (x : α)
  | bad
  deriving DecidableEq, Repr

/-- A judged value stored into a record. -/
def Judged.into {α β : Type} (store : α → β) : Judged α → Judged β
  | .stored x => .stored (store x)
  | .clamped x => .clamped (store x)
  | .bad => .bad

/-- An enumeration or reference: a code of the set is stored, any other is refused (R169). -/
def Judged.ofOption {α : Type} : Option α → Judged α
  | some x => .stored x
  | none => .bad

/-- A magnitude lo..hi, judged on the whole 16-bit word: outside, the nearer bound (R169, R179). -/
def judgeMagnitude (lo hi : Nat) (w : Word) : Judged Nat :=
  if w.toNat < lo then .clamped lo
  else if hi < w.toNat then .clamped hi
  else .stored w.toNat

/-- A flag: 0 or 1 (R37, R94, R111). -/
def judgeFlag (w : Word) : Judged Bool :=
  if w.toNat = 0 then .stored false else if w.toNat = 1 then .stored true else .bad

/-- A station reference 0..47 (R94). -/
def judgeStation (w : Word) : Judged (Fin 48) := .ofOption (indexOf 48 w.toNat)

/-- An optional station reference: 0..47, or 255 for none (R94, R111, R182). -/
def judgeOptStation (w : Word) : Judged (Option (Fin 48)) :=
  if w.toNat = 255 then .stored none else (judgeStation w).into some

/-- An optional sign address: 0..254, or 255 for none; an upper bit set is out of the field's set
(R111, R179, R182). -/
def judgeOptSign (w : Word) : Judged (Option Byte) :=
  if w.toNat = 255 then .stored none
  else if w.toNat < 255 then .stored (some (w.extractLsb' 0 8))
  else .bad

/-! ### Codes of enumerations (R182) -/

/-- Kind codes. -/
def Kind.code : Kind → Nat
  | .absent => 0
  | .anemo => 1
  | .dust => 2

/-- The kind of a code. -/
def kindOfCode : Nat → Option Kind
  | 0 => some .absent
  | 1 => some .anemo
  | 2 => some .dust
  | _ => none

/-- Rotation mode codes. -/
def Rotation.code : Rotation → Nat
  | .direct => 0
  | .skewPlus => 1
  | .skewMinus => 2

/-- The rotation mode of a code. -/
def rotationOfCode : Nat → Option Rotation
  | 0 => some .direct
  | 1 => some .skewPlus
  | 2 => some .skewMinus
  | _ => none

/-- Close mode codes. -/
def CloseMode.code : CloseMode → Nat
  | .deadline => 0
  | .allIn => 1

/-- The close mode of a code. -/
def closeModeOfCode : Nat → Option CloseMode
  | 0 => some .deadline
  | 1 => some .allIn
  | _ => none

/-- Panel mode codes. -/
def PanelMode.code : PanelMode → Nat
  | .zones => 0
  | .stations => 1

/-- The panel mode of a code. -/
def panelModeOfCode : Nat → Option PanelMode
  | 0 => some .zones
  | 1 => some .stations
  | _ => none

/-- The minimum level of a code; CLEAR is refused (R160). -/
def minLevelOfCode : Nat → Option Level
  | 1 => some .watch
  | 2 => some .warn
  | 3 => some .alert
  | _ => none

/-- Activity codes. -/
def Activity.code : Activity → Nat
  | .idle => 0
  | .working => 1

/-- Operating state codes. -/
def OpState.code : OpState → Nat
  | .config => 0
  | .run => 1

/-- Round phase codes. -/
def Phase.code : Phase → Nat
  | .noRound => 0
  | .opened => 1
  | .evaluating => 2
  | .closed => 3

/-- Reset cause codes. -/
def ResetCause.code : ResetCause → Nat
  | .powerOn => 0
  | .pin => 1

/-- Sector codes: 0..15, CALM 16. -/
def Sector.code : Sector → Nat
  | .dir d => d.val
  | .calm => 16

/-- Optional sector codes: none 255. -/
def optSectorCode : Option Sector → Nat
  | some x => x.code
  | none => 255

/-- Optional station reference codes: none 255. -/
def optStationCode : Option (Fin 48) → Nat
  | some i => i.val
  | none => 255

/-- Optional sign address codes: none 255. -/
def optSignCode : Option Byte → Nat
  | some a => a.toNat
  | none => 255

/-! ### Fields of the configuration records -/

/-- A station's configuration record with field `f` written; none for an unknown field number
(R37, R62, R74, R81, R183). -/
def StationCfg.write (c : StationCfg) (f : Nat) (w : Word) : Option (Judged StationCfg) :=
  match f with
  | 0 => some ((Judged.ofOption (kindOfCode w.toNat)).into fun x => { c with kind := x })
  | 1 => some ((judgeFlag w).into fun x => { c with enable := x })
  | 2 => some ((judgeMagnitude 0 7 w).into fun x => { c with shift := x })
  | 3 => some ((judgeFlag w).into fun x => { c with statusCodes := x })
  | 4 => some ((judgeMagnitude 0 4095 w).into fun x => { c with lo := x })
  | 5 => some ((judgeMagnitude 0 4095 w).into fun x => { c with hi := x })
  | 6 => some ((judgeMagnitude 1 255 w).into fun x => { c with window := x })
  | 7 => some ((Judged.ofOption (rotationOfCode w.toNat)).into fun x => { c with rotation := x })
  | 8 => some ((judgeMagnitude 0 255 w).into fun x => { c with calmThreshold := x })
  | 9 => some ((judgeMagnitude 3 6 w).into fun x => { c with gustCoeff := x })
  | 10 => some ((judgeMagnitude 4 7 w).into fun x => { c with meanShift := x })
  | 11 => some ((judgeMagnitude 0 1406 w).into fun x => { c with gustThreshold := x })
  | 12 => some ((judgeMagnitude 0 1406 w).into fun x => { c with excessThreshold := x })
  | 13 => some ((judgeMagnitude 0 1023 w).into fun x => { c with liftBase := x })
  | 14 => some ((judgeMagnitude 1 4 w).into fun x => { c with persistence := x })
  | 15 => some ((judgeMagnitude 3 6 w).into fun x => { c with dustCoeff := x })
  | 16 => some ((judgeMagnitude 1 15 w).into fun x => { c with staleLimit := x })
  | 17 => some ((judgeMagnitude 0 255 w).into fun x => { c with settleRounds := x })
  | _ => none

/-- The fields of a station's configuration record, by number (R183). -/
def StationCfg.fields (c : StationCfg) : List Nat :=
  [c.kind.code, flagCode c.enable, c.shift, flagCode c.statusCodes, c.lo, c.hi, c.window,
    c.rotation.code, c.calmThreshold, c.gustCoeff, c.meanShift, c.gustThreshold,
    c.excessThreshold, c.liftBase, c.persistence, c.dustCoeff, c.staleLimit, c.settleRounds]

/-- A pile's configuration record with field `f` written (R94, R183). -/
def PileCfg.write (c : PileCfg) (f : Nat) (w : Word) : Option (Judged PileCfg) :=
  match f with
  | 0 => some ((judgeFlag w).into fun x => { c with enable := x })
  | 1 => some ((judgeMagnitude 0 15 w).into fun x => { c with weight := x })
  | 2 => some ((judgeStation w).into fun x => { c with primary := x })
  | 3 => some ((judgeOptStation w).into fun x => { c with fallback := x })
  | _ => none

/-- The fields of a pile's configuration record (R183). -/
def PileCfg.fields (c : PileCfg) : List Nat :=
  [flagCode c.enable, c.weight, c.primary.val, optStationCode c.fallback]

/-- A plume entry with field `f` written (R112, R183). -/
def PlumeEntry.write (e : PlumeEntry) (f : Nat) (w : Word) : Option (Judged PlumeEntry) :=
  match f with
  | 0 => some ((Judged.ofOption (indexOf 32 w.toNat)).into fun x => { e with zone := x })
  | 1 => some ((judgeMagnitude 0 15 w).into fun x => { e with lag := x })
  | 2 => some ((judgeMagnitude 0 8 w).into fun x => { e with weight := x })
  | _ => none

/-- The fields of a plume entry (R183). -/
def PlumeEntry.fields (e : PlumeEntry) : List Nat := [e.zone.val, e.lag, e.weight]

/-- A zone configuration record with field `f` written (R111, R183). -/
def ZoneCfg.write (c : ZoneCfg) (f : Nat) (w : Word) : Option (Judged ZoneCfg) :=
  match f with
  | 0 => some ((judgeFlag w).into fun x => { c with enable := x })
  | 1 => some ((judgeMagnitude 1 4095 w).into fun x => { c with watch := x })
  | 2 => some ((judgeMagnitude 1 4095 w).into fun x => { c with warn := x })
  | 3 => some ((judgeMagnitude 1 4095 w).into fun x => { c with alert := x })
  | 4 => some ((judgeMagnitude 1 255 w).into fun x => { c with watchHold := x })
  | 5 => some ((judgeMagnitude 1 255 w).into fun x => { c with warnHold := x })
  | 6 => some ((judgeMagnitude 1 255 w).into fun x => { c with alertHold := x })
  | 7 => some ((judgeMagnitude 1 16 w).into fun x => { c with rUp := x })
  | 8 => some ((judgeMagnitude 1 16 w).into fun x => { c with rDown := x })
  | 9 => some ((judgeFlag w).into fun x => { c with confirmRequired := x })
  | 10 => some ((judgeOptStation w).into fun x => { c with confirm1 := x })
  | 11 => some ((judgeOptStation w).into fun x => { c with confirm2 := x })
  | 12 => some ((judgeOptStation w).into fun x => { c with confirm3 := x })
  | 13 => some ((judgeMagnitude 0 4095 w).into fun x => { c with confirmThreshold := x })
  | 14 => some ((judgeFlag w).into fun x => { c with relaxAllowed := x })
  | 15 => some ((judgeOptSign w).into fun x => { c with sign1 := x })
  | 16 => some ((judgeOptSign w).into fun x => { c with sign2 := x })
  | _ => none

/-- The fields of a zone configuration record (R183). -/
def ZoneCfg.fields (c : ZoneCfg) : List Nat :=
  [flagCode c.enable, c.watch, c.warn, c.alert, c.watchHold, c.warnHold, c.alertHold, c.rUp,
    c.rDown, flagCode c.confirmRequired, optStationCode c.confirm1, optStationCode c.confirm2,
    optStationCode c.confirm3, c.confirmThreshold, flagCode c.relaxAllowed, optSignCode c.sign1,
    optSignCode c.sign2]

/-- A line configuration record with field `f` written (R160, R183). -/
def LineCfg.write (c : LineCfg) (f : Nat) (w : Word) : Option (Judged LineCfg) :=
  match f with
  | 0 => some (.stored { c with mask := c.mask.extractLsb' 16 16 ++ w })
  | 1 => some (.stored { c with mask := w ++ c.mask.extractLsb' 0 16 })
  | 2 => some ((Judged.ofOption (minLevelOfCode w.toNat)).into fun x => { c with minLevel := x })
  | 3 => some ((judgeFlag w).into fun x => { c with drillPass := x })
  | _ => none

/-- The fields of a line configuration record (R183). -/
def LineCfg.fields (c : LineCfg) : List Nat :=
  [(c.mask.extractLsb' 0 16).toNat, (c.mask.extractLsb' 16 16).toNat, c.minLevel.code,
    flagCode c.drillPass]

/-- The round configuration with setting `f` written; its other fields are read-only (R19,
R183). -/
def Rct.write (r : Rct) (f : Nat) (w : Word) : Option (Judged Rct) :=
  match f with
  | 0 => some ((judgeMagnitude 10 160 w).into fun x => { r with period := x })
  | 1 => some ((Judged.ofOption (closeModeOfCode w.toNat)).into fun x => { r with closeMode := x })
  | 2 => some ((judgeMagnitude 0 250 w).into fun x => { r with roundMax := x })
  | _ => none

/-- The notice control with flag field `f` written: 0..5 enables, 6..11 masks (R172, R183). -/
def Notices.write (n : Notices) (f : Nat) (w : Word) : Option (Judged Notices) :=
  match noticeClasses[f]? with
  | some c => some ((judgeFlag w).into fun x => n.setFlags c { n.flags c with enable := x })
  | none =>
    if 6 ≤ f then
      (noticeClasses[f - 6]?).map fun c =>
        (judgeFlag w).into fun x => n.setFlags c { n.flags c with mask := x }
    else none

end Sys2Proof.Machine
end

