-- ==== Sys2Proof/Machine/Banks.lean ====
section
/-! DEFINITION. The two banks: the plume table as an addressed table in canonical form, the active
and the standby bank, and the feeder masks (R109 to R113, R121). -/

namespace Sys2Proof.Machine

/-! ### Plume table -/

/-- A plume table as its (index, entry) pairs. -/
abbrev Plume := List (Nat × PlumeEntry)

/-- The index of the entry at pile p, sector s and position k (R110). -/
def plumeIndex (p : Fin 24) (s : Fin 16) (k : Fin 4) : Nat := 64 * p.val + 4 * s.val + k.val

/-- The entry at an index; an unlisted index reads as the cleared entry (R126). -/
def plumeRead : Plume → Nat → PlumeEntry
  | [], _ => .cleared
  | (j, e) :: rest, i => if i = j then e else plumeRead rest i

/-- The table without an entry for an index. -/
def plumeErase : Plume → Nat → Plume
  | [], _ => []
  | (j, e) :: rest, i => if i = j then plumeErase rest i else (j, e) :: plumeErase rest i

/-- The table with an entry put in index order, before the first larger index. -/
def plumeInsert (i : Nat) (x : PlumeEntry) : Plume → Plume
  | [] => [(i, x)]
  | (j, e) :: rest => if i < j then (i, x) :: (j, e) :: rest else (j, e) :: plumeInsert i x rest

/-- The table with the entry at an index replaced. Writing the cleared entry leaves the index
unlisted, so equal tables are equal lists. -/
def plumeWrite (t : Plume) (i : Nat) (x : PlumeEntry) : Plume :=
  if x = .cleared then plumeErase t i else plumeInsert i x (plumeErase t i)

/-- The canonical form: indices strictly rising, all above `lo` when one is given, below 1536, and
no entry equal to the cleared entry. -/
def plumeWfFrom : Nat → Plume → Bool
  | _, [] => true
  | lo, (j, e) :: rest => lo ≤ j && j < 1536 && e != PlumeEntry.cleared && plumeWfFrom (j + 1) rest

/-- The canonical form of a plume table. -/
def plumeWf (t : Plume) : Bool := plumeWfFrom 0 t

/-! ### Active and standby bank -/

/-- The bank in service (R109). -/
def Pju.active (p : Pju) : Bank := if p.activeIs1 then p.bank1 else p.bank0

/-- The other bank (R109). -/
def Pju.standby (p : Pju) : Bank := if p.activeIs1 then p.bank0 else p.bank1

/-- PJU with the standby bank replaced (R112). -/
def Pju.setStandby (p : Pju) (b : Bank) : Pju :=
  if p.activeIs1 then { p with bank0 := b } else { p with bank1 := b }

/-- The number of the active bank (R113). -/
def Pju.activeNumber (p : Pju) : Nat := if p.activeIs1 then 1 else 0

/-- The number of the standby bank. -/
def Pju.standbyNumber (p : Pju) : Nat := if p.activeIs1 then 0 else 1

/-- A zone's record in the active zone configuration table (R111). -/
def State.zoneCfg (s : State) (z : Fin 32) : ZoneCfg := s.pju.active.zones[z]

/-- A zone is enabled in the active bank (R141). -/
def State.zoneEnabled (s : State) (z : Fin 32) : Bool := (s.zoneCfg z).enable

/-- The hold duration a record gives a level; a zone at CLEAR holds 0 (R133). -/
def ZoneCfg.holdOf (c : ZoneCfg) : Level → Nat
  | .clear => 0
  | .watch => c.watchHold
  | .warn => c.warnHold
  | .alert => c.alertHold

/-- The confirm slots 1 to 3 of a record (R111). -/
def ZoneCfg.confirmSlots (c : ZoneCfg) : List (Option (Fin 48)) :=
  [c.confirm1, c.confirm2, c.confirm3]

/-- The sign addresses of a record that are not none, address 1 first (R156). -/
def ZoneCfg.signAddresses (c : ZoneCfg) : List Byte := [c.sign1, c.sign2].filterMap id

/-! ### Feeder masks -/

/-- The feeder mask of a zone: pile p is in it when some used entry of p's lists names the zone
(R121). -/
def feederMask (t : Plume) (z : Fin 32) : BitVec 24 :=
  t.foldl (fun m e =>
    if e.2.weight ≠ 0 ∧ e.2.zone = z then m ||| BitVec.twoPow 24 (e.1 / 64) else m) 0

/-- All 32 masks of a plume table (R121). -/
def feederMasks (t : Plume) : Vector (BitVec 24) 32 := Vector.ofFn (feederMask t)

end Sys2Proof.Machine
end

