-- ==== Sys2Proof/Machine/Outputs.lean ====
section
/-! DEFINITION. OUT: the display tuple, the warning lines and SVC, SIGN frames, the SERVICE signs
and their drain, and the panel frame (chapter 10). -/

namespace Sys2Proof.Machine

/-- A zone's display tuple, the drill flag read from the timer as it stands (R155). -/
def Zone.tuple (z : Zone) : Tuple :=
  { level := z.effective, drill := 0 < z.drillTimer, degraded := z.degraded }

/-! ### Lines and SVC -/

/-- A zone drives a warning line (R161). -/
def lineDrivenBy (l : LineCfg) (z : Fin 32) (enabled : Bool) (t : Tuple) : Bool :=
  l.mask.getLsbD z.val && enabled && l.minLevel.code ≤ t.level.code && (!t.drill || l.drillPass)

/-- A warning line is to be active: in RUN, when at least one zone drives it (R161). -/
def lineLevel (s : State) (n : Fin 8) : Bool :=
  s.running && (indices 32).any fun z =>
    lineDrivenBy s.out.lines[n] z (s.zoneEnabled z) (s.zone z).tuple

/-- Some station is RETIRED (R162). -/
def anyRetired (s : State) : Bool :=
  (indices 48).any fun i => (s.station i).health.state == .retired

/-- Some zone's degraded flag is set (R162). -/
def anyDegraded (s : State) : Bool := (indices 32).any fun z => (s.zone z).degraded

/-- SVC is to be active: in CONFIG, and in RUN when a zone is degraded or a station RETIRED
(R162). -/
def svcLevel (s : State) : Bool := !s.running || anyDegraded s || anyRetired s

/-- OUT re-evaluates the warning lines and SVC (R161, R162). -/
def reevaluate (s : State) : State :=
  s.setOut { s.out with wl := Vector.ofFn (lineLevel s), svc := svcLevel s }

/-! ### SIGN frames -/

/-- The group of a zone's SIGN frames, one per address given, in order (R156, R157). -/
def signGroup (s : State) (z : Fin 32) (t : Tuple) (addresses : List Byte) : List Frame :=
  addresses.map fun a =>
    signFrame s.tif.strap a s.rct.roundNumber z.val t.level.code t.drill t.degraded false

/-- The group of a zone's SERVICE signs: level CLEAR, SERVICE set, round byte 0 (R159). -/
def serviceGroup (s : State) (z : Fin 32) (addresses : List Byte) : List Frame :=
  addresses.map fun a => signFrame s.tif.strap a 0 z.val 0 false false true

/-- Step 1 of the sign pass: the refresh countdown (R156). -/
def Zone.countRefresh (z : Zone) : Zone := { z with refresh := z.refresh - 1 }

/-- A zone is due at the sign pass (R156, step 2). -/
def Zone.signDue (z : Zone) : Bool := z.tuple != z.lastSent || z.refresh == 0 || z.signPending

/-- The zone's bookkeeping when its group is taken (R156). -/
def Zone.signsTaken (period : Nat) (z : Zone) : Zone :=
  { z with lastSent := z.tuple, refresh := period, signPending := false }

/-- The zone's bookkeeping when its group is refused (R156). -/
def Zone.signsRefused (z : Zone) : Zone := { z with signPending := true }

/-- OUT's sign pass at one zone (R156). -/
def signVisit (s : State) (z : Fin 32) : State :=
  if s.zoneEnabled z then
    let zone := (s.zone z).countRefresh
    if zone.signDue then
      match s.tif.offer .field (signGroup s z zone.tuple (s.zoneCfg z).signAddresses) with
      | some t => (s.setTif t).setZone z (zone.signsTaken s.out.refreshPeriod)
      | none => s.setZone z zone.signsRefused
    else s.setZone z zone
  else s

/-- The zones OUT's sign pass visits: the enabled ones, in index order (R156). -/
def enabledZones (s : State) : List (Fin 32) := (indices 32).filter s.zoneEnabled

/-- The SERVICE signs of a STOP at one zone: taken, or pending with its addresses kept in the
service record (R159). -/
def serviceVisit (s : State) (z : Fin 32) : State :=
  let addresses := (s.zoneCfg z).signAddresses
  if s.zoneEnabled z && !addresses.isEmpty then
    match s.tif.offer .field (serviceGroup s z addresses) with
    | some t => s.setTif t
    | none =>
      (s.setZone z { s.zone z with signPending := true }).setOut
        { s.out with service := tableSet s.out.service z addresses }
  else s

/-- The SERVICE signs of a STOP (R159). -/
def serviceSigns (s : State) : State := (indices 32).foldl serviceVisit s

/-- The drain at one zone: its SERVICE group is offered from its service record (R159). -/
def drainVisit (s : State) (z : Fin 32) : State :=
  if (s.zone z).signPending then
    match s.tif.offer .field (serviceGroup s z s.out.service[z]) with
    | some t =>
      ((s.setTif t).setZone z { s.zone z with signPending := false }).setOut
        { s.out with service := tableSet s.out.service z [] }
    | none => s
  else s

/-- The zones the drain visits: those whose signs are pending, in index order (R159). -/
def pendingZones (s : State) : List (Fin 32) := (indices 32).filter fun z => (s.zone z).signPending

/-! ### Panel -/

/-- The frame whose bit i of the stream is bit i of the list (R184). -/
def panelBits (bits : List Bool) : BitVec 128 :=
  BitVec.ofNat 128 (bits.foldr (fun b n => 2 * n + flagCode b) 0)

/-- A two-bit code, most significant bit first (R163, R184). -/
def twoBits (n : Nat) : List Bool := [n / 2 % 2 == 1, n % 2 == 1]

/-- A station's panel code (R163). -/
def Health.panelCode : Health → Nat
  | .off | .unseen => 0
  | .healthy => 1
  | .stale => 2
  | .retired => 3

/-- The panel frame in mode ZONES (R163, R184). -/
def zonesPanel (s : State) : List Bool :=
  (indices 32).flatMap fun z =>
    let t := (s.zone z).tuple
    twoBits t.level.code ++ [t.drill, t.degraded]

/-- The panel frame in mode STATIONS (R163, R184). -/
def stationsPanel (s : State) : List Bool :=
  ((indices 48).flatMap fun i => twoBits (s.station i).health.state.panelCode)
    ++ (indices 24).map fun p => (s.pile p).dyn.source == .blind

/-- The content captured at bit 0 of a panel frame (R163). -/
def panelContent (s : State) : BitVec 128 :=
  if s.running then
    match s.out.panelMode with
    | .zones => panelBits (zonesPanel s)
    | .stations => panelBits (stationsPanel s)
  else 0

/-- What PDAT carries during bit i of the frame being shifted out; low before the first frame
(R163, R165). -/
def pdat (s : State) (i : Nat) : Bool :=
  match s.out.panel with
  | some f => f.getLsbD i
  | none => false

/-- PFRM is high during bit 0 of each frame and low otherwise (R163). -/
def pfrm (s : State) (i : Nat) : Bool := s.out.panel.isSome && i == 0

end Sys2Proof.Machine
end

