-- ==== Sys2Proof/Machine/Wind.lean ====
section
/-! DEFINITION. STU's arithmetic at a close: rotation, speed index, sector, persistence, gust, mean
and dust filters (chapter 4). Products and differences are exact; every division names its
rounding. -/

namespace Sys2Proof.Machine

/-- Clipping to a..b (00_scope "Clipping"). -/
def clip (a b x : Int) : Int := max a (min b x)

/-- trunc(x × 181 / 256), clipped to −1023..+1023 (R63). -/
def rotated (x : Int) : Int := clip (-1023) 1023 (Int.tdiv (x * 181) 256)

/-- The east and north components (u, v) of a path pair (R63). -/
def rotate (mode : Rotation) (a b : Int) : Int × Int :=
  match mode with
  | .direct => (clip (-1023) 1023 a, clip (-1023) 1023 b)
  | .skewPlus => (rotated (a - b), rotated (a + b))
  | .skewMinus => (rotated (a + b), rotated (a - b))

/-- The speed index M (R64). -/
def speedIndex (u v : Int) : Nat :=
  max u.natAbs v.natAbs + 3 * min u.natAbs v.natAbs / 8

/-- The step j within a quarter of the compass (R65). -/
def sectorStep (ax ay : Nat) : Nat :=
  if 256 * ax < 51 * ay then 0
  else if 256 * ax < 171 * ay then 1
  else if 256 * ay ≥ 171 * ax then 2
  else if 256 * ay ≥ 51 * ax then 3
  else 4

/-- The sector of a step and the signs of u and v (R66). -/
def quadrant (u v : Int) (j : Nat) : Fin 16 :=
  if 0 ≤ u then
    if 0 ≤ v then Fin.ofNat 16 j else Fin.ofNat 16 (8 - j)
  else
    if v < 0 then Fin.ofNat 16 (8 + j) else Fin.ofNat 16 (16 - j)

/-- The computed sector of a round (R65, R66). -/
def computedSector (calmThreshold : Nat) (u v : Int) : Sector :=
  if speedIndex u v < calmThreshold then .calm
  else .dir (quadrant u v (sectorStep u.natAbs v.natAbs))

/-- Reported sector, candidate and run count (R61). -/
structure Persistence where
  /-- S -/
  sector : Sector
  /-- C -/
  candidate : Option Sector
  /-- n -/
  runCount : Nat
  deriving DecidableEq, Repr

/-- The comparison of R67's table. -/
def compareSector (x : Sector) (q : Persistence) : Persistence :=
  if x = q.sector then { q with candidate := none, runCount := 0 }
  else if some x = q.candidate then { q with runCount := q.runCount + 1 }
  else { q with candidate := some x, runCount := 1 }

/-- Stage 4 of an update round (R67). -/
def persist (p : Nat) (x : Sector) (q : Persistence) : Persistence :=
  let q := compareSector x q
  if p ≤ q.runCount then { sector := x, candidate := none, runCount := 0 } else q

/-- A filter step: state + floor(num × (target − state) / den) (R68, R69, R75, R130). -/
def filterStep (num den : Nat) (state target : Nat) : Nat :=
  ((state : Int) + Int.fdiv ((num : Int) * ((target : Int) - (state : Int))) (den : Int)).toNat

/-- The lift index (R71). -/
def liftIndex (gust : Bool) (gustSpeed liftBase : Nat) : Nat :=
  if gust then min 1023 (gustSpeed - liftBase) else 0

/-- An ANEMO station's computation record after an update round (R67 to R71). -/
def updateAnemo (c : StationCfg) (a b : Int) (r : Computation) : Computation :=
  let uv := rotate c.rotation a b
  let target := 16 * speedIndex uv.1 uv.2
  let q := persist c.persistence (computedSector c.calmThreshold uv.1 uv.2)
    { sector := r.sector, candidate := r.candidate, runCount := r.runCount }
  let g1 := filterStep c.gustCoeff 16 r.g1 target
  let g2 := filterStep c.gustCoeff 16 r.g2 g1
  let m := filterStep 1 (2 ^ c.meanShift) r.m target
  let gustSpeed := g2 / 16
  let meanSpeed := m / 16
  let excess := gustSpeed - meanSpeed
  let gust : Bool := c.gustThreshold ≤ gustSpeed && c.excessThreshold ≤ excess
  { r with
    sector := q.sector, candidate := q.candidate, runCount := q.runCount
    g1 := g1, g2 := g2, m := m, gustSpeed := gustSpeed, meanSpeed := meanSpeed
    excess := excess, gust := gust, lift := liftIndex gust gustSpeed c.liftBase }

/-- An ANEMO station's computation record after a seeding round (R72). -/
def seedAnemo (c : StationCfg) (a b : Int) (r : Computation) : Computation :=
  let uv := rotate c.rotation a b
  let m := speedIndex uv.1 uv.2
  { r with
    sector := computedSector c.calmThreshold uv.1 uv.2, candidate := none, runCount := 0
    g1 := 16 * m, g2 := 16 * m, m := 16 * m, gustSpeed := m, meanSpeed := m
    excess := 0, gust := false, lift := 0 }

/-- A DUST station's computation record after an update round (R75). -/
def updateDust (c : StationCfg) (d : Nat) (r : Computation) : Computation :=
  let d1 := filterStep c.dustCoeff 16 r.d1 (16 * d)
  let d2 := filterStep c.dustCoeff 16 r.d2 d1
  { r with d1 := d1, d2 := d2, dustLevel := d2 / 16 }

/-- A DUST station's computation record after a seeding round (R75). -/
def seedDust (d : Nat) (r : Computation) : Computation :=
  { r with d1 := 16 * d, d2 := 16 * d, dustLevel := 16 * d / 16 }

/-- The record after an update round, by the station's kind and reading (R59). -/
def updateRound (c : StationCfg) (reading : Reading) (r : Computation) : Computation :=
  match c.kind, reading with
  | .anemo, .pair a b => updateAnemo c a b r
  | .dust, .dust d => updateDust c d r
  | _, _ => r

/-- The record after a seeding round, by the station's kind and reading (R59). -/
def seedRound (c : StationCfg) (reading : Reading) (r : Computation) : Computation :=
  match c.kind, reading with
  | .anemo, .pair a b => seedAnemo c a b r
  | .dust, .dust d => seedDust d r
  | _, _ => r

end Sys2Proof.Machine
end

