-- ==== Sys2Proof/Machine/StationHealth.lean ====
section
/-! DEFINITION. STU's close pass and the changes ADMIT, configuration writes, START and the drill
end make to a station's records (R59, R78, R82 to R92, R151). -/

namespace Sys2Proof.Machine

/-- The health record after a seeding round (R82). -/
def HealthRecord.seeded (h : HealthRecord) : HealthRecord :=
  { h with state := .healthy, missed := 0, since := 0, reseed := false }

/-- The health record after an update round (R82, R84). -/
def HealthRecord.updated (h : HealthRecord) : HealthRecord :=
  { h with state := .healthy, missed := 0, since := bump h.since, reseed := false }

/-- The fault count at a HEALTHY-to-STALE transition: a transition at or beyond the settle rounds
is a fault (R85). -/
def faultsAtStale (settleRounds since faults : Nat) : Nat :=
  if settleRounds ≤ since then min Config.retireFaults (faults + 1) else faults

/-- The health record after a missed round (R83 to R85). -/
def HealthRecord.missedRound (c : StationCfg) (h : HealthRecord) : HealthRecord :=
  let missed := bump255 h.missed
  if h.state = .healthy then
    let since := bump h.since
    if c.staleLimit ≤ missed then
      let faults := faultsAtStale c.settleRounds since h.faults
      { h with
        state := if faults = Config.retireFaults then .retired else .stale
        missed := missed, since := since, faults := faults }
    else { h with missed := missed, since := since }
  else { h with missed := missed }

/-- A station with a round reading seeds rather than updates (R59). -/
def HealthRecord.seeds (h : HealthRecord) : Bool :=
  h.state == .unseen || h.state == .stale || h.reseed

/-- One station slot at a close (R59, R82, R83). -/
def closeStation (reading : Option Reading) (st : Station) : Station :=
  match st.health.state with
  | .off | .retired => st
  | .unseen | .healthy | .stale =>
    match reading with
    | some r =>
      if st.health.seeds then
        { st with comp := seedRound st.cfg r st.comp, health := st.health.seeded }
      else { st with comp := updateRound st.cfg r st.comp, health := st.health.updated }
    | none => { st with health := st.health.missedRound st.cfg }

/-- The STATION event a transition raises: stale, retired or recovered (R86). -/
def stationEvent (i : Fin 48) (before after : Health) : Option (NoticeClass × Report) :=
  match before, after with
  | .healthy, .stale | .healthy, .retired | .stale, .healthy =>
    some (.station, { subject := i.val, old := before.code, new := after.code, flags := 0 })
  | _, _ => none

/-- STU's pass over the station slots 0..47 (R59): the arithmetic and the transitions of every
slot, and the STATION events in slot order (R86). -/
def closePass (s : State) : State :=
  let after := s.mapStations fun i st => closeStation (s.intake i).reading st
  raiseAll
    ((indices 48).filterMap fun i =>
      stationEvent i (s.station i).health.state (after.station i).health.state)
    after

/-- A station slot after an accepted ADMIT (R90). -/
def Station.admitted (st : Station) : Station :=
  let h := { st.health with faults := 0, missed := 0 }
  match st.health.state with
  | .retired | .stale =>
    { st with health := { h with state := if st.cfg.inService then .unseen else .off } }
  | .off | .unseen | .healthy => { st with health := h }

/-- The health record after an accepted write to kind or enable (R91). -/
def HealthRecord.afterWrite (before after : StationCfg) (h : HealthRecord) : HealthRecord :=
  if h.state = .retired then h
  else if !after.inService then { h with state := .off, missed := 0, since := 0 }
  else if h.state = .off ∨ before.kind ≠ after.kind then
    { h with state := .unseen, missed := 0, since := 0 }
  else h

/-- A station slot after an accepted write to its kind or enable: the health record moves (R91),
and a change of kind resets the computation record (R78). -/
def Station.writeService (st : Station) (after : StationCfg) : Station :=
  { cfg := after
    health := st.health.afterWrite st.cfg after
    comp := if st.cfg.kind ≠ after.kind then .cleared else st.comp }

/-- A station slot at an accepted START (R92). -/
def Station.start (st : Station) : Station :=
  match st.health.state with
  | .off | .retired => st
  | .unseen | .healthy | .stale =>
    { st with health := { st.health with state := .unseen, missed := 0, since := 0 } }

/-- A station slot at the end of the last drill: a took-test flag becomes a reseed flag (R151). -/
def Station.drillEnded (st : Station) : Station :=
  if st.health.tookTest then
    { st with health := { st.health with reseed := true, tookTest := false } }
  else st

/-- A station slot after a pin reset: the fault count stays, and with 3 faults the retirement
(R79, R93). -/
def Station.pinReset (st : Station) : Station :=
  { cfg := .default
    health :=
      { HealthRecord.cleared with
        state := if st.health.faults = Config.retireFaults then .retired else .off
        faults := st.health.faults }
    comp := .cleared }

end Sys2Proof.Machine
end

