-- ==== Sys2Proof/Machine/Rounds.lean ====
section
/-! DEFINITION. RCT: the opening and the close of a round, and the probe (chapter 2), with what SIN
does at an opening and a close (R54, R55). -/

namespace Sys2Proof.Machine

/-! ### Opening -/

/-- The stations HEALTHY at an opening (R24). -/
def healthyStations (s : State) : List (Fin 48) := (indices 48).filter s.healthy

/-- SIN empties a round slot (R55, R56). -/
def Intake.emptied (it : Intake) : Intake := { it with reading := none, pendingA := none }

/-- A round opens: the arrival clock restarts, the expected set is captured, the round timer
starts, the phase is OPEN, SIN's slots are emptied and the MARK of the round is placed (R22, R24,
R29, R55). The round number and sequence are those RCT holds. -/
def openRound (s : State) : State :=
  let expected := healthyStations s
  let r := s.rct
  let s := s.setRct
    { r with
      clock := 0, clockRuns := true, expected := expected, outstanding := expected.length
      roundTimer := some 0, phase := .opened }
  let s := s.mapIntakes fun _ it => it.emptied
  s.setTif (s.tif.placeMark (markFrame s.tif.strap r.roundNumber r.period false r.seq.val))

/-- The round number after the one held (R26). -/
def nextRoundNumber (roundMax n : Nat) : Nat :=
  if roundMax = 0 then 0 else if roundMax ≤ n then 1 else n + 1

/-- RCT's numbers at an opening by expiry: number, previous number and sequence (R26, R27). -/
def Rct.advance (r : Rct) : Rct :=
  let n := nextRoundNumber r.roundMax r.roundNumber
  { r with
    roundNumber := n, prevRound := if n = r.roundNumber then none else some r.roundNumber
    seq := r.seq + 1 }

/-! ### Close -/

/-- The round is complete: no expected station is outstanding (R25). -/
def Rct.complete (r : Rct) : Bool := r.outstanding == 0

/-- RCT's state at a close (R25, R28): the 100 ms of the round evaluation start (R23). -/
def Rct.close (r : Rct) : Rct :=
  { r with
    phase := .evaluating, closeTimer := some 0
    synced := r.complete
    completeSeen := r.completeSeen || (r.complete && !r.expected.isEmpty)
    syncFail := r.syncFail || (!r.complete && r.completeSeen)
    roundsSinceStart := bump r.roundsSinceStart }

/-- The ROUND event "sync lost" of an incomplete close after a complete one (R28, R174). -/
def syncLost (r : Rct) : List (NoticeClass × Report) :=
  if !r.complete && r.completeSeen then
    [(.round, { subject := 0, old := r.roundNumber, new := min 255 r.outstanding, flags := 0 })]
  else []

/-- SIN at a close: a pending path-A record is discarded with a pair error (R54). -/
def Intake.closed (it : Intake) : Intake :=
  match it.pendingA with
  | some _ => { it with pendingA := none, pairError := bump it.pairError }
  | none => it

/-- The first enabled pile at or after a slot, in index order (R101). -/
def nextPile (s : State) (k : Nat) : Option (Fin 24) :=
  (indices 24).find? fun p => k ≤ p.val && (s.pile p).cfg.enable

/-- The first enabled zone at or after a slot, in index order (R128). -/
def nextZone (s : State) (k : Nat) : Option (Fin 32) :=
  (indices 32).find? fun z => k ≤ z.val && s.zoneEnabled z

/-- Where the evaluation stands when PLU's pass has reached slot `k` (R101). -/
def pileStage (s : State) (k : Nat) : EvalStage :=
  match nextPile s k with
  | some p => .piles p
  | none => .projecting

/-- Where the evaluation stands when ZNU's pass has reached slot `k` (R128). -/
def zoneStage (s : State) (k : Nat) : EvalStage :=
  match nextZone s k with
  | some z => .zones z
  | none => .done

/-- A round closes (R25): RCT judges it, SIN discards the pending paths, MGU raises the TRUNK
notices, and STU makes its pass, after which OUT re-evaluates SVC and PLU is to start. -/
def closeRound (s : State) : State :=
  let r := s.rct
  let s := raiseAll (syncLost r) (s.setRct r.close)
  let s := s.mapIntakes fun _ it => it.closed
  let s := trunkNotices s
  let s := s.setZnu { s.znu with drillAtClose := s.drillRunning }
  let s := reevaluate (closePass s)
  s.setStage (pileStage s 0)

/-! ### Reports of readings -/

/-- The close an ALL_IN round makes when its outstanding count has come to 0 in phase OPEN (R24). -/
def allInCloses (r : Rct) : Bool :=
  r.closeMode == .allIn && r.phase == .opened && r.outstanding == 0

/-- SIN reports a station's first reading of the round (R24, R52). -/
def reportReading (i : Fin 48) (s : State) : State :=
  if i ∈ s.rct.expected then
    let s := s.setRct { s.rct with outstanding := s.rct.outstanding - 1 }
    if allInCloses s.rct then closeRound s else s
  else s

/-! ### Probe -/

/-- A probe record after one sample stamped `stamp` (R33). -/
def ProbeRecord.record (stamp : Nat) (p : ProbeRecord) : ProbeRecord :=
  { offset := if p.count = 0 then stamp else p.offset, count := bump p.count }

/-- RCT takes a sample while the probe flag is set: recorded if its round byte is 0 (R33). -/
def probeSample (c : SampleCopy) (s : State) : State :=
  if c.round = 0 then
    s.setRct
      { s.rct with
        probes := tableSet s.rct.probes c.station (s.rct.probes[c.station].record s.rct.clock) }
  else s

end Sys2Proof.Machine
end

