-- ==== Sys2Proof/Machine/Projecting.lean ====
section
/-! DEFINITION. PJU: validation, exchange, copy, cross-validation and projection (chapter 7). -/

namespace Sys2Proof.Machine

/-! ### The exchange -/

/-- A zone record at the values it holds after STOP; the refresh countdown is kept (R145). -/
def Zone.stopped (z : Zone) : Zone :=
  { z with
    arrivals := Vector.replicate 16 0, xs := 0, level := .clear, hold := 0, degraded := false
    drillTimer := 0, effective := .clear, lastSent := .rest, signPending := false }

/-- The pointer moves, the swap-pending flag clears and the feeder masks are recomputed (R117). -/
def Pju.exchanged (p : Pju) : Pju :=
  let p := { p with activeIs1 := !p.activeIs1, swapPending := false }
  { p with feeders := feederMasks p.active.plume }

/-- The zones an exchange disables: enabled in the old active bank and not in the new (R117). -/
def disabledByExchange (p : Pju) (z : Fin 32) : Bool :=
  p.active.zones[z].enable && !p.standby.zones[z].enable

/-- The DRILL "ended" events of the zones in drill that an exchange disables (R152), in zone order
(DESIGN CHOICE, notes/assumptions/28.md). -/
def exchangeDrillEnds (s : State) : List (NoticeClass × Report) :=
  (indices 32).filterMap fun z =>
    if disabledByExchange s.pju z && 0 < (s.zone z).drillTimer then
      some (.drill, { subject := z.val, old := (s.zone z).drillTimer, new := 0, flags := 0 })
    else none

/-- An exchange by SWAP in CONFIG or at PJU's start (R117): the banks change places, the zones it
disables go to rest and their service records empty (R159), their drill ends are raised, and OUT
re-evaluates the lines (R161, R162). -/
def exchange (s : State) : State :=
  let disabled := disabledByExchange s.pju
  let ends := exchangeDrillEnds s
  let s := s.mapZones fun z r => if disabled z then r.stopped else r
  let s := s.setOut
    { s.out with service := tableMap (fun z l => if disabled z then [] else l) s.out.service }
  reevaluate (raiseAll ends (s.setPju s.pju.exchanged))

/-! ### SWAP validation (R114) -/

/-- A refused validation: the field that failed. -/
abbrev FailedField := Option Nat

/-- Check 1: watch < warn < alert; the alert threshold is named (R114). -/
def checkThresholds (c : ZoneCfg) : FailedField :=
  if c.watch < c.warn ∧ c.warn < c.alert then none else some 3

/-- Check 2: a confirm-required record names some confirm slot; slot 1 is named (R114). -/
def checkConfirmNamed (c : ZoneCfg) : FailedField :=
  if c.confirmRequired && c.confirmSlots.all Option.isNone then some 10 else none

/-- The lowest confirm slot that names a station whose kind is not DUST. At START R120 visits the
slots in this order; at a SWAP R114 names "the failing slot" and does not say which where several
fail (DESIGN CHOICE, notes/assumptions/30.md). -/
def checkConfirmKinds (kindOf : Fin 48 → Kind) (c : ZoneCfg) : FailedField :=
  if c.confirm1.any fun i => kindOf i ≠ .dust then some 10
  else if c.confirm2.any fun i => kindOf i ≠ .dust then some 11
  else if c.confirm3.any fun i => kindOf i ≠ .dust then some 12
  else none

/-- A sign address lies within 64..191 (R114). -/
def isSignAddress (a : Byte) : Bool := 64 ≤ a.toNat && a.toNat ≤ 191

/-- Check 4: the lower sign address outside 64..191. R114 names "the failing sign address" and does
not say which where both fail (DESIGN CHOICE, notes/assumptions/30.md). -/
def checkSigns (c : ZoneCfg) : FailedField :=
  if c.sign1.any fun a => !isSignAddress a then some 15
  else if c.sign2.any fun a => !isSignAddress a then some 16
  else none

/-- The checks of SWAP on one enabled record, in their order; check 3 in RUN only (R114). -/
def checkZoneRecord (inRun : Bool) (kindOf : Fin 48 → Kind) (c : ZoneCfg) : FailedField :=
  ((checkThresholds c).or (checkConfirmNamed c)).or
    ((if inRun then checkConfirmKinds kindOf c else none).or (checkSigns c))

/-- A station's configured kind. -/
def State.kindOf (s : State) (i : Fin 48) : Kind := (s.station i).cfg.kind

/-- The first enabled record of a zone table that a check fails, with the field (R114, R120). -/
def firstFailure (zones : Vector ZoneCfg 32) (check : ZoneCfg → FailedField) :
    Option (Fin 32 × Nat) :=
  (indices 32).findSome? fun z =>
    if zones[z].enable then (check zones[z]).map fun f => (z, f) else none

/-- SWAP's validation of the standby bank (R114). -/
def swapFailure (s : State) : Option (Fin 32 × Nat) :=
  firstFailure s.pju.standby.zones (checkZoneRecord s.running s.kindOf)

/-! ### Cross-validation at START (R120) -/

/-- The first enabled pile whose primary or fallback is not an ANEMO station, with the field. -/
def pileFailure (s : State) : Option (Fin 24 × Nat) :=
  (indices 24).findSome? fun p =>
    let c := (s.pile p).cfg
    if c.enable then
      if s.kindOf c.primary ≠ .anemo then some (p, 2)
      else if c.fallback.any fun i => s.kindOf i ≠ .anemo then some (p, 3)
      else none
    else none

/-- What the cross-validation names when it fails: table, index, field and unit number (R120). -/
structure CrossFailure where
  /-- table number -/
  table : Nat
  /-- index -/
  index : Nat
  /-- field number -/
  field : Nat
  /-- unit number -/
  unit : Nat
  deriving DecidableEq, Repr

/-- The cross-validation of START: zones first, then piles (R120). -/
def crossFailure (s : State) : Option CrossFailure :=
  match firstFailure s.pju.active.zones (checkConfirmKinds s.kindOf) with
  | some (z, f) => some { table := 1, index := z.val, field := f, unit := 3 }
  | none =>
    (pileFailure s).map fun r => { table := 0, index := r.1.val, field := r.2, unit := 2 }

/-! ### COPY -/

/-- The standby bank becomes a copy of the active bank, valid flag included (R119). -/
def Pju.copied (p : Pju) : Pju := p.setStandby p.active

/-! ### Projection -/

/-- A share added into an arrival-line slot: it stops at 4095 (R124). -/
def addShare (slot : Fin 16) (q : Nat) (z : Zone) : Zone :=
  { z with arrivals := tableSet z.arrivals slot (min Config.arrivalTop (z.arrivals[slot] + q)) }

/-- The slot a lag reaches from round sequence t (R123). -/
def lagSlot (t : Fin 16) (lag : Nat) : Fin 16 := Fin.ofNat 16 (t.val + lag)

/-- One entry's share of a contribution (R123). -/
def postEntry (amount : Nat) (e : PlumeEntry) (s : State) : State :=
  if e.weight ≠ 0 ∧ s.zoneEnabled e.zone then
    s.setZone e.zone (addShare (lagSlot s.rct.seq e.lag) (amount * e.weight / 8) (s.zone e.zone))
  else s

/-- One contribution: positions 0 to 3 of the list for its pile and sector (R123). -/
def postContribution (s : State) (c : Contribution) : State :=
  (indices 4).foldl
    (fun s k => postEntry c.amount (plumeRead s.pju.active.plume (plumeIndex c.pile c.sector k)) s)
    s

/-- PJU's work: a pending exchange, then every contribution in list order; the list is then empty
and ZNU is to start (R122, R123). -/
def project (s : State) : State :=
  let s := if s.pju.swapPending then exchange s else s
  let s := s.pju.contributions.foldl postContribution s
  let s := s.setPju { s.pju with contributions := [] }
  s.setStage (zoneStage s 0)

end Sys2Proof.Machine
end

