-- ==== Sys2Proof/Machine/ZoneLevels.lean ====
section
/-! DEFINITION. ZNU: the evaluation of one zone and its events (chapter 8), the drill commands'
effect on timers (chapter 9) and the last-drill end (R151). -/

namespace Sys2Proof.Machine

/-! ### Confirmation and target -/

/-- A zone's confirmation (R131). -/
inductive Confirmation where
  | confirmed | denied | unavailable
  deriving DecidableEq, Repr

/-- The confirm slots whose station is HEALTHY (R89, R131). -/
def availableMonitors (s : State) (c : ZoneCfg) : List (Fin 48) :=
  (c.confirmSlots.filterMap id).filter s.healthy

/-- The confirmation of a zone with configuration `c` (R131). -/
def confirmation (s : State) (c : ZoneCfg) : Confirmation :=
  let monitors := availableMonitors s c
  if !c.confirmRequired || monitors.isEmpty then .unavailable
  else if monitors.any fun i => c.confirmThreshold ≤ (s.station i).comp.dustLevel then .confirmed
  else .denied

/-- The target level (R132). -/
def targetLevel (c : ZoneCfg) (x : Nat) (conf : Confirmation) : Level :=
  if c.alert ≤ x ∧ conf ≠ .denied then .alert
  else if c.warn ≤ x then .warn
  else if c.watch ≤ x then .watch
  else .clear

/-! ### The level machine -/

/-- One level below (R133). -/
def Level.below : Level → Level
  | .alert => .warn
  | .warn => .watch
  | .watch | .clear => .clear

/-- The level machine: the new level and hold (R133, lines 1 to 5 in order). -/
def levelMachine (c : ZoneCfg) (target level : Level) (hold : Nat) : Level × Nat :=
  if level.code < target.code then (target, c.holdOf target)
  else if target = level then (level, c.holdOf level)
  else if 1 < hold then (level, hold - 1)
  else (level.below, c.holdOf level.below)

/-! ### Evaluation of one zone -/

/-- Exposure X (R127). -/
def Zone.exposure (z : Zone) : Nat := z.xs / 16

/-- The exposure state after arrival `a` (R130). -/
def exposureStep (c : ZoneCfg) (xs a : Nat) : Nat :=
  if xs ≤ 16 * a then filterStep c.rUp 16 xs (16 * a) else filterStep c.rDown 16 xs (16 * a)

/-- Steps 1 and 2: the arrival slot is taken and the exposure updated (R129, R130). -/
def Zone.takeArrival (c : ZoneCfg) (t : Fin 16) (z : Zone) : Zone :=
  { z with arrivals := tableSet z.arrivals t 0, xs := exposureStep c z.xs z.arrivals[t] }

/-- Steps 4 and 5: target and level machine (R132, R133). -/
def Zone.runLevel (c : ZoneCfg) (conf : Confirmation) (z : Zone) : Zone :=
  let lh := levelMachine c (targetLevel c z.exposure conf) z.level z.hold
  { z with level := lh.1, hold := lh.2 }

/-- The zone's drill ends at this evaluation: the decrement brings its timer to 0 (R135). -/
def Zone.drillEnds (z : Zone) : Bool := z.drillTimer == 1

/-- Step 6: the drill countdown, and the clearing of a zone whose drill ends (R135, R150). -/
def Zone.countDrill (z : Zone) : Zone :=
  if z.drillEnds then
    { z with
      drillTimer := 0, xs := 0, arrivals := Vector.replicate 16 0, level := .clear, hold := 0 }
  else { z with drillTimer := z.drillTimer - 1 }

/-- The effective level of a level and a degraded flag (R137). -/
def effectiveLevel (level : Level) (degraded : Bool) : Level :=
  if degraded && level == .clear then .watch else level

/-- Steps 7 and 8: the degraded flag and the effective level (R136, R137). -/
def Zone.setDegraded (degraded : Bool) (z : Zone) : Zone :=
  { z with degraded := degraded, effective := effectiveLevel z.level degraded }

/-- Some pile of the zone's feeder mask is BLIND and not shielded (R136). -/
def feederBlind (s : State) (z : Fin 32) : Bool :=
  (indices 24).any fun p =>
    s.pju.feeders[z].getLsbD p.val && (s.pile p).dyn.source == .blind && !(s.pile p).dyn.shielded

/-- The zone is degraded at this evaluation (R136). -/
def degradedNow (s : State) (z : Fin 32) (c : ZoneCfg) : Bool :=
  feederBlind s z || (c.confirmRequired && confirmation s c == .unavailable)

/-- Steps 1 to 8 of a zone's evaluation (R128 to R137). -/
def evaluatedZone (s : State) (z : Fin 32) : Zone :=
  let c := s.zoneCfg z
  ((((s.zone z).takeArrival c s.rct.seq).runLevel c (confirmation s c)).countDrill).setDegraded
    (degradedNow s z c)

/-- The flags byte of a ZONE notice: DRILL in bit 0, DEGRADED in bit 1 (R174, R181). -/
def zoneFlags (t : Tuple) : Nat := flagCode t.drill + 2 * flagCode t.degraded

/-- Step 9: the ZONE event of a change of level, degraded flag or drill flag (R138). -/
def zoneEvent (z : Fin 32) (before after : Zone) : List (NoticeClass × Report) :=
  if before.level = after.level ∧ before.degraded = after.degraded
      ∧ before.tuple.drill = after.tuple.drill then []
  else
    [(.zone, { subject := z.val, old := before.level.code, new := after.level.code,
               flags := zoneFlags after.tuple })]

/-- The DRILL event "ended" of a zone whose drill ends at its evaluation (R150, R174). -/
def drillEndEvent (z : Fin 32) (before : Zone) : List (NoticeClass × Report) :=
  if before.drillEnds then [(.drill, { subject := z.val, old := 1, new := 0, flags := 0 })] else []

/-- ZNU evaluates zone `z`, raises its events, and goes on to the next enabled zone or completes
its pass; OUT re-evaluates the lines as the tuple changes (R128, R138, R150, R161). -/
def evaluateZone (z : Fin 32) (s : State) : State :=
  let before := s.zone z
  let after := evaluatedZone s z
  let s := raiseAll (drillEndEvent z before ++ zoneEvent z before after) (s.setZone z after)
  let s := reevaluate s
  s.setStage (zoneStage s (z.val + 1))

/-! ### Drills -/

/-- Zone `z` is named by a drill mask of half `half` (R148, R182). -/
def maskNames (half : Nat) (mask : Word) (z : Fin 32) : Bool :=
  16 * half ≤ z.val && z.val < 16 * half + 16 && mask.getLsbD (z.val - 16 * half)

/-- The half-mask of the zones that satisfy a condition (R182). -/
def halfMask (half : Nat) (f : Fin 32 → Bool) : Word :=
  (indices 32).foldl
    (fun m z =>
      if 16 * half ≤ z.val ∧ z.val < 16 * half + 16 ∧ f z then
        m ||| BitVec.twoPow 16 (z.val - 16 * half)
      else m)
    0

/-- The zones a DRILL sets: named by the mask and enabled in the active bank (R148). -/
def drillSets (half : Nat) (mask : Word) (s : State) (z : Fin 32) : Bool :=
  maskNames half mask z && s.zoneEnabled z

/-- The DRILL "started" events, for the zones whose timer goes from 0, in zone order (R148). -/
def drillStarts (half : Nat) (mask : Word) (duration : Nat) (s : State) :
    List (NoticeClass × Report) :=
  (indices 32).filterMap fun z =>
    if drillSets half mask s z && (s.zone z).drillTimer == 0 then
      some (.drill, { subject := z.val, old := 0, new := duration, flags := 0 })
    else none

/-- A DRILL of a half: timers set, starts raised, lines re-evaluated (R148, R161). -/
def drillZones (half : Nat) (mask : Word) (duration : Nat) (s : State) : State :=
  let sets := drillSets half mask s
  let starts := drillStarts half mask duration s
  reevaluate <| raiseAll starts <|
    s.mapZones fun z r => if sets z then { r with drillTimer := duration } else r

/-- An ENDDRILL of a half: the timers of the named zones come to at most 2 (R149). -/
def endDrillZones (half : Nat) (mask : Word) (s : State) : State :=
  s.mapZones fun z r =>
    if maskNames half mask z then { r with drillTimer := min r.drillTimer 2 } else r

/-- The stations' took-test flags become reseed flags (R151). -/
def moveTookTest (s : State) : State := s.mapStations fun _ st => st.drillEnded

/-- The last-drill end at ZNU's completion: a drill ran when the round closed and none runs now
(R151). -/
def lastDrillEnd (s : State) : State :=
  if s.znu.drillAtClose && !s.drillRunning then moveTookTest s else s

end Sys2Proof.Machine
end

