-- ==== Sys2Proof/Machine/Tables.lean ====
section
/-! DEFINITION. The management tables: what a READ returns and clears, and what a WRITE stores
(R166, R169, R170, R183). -/

namespace Sys2Proof.Machine

/-! ### READ -/

/-- Round configuration (unit 0, table 0). -/
def roundFields (r : Rct) : List Nat :=
  [r.period, r.closeMode.code, r.roundMax, r.opState.code, r.phase.code, flagCode r.probing,
    r.roundNumber, r.seq.val, flagCode r.synced, flagCode r.syncFail, r.roundsSinceStart]

/-- Trunk counters of one port (unit 0, table 1; R15). -/
def portFields (p : PortState) : List Nat :=
  [p.goodFrames, p.crcErrors, p.unexamined, p.strayBytes, p.unevaluated, p.transitDrops,
    p.framesForwarded, p.framesInserted]

/-- Notice control (unit 0, table 2). -/
def noticeFields (n : Notices) : List Nat :=
  (noticeClasses.map fun c => flagCode (n.flags c).enable)
    ++ (noticeClasses.map fun c => flagCode (n.flags c).mask)
    ++ [n.statusField, n.queued, n.lost]

/-- The snapshot's station entry. -/
def SnapStation.fields (x : SnapStation) : List Nat :=
  [x.health, x.sector, x.gustSpeed, x.meanSpeed, x.lift, x.dustLevel]

/-- The snapshot's zone entry. -/
def SnapZone.fields (x : SnapZone) : List Nat :=
  [x.exposure, x.level, x.effective, x.drill, x.degraded]

/-- Snapshot (unit 0, table 3; R176). -/
def snapshotEntry (x : Snapshot) (i : Nat) : Option (List Nat) :=
  if i = 0 then some [x.roundNumber, flagCode x.ready, flagCode x.armed]
  else if i ≤ 48 then (indexOf 48 (i - 1)).map fun k => x.stations[k].fields
  else (indexOf 32 (i - 49)).map fun k => x.zones[k].fields

/-- Identity and reset cause (unit 0, table 4; R177). -/
def identityFields (s : State) : List Nat :=
  [Config.vendorCode, Config.partCode, Config.revision, s.tif.strap.toNat,
    s.mgu.resetCause.code, s.mgu.retiredAtRelease]

/-- Station dynamic and counters (unit 1, table 1). -/
def stationFields (st : Station) (it : Intake) : List Nat :=
  let h := st.health
  let c := st.comp
  [h.state.code, h.missed, h.since, h.faults, flagCode h.reseed, flagCode h.tookTest,
    flagCode it.reading.isSome, flagCode it.pendingA.isSome, it.lastOffset,
    c.sector.code, optSectorCode c.candidate, c.runCount, c.g1, c.g2, c.m, c.gustSpeed,
    c.meanSpeed, c.excess, flagCode c.gust, c.lift, c.d1, c.d2, c.dustLevel,
    it.ignored, it.late, it.foreign, it.testDropped, it.held, it.implausible, it.pairError]

/-- Pile dynamic and yard rejects (unit 2, table 1). -/
def pileFields (d : PileDyn) (rejects : Nat) : List Nat :=
  [d.activity.code, d.wet, flagCode d.shielded, d.source.code, optSectorCode d.lastSector,
    d.lastContribution, rejects]

/-- Bank status record (unit 2, table 3, index 1536; R113). -/
def bankStatusFields (p : Pju) : List Nat :=
  [p.activeNumber, flagCode p.bank0.valid, flagCode p.bank1.valid, flagCode p.swapPending]

/-- A plume table's entry at an index 0..1535 (R110). -/
def plumeEntry (t : Plume) (i : Nat) : Option (List Nat) :=
  if i < 1536 then some (plumeRead t i).fields else none

/-- A feeder mask's two fields: piles 0..15 and piles 16..23 (R121, R182). -/
def feederFields (m : BitVec 24) : List Nat :=
  [(m.extractLsb' 0 16).toNat, (m.extractLsb' 16 8).toNat]

/-- Zone dynamic (unit 3, table 2; R127). -/
def zoneFields (z : Zone) : List Nat :=
  z.arrivals.toList
    ++ [z.xs, z.exposure, z.level.code, z.hold, flagCode z.degraded, z.drillTimer,
      z.effective.code, z.lastSent.level.code, flagCode z.lastSent.drill,
      flagCode z.lastSent.degraded, flagCode z.signPending, z.refresh]

/-- The fields of entry `i` of table `t` of unit `u`, by field number; none where the table has no
such entry or the unit no such table (R166, R183). -/
def readEntry (u t i : Nat) (s : State) : Option (List Nat) :=
  match u, t with
  | 0, 0 => if i = 0 then some (roundFields s.rct) else none
  | 0, 1 =>
    if i = 0 then some (portFields s.tif.fieldPort)
    else if i = 1 then some (portFields s.tif.quayPort)
    else if i = 2 then some [s.mgu.received, s.mgu.dropped]
    else none
  | 0, 2 => if i = 0 then some (noticeFields s.mgu.notices) else none
  | 0, 3 => snapshotEntry s.mgu.snapshot i
  | 0, 4 => if i = 0 then some (identityFields s) else none
  | 1, 0 => (indexOf 48 i).map fun k => (s.station k).cfg.fields
  | 1, 1 => (indexOf 48 i).map fun k => stationFields (s.station k) (s.intake k)
  | 1, 2 => (indexOf 48 i).map fun k => [s.rct.probes[k].offset, s.rct.probes[k].count]
  | 2, 0 => (indexOf 24 i).map fun k => (s.pile k).cfg.fields
  | 2, 1 => (indexOf 24 i).map fun k => pileFields (s.pile k).dyn s.plu.yardRejects
  | 2, 2 => plumeEntry s.pju.standby.plume i
  | 2, 3 =>
    if i = 1536 then some (bankStatusFields s.pju) else plumeEntry s.pju.active.plume i
  | 3, 0 => (indexOf 32 i).map fun k => s.pju.standby.zones[k].fields
  | 3, 1 => (indexOf 32 i).map fun k => (s.zoneCfg k).fields ++ feederFields s.pju.feeders[k]
  | 3, 2 => (indexOf 32 i).map fun k => zoneFields (s.zone k)
  | 3, 3 =>
    if i = 8 then some [s.out.refreshPeriod]
    else (indexOf 8 i).map fun k => s.out.lines[k].fields
  | 3, 4 => if i = 0 then some [s.out.panelMode.code] else none
  | _, _ => none

/-- The value a READ returns; none is an address error (R166, R170). -/
def readField (u t i f : Nat) (s : State) : Option Nat := (readEntry u t i s).bind fun l => l[f]?

/-- A port's counter field set to 0 (R15). -/
def PortState.clearCounter (p : PortState) (f : Nat) : PortState :=
  match f with
  | 0 => { p with goodFrames := 0 }
  | 1 => { p with crcErrors := 0 }
  | 2 => { p with unexamined := 0 }
  | 3 => { p with strayBytes := 0 }
  | 4 => { p with unevaluated := 0 }
  | 5 => { p with transitDrops := 0 }
  | 6 => { p with framesForwarded := 0 }
  | 7 => { p with framesInserted := 0 }
  | _ => p

/-- An intake counter field set to 0 (R57). -/
def Intake.clearCounter (it : Intake) (f : Nat) : Intake :=
  match f with
  | 23 => { it with ignored := 0 }
  | 24 => { it with late := 0 }
  | 25 => { it with foreign := 0 }
  | 26 => { it with testDropped := 0 }
  | 27 => { it with held := 0 }
  | 28 => { it with implausible := 0 }
  | 29 => { it with pairError := 0 }
  | _ => it

/-- A READ of the notice status clears the seven flags and SYNC_FAIL (R28, R173). -/
def clearNoticeStatus (s : State) : State :=
  (s.setNotices s.mgu.notices.clearStatus).setRct { s.rct with syncFail := false }

/-- What a READ clears: a counter field, or the notice status (R170, R173). -/
def clearOnRead (u t i f : Nat) (s : State) : State :=
  match u, t with
  | 0, 1 =>
    if i = 0 then s.modPort .field fun p => p.clearCounter f
    else if i = 1 then s.modPort .quay fun p => p.clearCounter f
    else if f = 0 then s.setMgu { s.mgu with received := 0 }
    else s.setMgu { s.mgu with dropped := 0 }
  | 0, 2 =>
    if f = 12 then clearNoticeStatus s
    else if f = 13 then s.setNotices { s.mgu.notices with queued := 0 }
    else if f = 14 then s.setNotices { s.mgu.notices with lost := 0 }
    else s
  | 1, 1 =>
    match indexOf 48 i with
    | some k => s.setIntake k ((s.intake k).clearCounter f)
    | none => s
  | 2, 1 => if f = 6 then s.setPlu { s.plu with yardRejects := 0 } else s
  | _, _ => s

/-! ### WRITE -/

/-- What becomes of a WRITE (R169). -/
inductive WriteResult where
  | badAddress
  | wrongState
  | badValue
  | done (s : State) (status : Status)
  deriving DecidableEq, Repr

/-- Steps 3 and 4 of R169 on a judged value: the owning block's state, then the value. -/
def storeJudged {α : Type} (permitted : Bool) (j : Option (Judged α)) (store : α → State) :
    WriteResult :=
  match j with
  | none => .badAddress
  | some j =>
    if permitted then
      match j with
      | .stored x => .done (store x) .ok
      | .clamped x => .done (store x) .clamped
      | .bad => .badValue
    else .wrongState

/-- A write to the round configuration: in CONFIG with no probe running (R19). -/
def writeRound (i f : Nat) (w : Word) (s : State) : WriteResult :=
  if i = 0 then
    storeJudged (!s.running && !s.rct.probing) (s.rct.write f w) fun r => s.setRct r
  else .badAddress

/-- A write to the notice control, in either state; while the TRUNK class is disabled the tallies
stand at 0 (R172, R175). -/
def writeNotices (i f : Nat) (w : Word) (s : State) : WriteResult :=
  if i = 0 then
    storeJudged true (s.mgu.notices.write f w) fun n =>
      let s := s.setNotices n
      if n.trunk.enable then s else clearTallies s
  else .badAddress

/-- A write to the station configuration, in CONFIG only (R37, R62, R74, R81, R91). A write to
kind or enable moves the health record (R91) and may reset the computation record (R78). -/
def writeStation (i f : Nat) (w : Word) (s : State) : WriteResult :=
  match indexOf 48 i with
  | some k =>
    let st := s.station k
    storeJudged (!s.running) (st.cfg.write f w) fun c =>
      s.setStation k (if f ≤ 1 then st.writeService c else { st with cfg := c })
  | none => .badAddress

/-- A pile slot after an accepted write: clearing enable resets the dynamic record (R95). -/
def Pile.store (p : Pile) (c : PileCfg) : Pile :=
  { cfg := c, dyn := if p.cfg.enable && !c.enable then .cleared else p.dyn }

/-- A write to the pile configuration, in CONFIG only (R94, R95). -/
def writePile (i f : Nat) (w : Word) (s : State) : WriteResult :=
  match indexOf 24 i with
  | some k =>
    storeJudged (!s.running) ((s.pile k).cfg.write f w) fun c => s.setPile k ((s.pile k).store c)
  | none => .badAddress

/-- The standby bank stored, its valid flag clear (R112, R113). -/
def storeStandby (b : Bank) (s : State) : State :=
  s.setPju (s.pju.setStandby { b with valid := false })

/-- A write to the standby plume table, while no swap is pending (R112). -/
def writePlume (i f : Nat) (w : Word) (s : State) : WriteResult :=
  if i < 1536 then
    let b := s.pju.standby
    storeJudged (!s.pju.swapPending) ((plumeRead b.plume i).write f w) fun e =>
      storeStandby { b with plume := plumeWrite b.plume i e } s
  else .badAddress

/-- A write to the standby zone configuration table, while no swap is pending (R111, R112). -/
def writeZoneCfg (i f : Nat) (w : Word) (s : State) : WriteResult :=
  match indexOf 32 i with
  | some k =>
    let b := s.pju.standby
    storeJudged (!s.pju.swapPending) (b.zones[k].write f w) fun c =>
      storeStandby { b with zones := tableSet b.zones k c } s
  | none => .badAddress

/-- A write to a warning line's record takes effect at once (R160, R161). -/
def writeLine (k : Fin 8) (f : Nat) (w : Word) (s : State) : WriteResult :=
  storeJudged true (s.out.lines[k].write f w) fun c =>
    reevaluate (s.setOut { s.out with lines := tableSet s.out.lines k c })

/-- A write to the refresh period (R158). -/
def writeRefresh (f : Nat) (w : Word) (s : State) : WriteResult :=
  storeJudged true (if f = 0 then some (judgeMagnitude 1 255 w) else none) fun r =>
    s.setOut { s.out with refreshPeriod := r }

/-- A write to the line configuration table: indices 0..7 lines, index 8 the refresh period (R158,
R160). -/
def writeLineTable (i f : Nat) (w : Word) (s : State) : WriteResult :=
  if i = 8 then writeRefresh f w s
  else
    match indexOf 8 i with
    | some k => writeLine k f w s
    | none => .badAddress

/-- A write to the panel mode (R164). -/
def writePanelMode (i f : Nat) (w : Word) (s : State) : WriteResult :=
  if i = 0 ∧ f = 0 then
    storeJudged true (some (Judged.ofOption (panelModeOfCode w.toNat))) fun m =>
      s.setOut { s.out with panelMode := m }
  else .badAddress

/-- A WRITE by unit, table, index and field; every other table is read-only or unknown (R166, R169,
R170, R183). -/
def writeField (u t i f : Nat) (w : Word) (s : State) : WriteResult :=
  match u, t with
  | 0, 0 => writeRound i f w s
  | 0, 2 => writeNotices i f w s
  | 1, 0 => writeStation i f w s
  | 2, 0 => writePile i f w s
  | 2, 2 => writePlume i f w s
  | 3, 0 => writeZoneCfg i f w s
  | 3, 3 => writeLineTable i f w s
  | 3, 4 => writePanelMode i f w s
  | _, _ => .badAddress

end Sys2Proof.Machine
end

