-- ==== Sys2Proof/Machine/Management.lean ====
section
/-! DEFINITION. MGU: the request queue, the take, the execution of a request and its response
(chapter 11), with the commands START, STOP, PROBE, SWAP, COPY, SNAP, ADMIT, RELAX, DRILL and
ENDDRILL as their owning rules give them. -/

namespace Sys2Proof.Machine

/-! ### Responses -/

/-- What a response says beside the tag (R169, R181). -/
structure Reply where
  /-- status -/
  status : Status
  /-- table byte -/
  table : Byte
  /-- index -/
  index : Word
  /-- field -/
  field : Byte
  /-- data -/
  data : Word
  deriving DecidableEq, Repr

/-- A response that echoes the request's table, index and field, with this data (R169). -/
def Request.reply (r : Request) (status : Status) (data : Nat) : Reply :=
  { status := status, table := r.table, index := r.body.index, field := r.body.field,
    data := wordOf data }

/-- A refusal: the request's own data is echoed (R169). -/
def Request.refuse (r : Request) (status : Status) : Reply :=
  { r.reply status 0 with data := r.body.data }

/-- A BADVALUE response that names a table, index, field and unit (R114, R120). -/
def namedFailure (table index field unit : Nat) : Reply :=
  { status := .badValue, table := byteOf table, index := wordOf index, field := byteOf field,
    data := wordOf unit }

/-- The management unit a request is addressed to (R7, R166). -/
def Request.unit (r : Request) : Nat := r.dest.toNat % 4

/-- The response goes to its reserved place in the queue of the request's arrival port, with the
header of R8 (R12, R169). -/
def respond (r : Request) (a : Reply) (s : State) : State :=
  s.setTif (s.tif.enterReserved r.port
    (responseFrame r.source r.dest s.rct.roundNumber r.tag a.status.code a.table a.index a.field
      a.data))

/-! ### START -/

/-- RCT's values at START, before round 1 opens (R21). -/
def Rct.start (r : Rct) : Rct :=
  { r with
    opState := .run, seq := 0, roundNumber := if r.roundMax = 0 then 0 else 1, prevRound := none
    roundsSinceStart := 0, completeSeen := false, synced := false, syncFail := false }

/-- A zone record at START (R144, R146, R147). -/
def Zone.start (period : Nat) (i : Fin 32) (z : Zone) : Zone :=
  { z with
    arrivals := Vector.replicate 16 0, xs := 0, level := .clear, hold := 0, degraded := false
    drillTimer := 0, effective := .clear, refresh := 1 + i.val % period }

/-- A pile slot at START and STOP: the wind source is WAITING (R107). -/
def Pile.waiting (p : Pile) : Pile := { p with dyn := { p.dyn with source := .waiting } }

/-- The snapshot is disarmed (R176, R178). -/
def disarm (s : State) : State :=
  s.setMgu { s.mgu with snapshot := { s.mgu.snapshot with armed := false } }

/-- START's checks, in order (R20, R120): none passes. -/
def startRefusal (r : Request) (s : State) : Option Reply :=
  if s.running || s.rct.probing then some (r.refuse .wrongState)
  else if s.pju.active.valid = false then some (r.refuse .wrongState)
  else (crossFailure s).map fun c => namedFailure c.table c.index c.field c.unit

/-- What an accepted START does, round 1's opening included (R21, R92, R107, R144, R159, R165,
R178). -/
def startRun (s : State) : State :=
  let period := s.out.refreshPeriod
  let s := s.setRct s.rct.start
  let s := s.mapStations fun _ st => st.start
  let s := s.mapZones fun i z => z.start period i
  let s := s.mapPiles fun _ p => p.waiting
  let s := s.setPju { s.pju with contributions := [], swapPending := false }
  let s := s.setOut { s.out with service := Vector.replicate 32 [] }
  let s := (disarm (clearTallies s)).setStage .idle
  reevaluate (openRound s)

/-- START (R20, R21). -/
def runStart (r : Request) (s : State) : State × Reply :=
  match startRefusal r s with
  | some a => (s, a)
  | none => (startRun s, r.reply .ok 0)

/-! ### STOP -/

/-- RCT's values after STOP (R31, R35). -/
def Rct.stop (r : Rct) : Rct :=
  { r with
    opState := .config, phase := .noRound, roundTimer := none, roundNumber := 0
    prevRound := none, seq := 0, expected := [], outstanding := 0, synced := false
    completeSeen := false }

/-- What a STOP taken in RUN does: a running drill's took-test flags move first (R152); RCT, SIN,
PLU, MGU and ZNU take their STOP values (R31, R35, R56, R107, R145, R175, R176); OUT queues the
SERVICE signs (R159); a pending exchange follows, which finds every zone at rest (R118, R145); and
the lines go inactive and SVC active (R161, R162). -/
def stopRun (s : State) : State :=
  let s := if s.drillRunning then moveTookTest s else s
  let s := s.setRct s.rct.stop
  let s := s.mapIntakes fun _ it => it.emptied
  let s := s.mapPiles fun _ p => p.waiting
  let s := s.mapZones fun _ z => z.stopped
  let s := s.setZnu { s.znu with drillAtClose := false }
  let s := (disarm (clearTallies s)).setStage .idle
  let s := s.setOut { s.out with service := Vector.replicate 32 [] }
  let s := serviceSigns s
  let s := s.setPju
    { (if s.pju.swapPending then s.pju.exchanged else s.pju) with contributions := [] }
  reevaluate s

/-- STOP (R30, R31). -/
def runStop (r : Request) (s : State) : State × Reply :=
  if s.running then (stopRun s, r.reply .ok 0) else (s, r.refuse .wrongState)

/-! ### PROBE, SWAP, COPY, SNAP -/

/-- RCT's values at an accepted PROBE (R32). -/
def Rct.probe (r : Rct) : Rct :=
  { r with
    probes := Vector.replicate 48 .cleared, probing := true, clock := 0, clockRuns := true
    probeTimer := some 0 }

/-- PROBE (R32). -/
def runProbe (r : Request) (s : State) : State × Reply :=
  if s.running || s.rct.probing then (s, r.refuse .wrongState)
  else
    let s := s.setRct s.rct.probe
    (s.setTif (s.tif.placeMark (markFrame s.tif.strap 0 s.rct.period true 0)), r.reply .ok 0)

/-- The standby bank's valid flag set by a successful validation (R113, R114). -/
def Pju.validated (p : Pju) : Pju := p.setStandby { p.standby with valid := true }

/-- SWAP (R114 to R116): the response's data is the number of the bank that is, or will become,
active. -/
def runSwap (r : Request) (s : State) : State × Reply :=
  if s.pju.swapPending then (s, r.refuse .wrongState)
  else
    match swapFailure s with
    | some (z, f) => (s, namedFailure 0 z.val f 3)
    | none =>
      let number := s.pju.standbyNumber
      let s := s.setPju s.pju.validated
      if s.running then (s.setPju { s.pju with swapPending := true }, r.reply .ok number)
      else (exchange s, r.reply .ok number)

/-- SNAP (R176). -/
def runSnap (r : Request) (s : State) : State × Reply :=
  if s.running then
    (s.setMgu { s.mgu with snapshot := { s.mgu.snapshot with ready := false, armed := true } },
      r.reply .ok 0)
  else (s, r.refuse .wrongState)

/-! ### ADMIT, RELAX, DRILL, ENDDRILL -/

/-- ADMIT (R90); SVC is re-evaluated (R162). -/
def runAdmit (r : Request) (s : State) : State × Reply :=
  match indexOf 48 r.body.index.toNat with
  | some i =>
    let st := (s.station i).admitted
    (reevaluate (s.setStation i st), r.reply .ok st.health.state.code)
  | none => (s, r.refuse .badAddr)

/-- RELAX (R142): the response's data is the zone's hold after the command. -/
def runRelax (r : Request) (s : State) : State × Reply :=
  match indexOf 32 r.body.index.toNat with
  | some z =>
    if s.running && (s.zoneCfg z).relaxAllowed then
      let zone := s.zone z
      let relaxed := if zone.level = .clear then zone else { zone with hold := min zone.hold 2 }
      (s.setZone z relaxed, r.reply .ok relaxed.hold)
    else (s, r.refuse .wrongState)
  | none => (s, r.refuse .badAddr)

/-- A duration used by DRILL: a magnitude of 1..255 (R148). -/
def drillDuration (w : Word) : Nat := max 1 (min 255 w.toNat)

/-- DRILL (R148): the response's index is the duration used, its data the mask of the zones set. A
duration out of range is answered CLAMPED with a mask of 0 too (DESIGN CHOICE,
notes/assumptions/29.md). -/
def runDrill (r : Request) (s : State) : State × Reply :=
  let half := r.body.field.toNat
  if 1 < half then (s, r.refuse .badAddr)
  else if s.running then
    let d := drillDuration r.body.index
    let status : Status := if d = r.body.index.toNat then .ok else .clamped
    let sets := halfMask half (drillSets half r.body.data s)
    (drillZones half r.body.data d s,
      { r.reply status sets.toNat with index := wordOf d })
  else (s, r.refuse .wrongState)

/-- ENDDRILL (R149): the response's data is the mask of the named zones that were in drill. -/
def runEndDrill (r : Request) (s : State) : State × Reply :=
  let half := r.body.field.toNat
  if 1 < half then (s, r.refuse .badAddr)
  else if s.running then
    let was := halfMask half fun z => maskNames half r.body.data z && 0 < (s.zone z).drillTimer
    (endDrillZones half r.body.data s, r.reply .ok was.toNat)
  else (s, r.refuse .wrongState)

/-! ### READ and WRITE -/

/-- A READ (R170). -/
def runRead (r : Request) (s : State) : State × Reply :=
  let t := r.table.toNat
  let i := r.body.index.toNat
  let f := r.body.field.toNat
  match readField r.unit t i f s with
  | some v => (clearOnRead r.unit t i f s, r.reply .ok v)
  | none => (s, r.refuse .badAddr)

/-- A WRITE: the response's data is the value now stored (R169, R170). -/
def runWrite (r : Request) (s : State) : State × Reply :=
  let t := r.table.toNat
  let i := r.body.index.toNat
  let f := r.body.field.toNat
  match writeField r.unit t i f r.body.data s with
  | .badAddress => (s, r.refuse .badAddr)
  | .wrongState => (s, r.refuse .wrongState)
  | .badValue => (s, r.refuse .badValue)
  | .done s' status => (s', r.reply status ((readField r.unit t i f s').getD 0))

/-! ### Execution -/

/-- A COMMAND by unit and command code (R166, R171, R182). COPY is not among them: it is in
execution until its copy is done. -/
def runCommand (r : Request) (s : State) : State × Reply :=
  match r.unit, r.table.toNat with
  | 0, 1 => runStart r s
  | 0, 2 => runStop r s
  | 0, 3 => runProbe r s
  | 0, 4 => runSwap r s
  | 0, 6 => runSnap r s
  | 1, 1 => runAdmit r s
  | 3, 1 => runRelax r s
  | 3, 2 => runDrill r s
  | 3, 3 => runEndDrill r s
  | _, _ => (s, r.refuse .badAddr)

/-- A request that asks for COPY (R119, R171, R182). -/
def Request.isCopy (r : Request) : Bool :=
  r.op == 3 && r.unit == 0 && r.table == 5

/-- The execution of an immediate request: op, then table or command (R169). A COPY comes here
only to be refused, while a swap is pending (R119). -/
def runRequest (r : Request) (s : State) : State × Reply :=
  if r.isCopy then (s, r.refuse .wrongState)
  else if r.op = 1 then runRead r s
  else if r.op = 2 then runWrite r s
  else if r.op = 3 then runCommand r s
  else (s, r.refuse .badValue)

/-- MGU takes a request: a response's place is reserved (R12, R168); a COPY that is accepted goes
into execution (R119), every other request is executed and answered at once (R169). -/
def takeRequest (r : Request) (s : State) : State :=
  let s := s.setTif (s.tif.reserve r.port)
  if r.isCopy && !s.pju.swapPending then
    s.setMgu { s.mgu with executing := some r, copyTimer := some 0 }
  else
    let out := runRequest r s
    respond r out.2 out.1

/-- MGU may take the head of its queue (R168). -/
def canTake (r : Request) (s : State) : Bool :=
  s.mgu.executing.isNone && s.rct.phase != .evaluating && 1 ≤ (s.tif.port r.port).room

/-- MGU looks at the head of its queue, and takes it if the conditions of R168 hold. -/
def look (s : State) : State :=
  match s.mgu.requests with
  | [] => s
  | r :: rest => if canTake r s then takeRequest r (s.setMgu { s.mgu with requests := rest }) else s

/-- MGU looks `n` times in a row: the end of an execution is a moment at which it looks again
(R168). -/
def serve : Nat → State → State
  | 0, s => s
  | n + 1, s => serve n (look s)

/-- MGU takes every request it may take; no request enters its queue meanwhile, so it takes at most
as many as the queue holds (R168). -/
def serveQueue (s : State) : State := serve s.mgu.requests.length s

/-! ### OUT and MGU at one event -/

/-- OUT's visits to the zones `todo` and MGU's looks, in the order of the turns; OUT makes the
visits left when the turns are used up. A START or STOP that changes the operating state is taken
before the first visit, and leaves OUT nothing to visit, or after the last (R156, R159;
notes/assumptions/19.md). -/
def interleave (visit : State → Fin 32 → State) :
    List Turn → Bool → List (Fin 32) → State → State
  | [], _, todo, s => todo.foldl visit s
  | .out :: turns, begun, [], s => interleave visit turns begun [] s
  | .out :: turns, _, z :: todo, s => interleave visit turns true todo (visit s z)
  | .mgu :: turns, begun, todo, s =>
    let t := look s
    if t.running = s.running then interleave visit turns begun todo t
    else if begun then interleave visit turns begun [] (look (todo.foldl visit s))
    else interleave visit turns begun [] t

/-- OUT's visits and MGU's looks at one event that lets both act (R12 "Contention", R156, R159,
R168). MGU looks at least once: after OUT's last visit where no turn is its own. -/
def contend (visit : State → Fin 32 → State) (turns : List Turn) (todo : List (Fin 32))
    (s : State) : State :=
  let s := interleave visit turns false todo s
  if turns.contains .mgu then s else look s

/-- A consumed request reaches MGU: it enters the queue, and MGU looks at the head (R168), or it
meets a full queue and is dropped (R167). -/
def requestArrives (r : Request) (s : State) : State :=
  let m := s.mgu
  if m.requests.length < Config.requestDepth then
    serveQueue (s.setMgu { m with requests := m.requests ++ [r], received := bump m.received })
  else s.setMgu { m with dropped := bump m.dropped }

/-- The request of an envelope for one of the part's own units (R7). -/
def ownRequest (unit : Nat) (op table : Byte) (e : Envelope) (b : Body) (s : State) : Request :=
  { port := e.port, source := e.source, dest := managementAddress s.tif.strap unit, tag := e.tag,
    op := op, table := table, body := b }

/-- The arrival at MGU of a request for one of the part's own units. -/
def ask (unit : Nat) (op table : Byte) (e : Envelope) (b : Body) (s : State) : State :=
  requestArrives (ownRequest unit op table e b s) s

/-- The copy of a COPY in execution is done: the standby bank is the copy, and the OK response
carries its valid flag (R119). -/
def finishCopy (s : State) : State :=
  match s.mgu.executing with
  | some r =>
    let s := s.setPju s.pju.copied
    let s := s.setMgu { s.mgu with executing := none, copyTimer := none }
    respond r (r.reply .ok (flagCode s.pju.standby.valid)) s
  | none => s

/-- An execution has ended, that of a COPY or of a request executed at once, and MGU looks at its
queue (R168; notes/assumptions/20.md). -/
def copyDone (s : State) : State := look (finishCopy s)

end Sys2Proof.Machine
end

