-- ==== Sys2Proof/Machine/Stockpiles.lean ====
section
/-! DEFINITION. PLU: YARD frames and the visit to one pile of the close pass (chapter 6). -/

namespace Sys2Proof.Machine

/-! ### YARD frames -/

/-- A YARD event applied to a pile's dynamic record; none for a code outside 1..5 (R98). -/
def applyYard (event : Byte) (duration : Nat) (d : PileDyn) : Option PileDyn :=
  if event = 1 then some { d with activity := .working }
  else if event = 2 then some { d with activity := .idle }
  else if event = 3 then
    some { d with wet := if duration = 0 then 0 else max d.wet duration }
  else if event = 4 then some { d with shielded := true }
  else if event = 5 then some { d with shielded := false }
  else none

/-- The record a YARD frame changes to, when it is not rejected (R97). -/
def yardResult (y : YardCopy) (s : State) : Option (Fin 24 × PileDyn) :=
  match indexOf 24 y.pile.toNat with
  | some p =>
    if (s.pile p).cfg.enable then
      (applyYard y.event y.duration.toNat (s.pile p).dyn).map fun d => (p, d)
    else none
  | none => none

/-- PLU takes the copy of a good YARD frame (R97, R98). -/
def takeYard (y : YardCopy) (s : State) : State :=
  match yardResult y s with
  | some (p, d) => s.setPile p { s.pile p with dyn := d }
  | none => s.setPlu { s.plu with yardRejects := bump s.plu.yardRejects }

/-! ### The visit -/

/-- The wind source a visit chooses (R102). -/
def chooseSource (c : PileCfg) (s : State) : WindSource :=
  if s.healthy c.primary then .primary
  else if c.fallback.any s.healthy then .fallback
  else if s.rct.roundsSinceStart < Config.startGrace then .waiting
  else .blind

/-- The chosen station of a round (R102). -/
def chosenStation (c : PileCfg) (w : WindSource) : Option (Fin 48) :=
  match w with
  | .primary => some c.primary
  | .fallback => c.fallback
  | .waiting | .blind => none

/-- The emission factor, with the wet timer as lowered by the visit (R104). -/
def emissionFactor (weight : Nat) (d : PileDyn) : Nat :=
  let worked := match d.activity with
    | .idle => weight
    | .working => 2 * weight
  if d.shielded then 0 else if d.wet = 0 then worked else worked / 4

/-- The contribution of a pile (R105). -/
def contributionOf (e : Nat) (wind : Option Computation) : Nat :=
  match wind with
  | some r =>
    match r.sector with
    | .dir _ => e * r.lift / 16
    | .calm => 0
  | none => 0

/-- The pile's dynamic record after a visit (R101 to R105). -/
def visitedPile (c : PileCfg) (s : State) (d : PileDyn) : PileDyn :=
  let d := { d with wet := d.wet - 1, source := chooseSource c s }
  let wind := (chosenStation c d.source).map fun i => (s.station i).comp
  { d with
    lastSector := wind.map Computation.sector
    lastContribution := contributionOf (emissionFactor c.weight d) wind }

/-- The contribution a visited record hands to PJU: one above 0, along its sector (R105). -/
def handedContribution (p : Fin 24) (d : PileDyn) : List Contribution :=
  match d.lastSector with
  | some (.dir q) =>
    if 0 < d.lastContribution then [{ pile := p, sector := q, amount := d.lastContribution }]
    else []
  | some .calm | none => []

/-- The PILE event of a change of wind source (R103). -/
def pileEvent (p : Fin 24) (before after : WindSource) : List (NoticeClass × Report) :=
  if before = after then []
  else [(.pile, { subject := p.val, old := before.code, new := after.code, flags := 0 })]

/-- PLU visits pile `p`, hands on its contribution, and goes on to the next enabled pile or
completes (R101, R103, R105, R122). -/
def visitPile (p : Fin 24) (s : State) : State :=
  let pile := s.pile p
  let d := visitedPile pile.cfg s pile.dyn
  let s := s.setPile p { pile with dyn := d }
  let s := raiseAll (pileEvent p pile.dyn.source d.source) s
  let s := s.setPju
    { s.pju with contributions := s.pju.contributions ++ handedContribution p d }
  s.setStage (pileStage s (p.val + 1))

end Sys2Proof.Machine
end

