-- ==== Sys2Proof/Machine/RoundEvents.lean ====
section
/-! DEFINITION. The commands of the round cycle: ROUND_TIMER_EXPIRY, CLOSE_DEADLINE, PILE_VISIT,
PROJECTION, ZONE_EVALUATION, EVALUATION_COMPLETE, PROBE_TIMER_EXPIRY, PANEL_FRAME_CAPTURE; and the
passing of time, which raises the events of RCT's timers and ends a COPY. An event that the state cannot have (an
expiry of a timer that stands or has not come to its end, a visit outside its pass) changes nothing
(notes/assumptions/6.md). -/

namespace Sys2Proof.Machine

/-! ### Events of the round cycle -/

/-- The round timer expires, P × 50 ms after the opening: in RUN, with the phase CLOSED as at every
expiry (R23), a new round opens (R22). -/
def timerExpires (s : State) : State :=
  if s.rct.opState = .run ∧ s.rct.phase = .closed ∧ reached s.rct.periodMs s.rct.roundTimer then
    openRound (s.setRct s.rct.advance)
  else s

/-- The close deadline, (P × 50 − 100) ms after the opening: a round still OPEN closes (R23). -/
def deadlineFalls (s : State) : State :=
  if s.rct.opState = .run ∧ s.rct.phase = .opened ∧
      reached s.rct.deadlineMs s.rct.roundTimer then
    closeRound s
  else s

/-- PLU visits the next pile of its pass (R101). -/
def pileTurn (s : State) : State :=
  match s.stage with
  | .piles p => visitPile p s
  | .idle | .projecting | .zones _ | .done => s

/-- PJU starts at PLU's completion (R122). -/
def projectionTurn (s : State) : State :=
  match s.stage with
  | .projecting => project s
  | .idle | .piles _ | .zones _ | .done => s

/-- ZNU evaluates the next zone of its pass (R128). -/
def zoneTurn (s : State) : State :=
  match s.stage with
  | .zones z => evaluateZone z s
  | .idle | .piles _ | .projecting | .done => s

/-- A station's entry of a snapshot (R176). -/
def snapStation (st : Station) : SnapStation :=
  { health := st.health.state.code, sector := st.comp.sector.code, gustSpeed := st.comp.gustSpeed,
    meanSpeed := st.comp.meanSpeed, lift := st.comp.lift, dustLevel := st.comp.dustLevel }

/-- A zone's entry of a snapshot (R176). -/
def snapZone (z : Zone) : SnapZone :=
  { exposure := z.exposure, level := z.level.code, effective := z.effective.code,
    drill := flagCode z.tuple.drill, degraded := flagCode z.degraded }

/-- An armed snapshot is captured (R176). -/
def captureSnapshot (s : State) : State :=
  if s.mgu.snapshot.armed then
    s.setMgu { s.mgu with
      snapshot :=
        { roundNumber := s.rct.roundNumber
          stations := tableMap (fun _ st => snapStation st) s.stu
          zones := tableMap (fun _ z => snapZone z) s.znu.zones
          ready := true, armed := false } }
  else s

/-- ZNU's completion: the last-drill end comes before the completion is signalled (R151); the
phase becomes CLOSED (R23, R139); an armed snapshot is captured before any request is taken (R176); and
the visits of OUT's sign pass and MGU's takes follow in the order `turns` gives (R156, R168). -/
def evaluationEnds (turns : List Turn) (s : State) : State :=
  let s := lastDrillEnd s
  let s := s.setRct { s.rct with phase := .closed, closeTimer := none }
  let s := s.setZnu { s.znu with drillAtClose := false }
  let s := captureSnapshot (s.setStage .idle)
  contend signVisit turns (enabledZones s) s

/-- ZNU completes its pass (R139). -/
def completionTurn (turns : List Turn) (s : State) : State :=
  match s.stage with
  | .done => evaluationEnds turns s
  | .idle | .piles _ | .projecting | .zones _ => s

/-- The probe timer expires, P × 50 ms after the PROBE (R32): the probe ends and its ROUND event is
raised (R34, R174). -/
def probeExpires (s : State) : State :=
  if s.rct.probing ∧ reached s.rct.periodMs s.rct.probeTimer then
    raise .round { subject := 1, old := 0, new := 0, flags := 0 }
      (s.setRct { s.rct with probing := false, probeTimer := none })
  else s

/-- OUT captures a panel frame (R163). -/
def capturePanel (s : State) : State := s.setOut { s.out with panel := some (panelContent s) }

/-! ### Time -/

/-- The next event of the round evaluation (R25, R101, R122, R128, R139). -/
def evaluationStep (s : State) : State :=
  match s.stage with
  | .idle => s
  | .piles p => visitPile p s
  | .projecting => project s
  | .zones z => evaluateZone z s
  | .done => evaluationEnds [] s

/-- `n` events of the round evaluation. -/
def evaluationSteps : Nat → State → State
  | 0, s => s
  | n + 1, s => evaluationSteps n (evaluationStep s)

/-- The most events a round evaluation has: 24 pile visits, the projection, 32 zone evaluations and
the completion. -/
def evaluationLength : Nat := 58

/-- "The round evaluation of every round completes within 100 ms of its close." (R23): where its
100 ms have passed, what is left of it is done now, and MGU takes what it then may. -/
def evaluationOverdue (s : State) : State :=
  if s.rct.phase = .evaluating ∧ reached Config.closeReserveMs s.rct.closeTimer then
    serveQueue (evaluationSteps evaluationLength s)
  else s

/-- "The copy takes a time of up to 2 ms" (R119): where its 2 ms have passed, it is done now, and MGU
takes what it then may. -/
def copyOverdue (s : State) : State :=
  if s.mgu.executing.isSome ∧ reached Config.copyTimeMs s.mgu.copyTimer then
    serveQueue (copyDone s)
  else s

/-- What is due at an instant and has not been commanded: MGU takes every request it may take (R168),
the end of a COPY, a close deadline, the end of an evaluation, an expiry of the round timer and of the
probe timer fall (R23, R34, R119), and MGU takes what it may after them (notes/assumptions/5.md,
notes/assumptions/20.md). -/
def settle (s : State) : State :=
  serveQueue (probeExpires (timerExpires (evaluationOverdue (deadlineFalls
    (copyOverdue (serveQueue s))))))

/-- `n` milliseconds pass for the part. Nothing that is due waits while time passes. -/
def State.elapse : Nat → State → State
  | 0, s => s
  | n + 1, s => State.elapse n (settle s).passTime

/-! ### Commands -/

/-- ROUND_TIMER_EXPIRY (R22, R26, R27). -/
def execRoundTimerExpiry (s : State) : Host.Outcome State Fault Refusal :=
  whenReleased timerExpires s

/-- CLOSE_DEADLINE (R23, R25). -/
def execCloseDeadline (s : State) : Host.Outcome State Fault Refusal :=
  whenReleased deadlineFalls s

/-- PILE_VISIT (R101 to R105). -/
def execPileVisit (s : State) : Host.Outcome State Fault Refusal := whenReleased pileTurn s

/-- PROJECTION (R122 to R124). -/
def execProjection (s : State) : Host.Outcome State Fault Refusal := whenReleased projectionTurn s

/-- ZONE_EVALUATION (R128 to R138). -/
def execZoneEvaluation (s : State) : Host.Outcome State Fault Refusal := whenReleased zoneTurn s

/-- EVALUATION_COMPLETE (R139, R151, R156, R176). -/
def execEvaluationComplete (turns : List Turn) (s : State) : Host.Outcome State Fault Refusal :=
  whenReleased (completionTurn turns) s

/-- PROBE_TIMER_EXPIRY (R34). -/
def execProbeTimerExpiry (s : State) : Host.Outcome State Fault Refusal :=
  whenReleased probeExpires s

/-- PANEL_FRAME_CAPTURE (R163, R184). -/
def execPanelFrameCapture (s : State) : Host.Outcome State Fault Refusal :=
  whenReleased capturePanel s

end Sys2Proof.Machine
end

