-- ==== Sys2Proof/Machine/SampleIntake.lean ====
section
/-! DEFINITION. SIN: the acceptance, scaling and pairing of station samples (chapter 3). -/

namespace Sys2Proof.Machine

/-- What R39 makes of a RUN sample: dropped with a counter, or accepted. -/
inductive Disposal where
  | ignored | late | foreign | testDropped | accepted
  deriving DecidableEq, Repr

/-- The TEST flag of a sample's flags byte (R43, R181). -/
def sampleTest (c : SampleCopy) : Bool := c.flags.getLsbD 0

/-- The channels of a station's kind (R44). -/
def channelValid (k : Kind) (channel : Byte) : Bool :=
  match k with
  | .absent => false
  | .anemo => channel == 0 || channel == 1
  | .dust => channel == 0

/-- The conditions of R39 in their order; the first that holds decides (R39 to R44). -/
def judgeSample (c : SampleCopy) (s : State) : Disposal :=
  let st := s.station c.station
  if st.health.state = .off ∨ st.health.state = .retired then .ignored
  else if s.rct.phase ≠ .opened then .late
  else if s.rct.roundMax ≠ 0 ∧ some c.round.toNat = s.rct.prevRound then .late
  else if s.rct.roundMax ≠ 0 ∧ c.round.toNat ≠ s.rct.roundNumber then .foreign
  else if sampleTest c ∧ s.drillRunning = false then .testDropped
  else if channelValid st.cfg.kind c.channel = false then .foreign
  else .accepted

/-- What scaling makes of an accepted sample's value. -/
inductive Scaled (α : Type) where
  | statusCoded
  | implausible
  | valid (x : α)
  deriving DecidableEq, Repr

/-- An ANEMO sample's value (R46). -/
def scaleAnemo (c : StationCfg) (w : Word) : Scaled Int :=
  if c.statusCodes ∧ 32512 ≤ w.toInt.natAbs then .statusCoded
  else .valid (max (-1023) (min 1023 (Int.fdiv w.toInt (2 ^ c.shift))))

/-- A DUST sample's value (R47). -/
def scaleDust (c : StationCfg) (w : Word) : Scaled Nat :=
  if c.statusCodes ∧ 65280 ≤ w.toNat then .statusCoded
  else
    let d := min 4095 (w.toNat / 2 ^ c.shift)
    if d < c.lo ∨ c.hi < d then .implausible else .valid d

/-- A valid path A (R50). -/
def Intake.pathA (a : Int) (stamp : Nat) (it : Intake) : Intake :=
  { it with
    pendingA := some { value := a, offset := stamp }
    pairError := if it.pendingA.isSome then bump it.pairError else it.pairError }

/-- A valid path B (R51). -/
def Intake.pathB (window : Nat) (b : Int) (stamp : Nat) (it : Intake) : Intake :=
  match it.pendingA with
  | some p =>
    if stamp - p.offset ≤ window then
      { it with reading := some (.pair p.value b), pendingA := none }
    else { it with pendingA := none, pairError := bump it.pairError }
  | none => { it with pairError := bump it.pairError }

/-- An accepted sample at the round slot: the stamp is written, then scaling, checking, pairing
(R45 to R51). -/
def Intake.accept (cfg : StationCfg) (channel : Byte) (value : Word) (stamp : Nat)
    (it : Intake) : Intake :=
  let it := { it with lastOffset := stamp }
  match cfg.kind with
  | .anemo =>
    match scaleAnemo cfg value with
    | .statusCoded => { it with held := bump it.held }
    | .implausible => it
    | .valid x => if channel = 0 then it.pathA x stamp else it.pathB cfg.window x stamp
  | .dust =>
    match scaleDust cfg value with
    | .statusCoded => { it with held := bump it.held }
    | .implausible => { it with implausible := bump it.implausible }
    | .valid d => { it with reading := some (.dust d) }
  | .absent => it

/-- A dropped sample counts against one counter of its station (R39, R57). -/
def Intake.drop (d : Disposal) (it : Intake) : Intake :=
  match d with
  | .ignored => { it with ignored := bump it.ignored }
  | .late => { it with late := bump it.late }
  | .foreign => { it with foreign := bump it.foreign }
  | .testDropped => { it with testDropped := bump it.testDropped }
  | .accepted => it

/-- The took-test flag is set when a TEST sample is accepted (R43). -/
def Station.markTest (test : Bool) (st : Station) : Station :=
  if test then { st with health := { st.health with tookTest := true } } else st

/-- An accepted sample: the round slot, the took-test flag, and the report of a first reading
(R43, R45 to R52). -/
def acceptSample (c : SampleCopy) (s : State) : State :=
  let st := s.station c.station
  let before := s.intake c.station
  let after := before.accept st.cfg c.channel c.value s.rct.clock
  let s := (s.setIntake c.station after).setStation c.station (st.markTest (sampleTest c))
  if before.reading.isNone && after.reading.isSome then reportReading c.station s else s

/-- A station sample in RUN (R39). -/
def runSample (c : SampleCopy) (s : State) : State :=
  match judgeSample c s with
  | .accepted => acceptSample c s
  | d => s.setIntake c.station ((s.intake c.station).drop d)

/-- SIN takes the copy of a good SAMPLE frame from a station (R38). -/
def takeSample (c : SampleCopy) (s : State) : State :=
  if s.running then runSample c s
  else if s.rct.probing then probeSample c s
  else s

end Sys2Proof.Machine
end

