-- ==== Sys2Proof/Machine/Arrivals.lean ====
section
/-! DEFINITION. The disposition of an arriving frame (R9 to R11) and the commands that bring bytes,
frames and their copies: STRAY_BYTE, FRAME_ARRIVAL, SAMPLE_ARRIVAL, YARD_ARRIVAL, MREQ_ARRIVAL,
FRAME_SENT. -/

namespace Sys2Proof.Machine

/-- A frame offered to the transit FIFO of its direction; a full FIFO discards it, which is counted
and raises a TRUNK event (R9, R11). -/
def offerTransit (p : Port) (f : Frame) (s : State) : State :=
  match s.tif.enterTransit (otherPort p) f with
  | some t => s.setTif t
  | none => trunkError p .drop s

/-- The outbound port of the frame's direction selects, if it is idle, from all that its sources
hold by then (R14). -/
def wakeOutbound (p : Port) (s : State) : State := s.setTif (s.tif.wake (otherPort p))

/-- A frame is forwarded: it is offered to its transit FIFO, and an idle port sends it at once (R9,
R11, R14). -/
def forwardFrame (p : Port) (f : Frame) (s : State) : State := wakeOutbound p (offerTransit p f s)

/-- The unit of the part a destination address names, or none (R7). -/
def ownUnit (strap : BitVec 3) (dest : Byte) : Option Nat :=
  let base := 224 + 4 * strap.toNat
  if base ≤ dest.toNat ∧ dest.toNat < base + 4 then some (dest.toNat - base) else none

/-- The request a good MREQ carries (R9, R181). -/
def requestOf (p : Port) (f : Frame) : Request :=
  { port := p, source := frameSource f, dest := frameDest f, tag := payloadByte f 0,
    op := payloadByte f 1, table := payloadByte f 2,
    body := { index := payloadWord f 3, field := payloadByte f 5, data := payloadWord f 6 } }

/-- A good SAMPLE frame: forwarded; from a station its copy goes to SIN, from any other source it
counts as unevaluated (R9, R10). The frame and the notices of a close its copy makes enter the
sources of the quay port at one instant, so an idle port selects over all of them (R14;
notes/assumptions/17.md). -/
def disposeSample (p : Port) (f : Frame) (s : State) : State :=
  let s := offerTransit p f s
  match indexOf 48 (frameSource f).toNat with
  | some st => wakeOutbound p (takeSample (sampleCopyOf st f) s)
  | none =>
    wakeOutbound p (s.modPort p fun ps => { ps with unevaluated := bump ps.unevaluated })

/-- A good MREQ: consumed when its destination is one of the part's addresses, else forwarded
(R9). -/
def disposeRequest (p : Port) (f : Frame) (s : State) : State :=
  match ownUnit s.tif.strap (frameDest f) with
  | some _ => requestArrives (requestOf p f) s
  | none => forwardFrame p f s

/-- A good frame, counted, by its class (R9). -/
def disposeGood (p : Port) (c : FrameClass) (f : Frame) (s : State) : State :=
  let s := s.modPort p fun ps => { ps with goodFrames := bump ps.goodFrames }
  match c with
  | .sample => disposeSample p f s
  | .yard => takeYard (yardCopyOf f) (forwardFrame p f s)
  | .mreq => disposeRequest p f s
  | .mark | .sign | .mrsp | .notice => forwardFrame p f s

/-- TIF disposes of an arriving frame at once (R5, R6, R9). -/
def disposeFrame (p : Port) (f : Frame) (s : State) : State :=
  match frameClass f with
  | some c =>
    if isGood c f then disposeGood p c f s else forwardFrame p f (trunkError p .crc s)
  | none =>
    forwardFrame p f (s.modPort p fun ps => { ps with unexamined := bump ps.unexamined })

/-- The receive side of a port presents a byte or idle to its framer (R3 to R5); a frame that
arrives with it is disposed of. -/
def receive (p : Port) (rx : Line) (s : State) : State :=
  let step := (s.tif.port p).framer.on rx
  let s := s.modPort p fun ps =>
    { ps with framer := step.next, strayBytes := bumpBy step.strays ps.strayBytes }
  match step.arrived with
  | some f => disposeFrame p f s
  | none => s

/-- Bytes reach a port's framer one by one (R3 to R5). -/
def receiveAll (p : Port) (bytes : Frame) (s : State) : State :=
  bytes.foldl (fun s b => receive p (.byte b) s) s

/-- The sync pattern that opens a frame reaches the framer of its port: a byte held in SAW_A6 is
then a stray byte, and an unknown-class frame in reception ends and arrives (R3, R5). A framer in
HEADER has recognised the pattern already, as the end of the frame before it (R5;
notes/assumptions/4.md). -/
def syncArrives (p : Port) (s : State) : State :=
  if (s.tif.port p).framer = .header then s else receiveAll p [sync1, sync2] s

/-- A frame arrives: its sync pattern first, and then, at a framer that the pattern has put in
HEADER, the frame whole, leaving the framer as R4 and R5 leave it at an arrival. Bytes that no
framer can hand on as a frame, and those that reach a framer inside a known-class frame, are bytes
for that framer one by one (R3 to R5). -/
def frameArrives (p : Port) (f : Frame) (s : State) : State :=
  let opened := syncArrives p s
  if arrivable f && (opened.tif.port p).framer == .header then
    disposeFrame p f (opened.modPort p fun ps => { ps with framer := framerAfter f })
  else receiveAll p f s

/-- An outbound port has sent its frame: it selects the next or goes idle (R14). What then leaves
the field insertion queue lets OUT drain its pending SERVICE signs in CONFIG (R159), and MGU looks
at its queue (R168); `turns` is the order in which OUT's visits and MGU's takes are taken (R12
"Contention", R159). -/
def frameLeft (p : Port) (turns : List Turn) (s : State) : State :=
  if (s.tif.port p).sending.isSome then
    let before := (s.tif.port p).queue.length
    let s := s.setTif (s.tif.select p)
    let drains := p == .field && !s.running && decide ((s.tif.port p).queue.length < before)
    contend drainVisit turns (if drains then pendingZones s else []) s
  else s

/-! ### Commands -/

/-- STRAY_BYTE (R3 to R5, R15). -/
def execStrayByte (after : Nat) (p : Port) (rx : Line) (s : State) :
    Host.Outcome State Fault Refusal :=
  whenReleased (fun s => receive p rx (s.elapse after)) s

/-- FRAME_ARRIVAL (R4 to R6, R9 to R11). -/
def execFrameArrival (after : Nat) (p : Port) (bytes : Frame) (s : State) :
    Host.Outcome State Fault Refusal :=
  whenReleased (fun s => frameArrives p bytes (s.elapse after)) s

/-- SAMPLE_ARRIVAL (R38 to R57). -/
def execSampleArrival (after : Nat) (c : SampleCopy) (s : State) :
    Host.Outcome State Fault Refusal :=
  whenReleased (fun s => takeSample c (s.elapse after)) s

/-- YARD_ARRIVAL (R97 to R100). -/
def execYardArrival (y : YardCopy) (s : State) : Host.Outcome State Fault Refusal :=
  whenReleased (takeYard y) s

/-- MREQ_ARRIVAL (R9, R167 to R171). -/
def execMreqArrival (unit : Fin 4) (e : Envelope) (op table : Byte) (b : Body) (s : State) :
    Host.Outcome State Fault Refusal :=
  whenReleased (ask unit.val op table e b) s

/-- FRAME_SENT (R12, R14, R159, R168). -/
def execFrameSent (p : Port) (turns : List Turn) (s : State) :
    Host.Outcome State Fault Refusal :=
  whenReleased (frameLeft p turns) s

end Sys2Proof.Machine
end

