-- ==== Sys2Proof/Machine/Requests.lean ====
section
/-! DEFINITION. The management commands, each the arrival at MGU of the request that asks for it
(notes/assumptions/3.md), and COPY_COMPLETE. Unit, op and command codes are those of R182. -/

namespace Sys2Proof.Machine

/-- START (R20, R21): COMMAND 1 to unit 0. -/
def execStart (e : Envelope) (b : Body) (s : State) : Host.Outcome State Fault Refusal :=
  whenReleased (ask 0 3 1 e b) s

/-- STOP (R30, R31): COMMAND 2 to unit 0. -/
def execStop (e : Envelope) (b : Body) (s : State) : Host.Outcome State Fault Refusal :=
  whenReleased (ask 0 3 2 e b) s

/-- PROBE (R32): COMMAND 3 to unit 0. -/
def execProbe (e : Envelope) (b : Body) (s : State) : Host.Outcome State Fault Refusal :=
  whenReleased (ask 0 3 3 e b) s

/-- SWAP (R114 to R116): COMMAND 4 to unit 0. -/
def execSwap (e : Envelope) (b : Body) (s : State) : Host.Outcome State Fault Refusal :=
  whenReleased (ask 0 3 4 e b) s

/-- COPY (R119): COMMAND 5 to unit 0. -/
def execCopy (e : Envelope) (b : Body) (s : State) : Host.Outcome State Fault Refusal :=
  whenReleased (ask 0 3 5 e b) s

/-- COPY_COMPLETE (R119, R168). -/
def execCopyComplete (s : State) : Host.Outcome State Fault Refusal := whenReleased copyDone s

/-- SNAP (R176): COMMAND 6 to unit 0. -/
def execSnap (e : Envelope) (b : Body) (s : State) : Host.Outcome State Fault Refusal :=
  whenReleased (ask 0 3 6 e b) s

/-- ADMIT (R90): COMMAND 1 to unit 1. -/
def execAdmit (e : Envelope) (b : Body) (s : State) : Host.Outcome State Fault Refusal :=
  whenReleased (ask 1 3 1 e b) s

/-- RELAX (R142): COMMAND 1 to unit 3. -/
def execRelax (e : Envelope) (b : Body) (s : State) : Host.Outcome State Fault Refusal :=
  whenReleased (ask 3 3 1 e b) s

/-- DRILL (R148): COMMAND 2 to unit 3. -/
def execDrill (e : Envelope) (b : Body) (s : State) : Host.Outcome State Fault Refusal :=
  whenReleased (ask 3 3 2 e b) s

/-- ENDDRILL (R149): COMMAND 3 to unit 3. -/
def execEndDrill (e : Envelope) (b : Body) (s : State) : Host.Outcome State Fault Refusal :=
  whenReleased (ask 3 3 3 e b) s

/-- STATION_CONFIG_WRITE (R91): WRITE to table 0 of unit 1. -/
def execStationConfigWrite (e : Envelope) (b : Body) (s : State) :
    Host.Outcome State Fault Refusal :=
  whenReleased (ask 1 2 0 e b) s

/-- PILE_CONFIG_WRITE (R94, R95): WRITE to table 0 of unit 2. -/
def execPileConfigWrite (e : Envelope) (b : Body) (s : State) :
    Host.Outcome State Fault Refusal :=
  whenReleased (ask 2 2 0 e b) s

/-- STANDBY_TABLE_WRITE (R112): WRITE to table 2 of unit 2 or table 0 of unit 3. -/
def execStandbyTableWrite (e : Envelope) (which : StandbyTable) (b : Body) (s : State) :
    Host.Outcome State Fault Refusal :=
  match which with
  | .plume => whenReleased (ask 2 2 2 e b) s
  | .zones => whenReleased (ask 3 2 0 e b) s

/-- LINE_CONFIG_WRITE (R160, R161): WRITE to table 3 of unit 3. -/
def execLineConfigWrite (e : Envelope) (b : Body) (s : State) :
    Host.Outcome State Fault Refusal :=
  whenReleased (ask 3 2 3 e b) s

/-- COUNTER_READ (R170): READ of the field the operands name. -/
def execCounterRead (e : Envelope) (unit : Fin 4) (table : Byte) (b : Body) (s : State) :
    Host.Outcome State Fault Refusal :=
  whenReleased (ask unit.val 1 table e b) s

/-- NOTICE_STATUS_READ (R173): READ of field 12 of table 2 of unit 0. -/
def execNoticeStatusRead (e : Envelope) (data : Word) (s : State) :
    Host.Outcome State Fault Refusal :=
  whenReleased (ask 0 1 2 e { index := 0, field := 12, data := data }) s

/-- TABLE_WRITE (R170): WRITE to the field the operands name. -/
def execTableWrite (e : Envelope) (unit : Fin 4) (table : Byte) (b : Body) (s : State) :
    Host.Outcome State Fault Refusal :=
  whenReleased (ask unit.val 2 table e b) s

end Sys2Proof.Machine
end

