-- ==== Sys2Proof/Machine/Resets.lean ====
section
/-! DEFINITION. The resets and their release (R1, R7, R16, R35, R58, R79, R93, R108, R126, R146,
R154, R163, R165, R177, R178). -/

namespace Sys2Proof.Machine

/-- POWER_ON_RESET: every block at its power-on values (R16). The queue of waiting commands is the
outside's and stays. -/
def execPowerOnReset (s : State) : Host.Outcome State Fault Refusal :=
  .next { State.reset with pending := s.pending }

/-- The reset in force once RESET_N is asserted: a power-on reset not yet released stays one
(notes/assumptions/7.md). -/
def assertPin : Option ResetCause → ResetCause
  | some .powerOn => .powerOn
  | some .pin | none => .pin

/-- PIN_RESET: every block at its pin-reset values; fault counts and retirements stay (R93), and
the strap value, the reset cause and the retired count stand until the release (R7, R177). -/
def execPinReset (s : State) : Host.Outcome State Fault Refusal :=
  .next
    { State.reset with
      pending := s.pending
      resetHeld := some (assertPin s.resetHeld)
      tif := .cleared s.tif.strap
      stu := tableMap (fun _ st => st.pinReset) s.stu
      mgu := .cleared s.mgu.resetCause s.mgu.retiredAtRelease }

/-- The number of station slots RETIRED (R177). -/
def retiredCount (s : State) : Nat :=
  ((indices 48).filter fun i => (s.station i).health.state == .retired).length

/-- The release of a reset of cause `cause` with ADDR[2:0] at `addr`: the strap is latched (R7), the
cause and the retired count are recorded (R177), and the panel stream starts with a frame captured
in CONFIG, all 0 (R163, R165). -/
def releaseReset (cause : ResetCause) (addr : BitVec 3) (s : State) : State :=
  let s := s.setTif { s.tif with strap := addr }
  let s := s.setMgu { s.mgu with resetCause := cause, retiredAtRelease := retiredCount s }
  let s := s.setOut { s.out with panel := some 0 }
  s.setResetHeld none

/-- RESET_RELEASE: the reset in force is released; with none in force a change on the pins has no
effect (R7). -/
def execResetRelease (addr : BitVec 3) (s : State) : Host.Outcome State Fault Refusal :=
  match s.resetHeld with
  | some cause => .next (releaseReset cause addr s)
  | none => .next s

end Sys2Proof.Machine
end

