-- ==== Sys2Proof/Machine/Dispatch.lean ====
section
/-! DEFINITION. One arm per command: the meaning of each row of spec/opcode_table.json. -/

namespace Sys2Proof.Machine

/-- The effect of a command on everything but the queue of waiting commands. -/
def exec (i : Instr) (s : State) : Host.Outcome State Fault Refusal :=
  match i with
  | .powerOnReset => Sys2Proof.Machine.execPowerOnReset s
  | .pinReset => Sys2Proof.Machine.execPinReset s
  | .resetRelease addr => Sys2Proof.Machine.execResetRelease addr s
  | .strayByte after port rx => Sys2Proof.Machine.execStrayByte after port rx s
  | .frameArrival after port bytes => Sys2Proof.Machine.execFrameArrival after port bytes s
  | .sampleArrival after copy => Sys2Proof.Machine.execSampleArrival after copy s
  | .yardArrival copy => Sys2Proof.Machine.execYardArrival copy s
  | .mreqArrival unit env op table body => Sys2Proof.Machine.execMreqArrival unit env op table body s
  | .frameSent port turns => Sys2Proof.Machine.execFrameSent port turns s
  | .roundTimerExpiry => Sys2Proof.Machine.execRoundTimerExpiry s
  | .closeDeadline => Sys2Proof.Machine.execCloseDeadline s
  | .pileVisit => Sys2Proof.Machine.execPileVisit s
  | .projection => Sys2Proof.Machine.execProjection s
  | .zoneEvaluation => Sys2Proof.Machine.execZoneEvaluation s
  | .evaluationComplete turns => Sys2Proof.Machine.execEvaluationComplete turns s
  | .probeTimerExpiry => Sys2Proof.Machine.execProbeTimerExpiry s
  | .panelFrameCapture => Sys2Proof.Machine.execPanelFrameCapture s
  | .start env body => Sys2Proof.Machine.execStart env body s
  | .stop env body => Sys2Proof.Machine.execStop env body s
  | .probe env body => Sys2Proof.Machine.execProbe env body s
  | .swap env body => Sys2Proof.Machine.execSwap env body s
  | .copy env body => Sys2Proof.Machine.execCopy env body s
  | .copyComplete => Sys2Proof.Machine.execCopyComplete s
  | .snap env body => Sys2Proof.Machine.execSnap env body s
  | .admitStation env body => Sys2Proof.Machine.execAdmit env body s
  | .relax env body => Sys2Proof.Machine.execRelax env body s
  | .drill env body => Sys2Proof.Machine.execDrill env body s
  | .endDrill env body => Sys2Proof.Machine.execEndDrill env body s
  | .stationConfigWrite env body => Sys2Proof.Machine.execStationConfigWrite env body s
  | .pileConfigWrite env body => Sys2Proof.Machine.execPileConfigWrite env body s
  | .standbyTableWrite env which body => Sys2Proof.Machine.execStandbyTableWrite env which body s
  | .lineConfigWrite env body => Sys2Proof.Machine.execLineConfigWrite env body s
  | .counterRead env unit table body => Sys2Proof.Machine.execCounterRead env unit table body s
  | .noticeStatusRead env data => Sys2Proof.Machine.execNoticeStatusRead env data s
  | .tableWrite env unit table body => Sys2Proof.Machine.execTableWrite env unit table body s

end Sys2Proof.Machine
end

