-- ==== Sys2Proof/Machine/Step.lean ====
section
/-! DEFINITION. One step: the command at the front of the queue, or one millisecond of idling. -/

namespace Sys2Proof.Machine

/-- The command at the front of the queue is taken and executed with the queue's rest. With no
command waiting the part idles for one millisecond: what is due happens, and then the clock and the
running timers count (DESIGN CHOICE, notes/assumptions/5.md, notes/assumptions/20.md). -/
def step (s : State) : Host.Outcome State Fault Refusal :=
  match s.pending with
  | c :: rest => exec c (s.setPending rest)
  | [] => whenReleased (State.elapse 1) s

/-- The state with the command a word spells put at the front of the queue; unchanged where the
word spells none, which is every word (Sys2Proof/Decode.lean). -/
def State.withFetchWord (s : State) (nbits w : Nat) : State :=
  match decodeTableWord nbits w with
  | some c => s.setPending (c :: s.pending)
  | none => s

end Sys2Proof.Machine
end

