-- ==== Sys2Proof/Safety.lean ====
section
/-! DEFINITION. What a sound state of the part is, block by block: the ranges, capacities and
relations the manual states of the whole machine, and the words the statements use for a request
that is taken the moment it arrives. No step of the machine reads any of it. -/

namespace Sys2Proof.Machine

/-! ### Trunk and request queue (R4, R5, R11 to R14, R119, R167) -/

/-- A framer holds no more bytes than its frame may have (R4, R5). -/
def Framer.Sound : Framer → Prop
  | .hunt | .sawA6 | .header => True
  | .known bytes length => 3 ≤ bytes.length ∧ bytes.length < length ∧ length ≤ 16
  | .unknown bytes _ => 3 ≤ bytes.length ∧ bytes.length < Config.longestFrame

/-- A framer between frames (R3). -/
def Framer.between : Framer → Bool
  | .hunt | .sawA6 | .header => true
  | .known _ _ | .unknown _ _ => false

/-- A framer at which the sync pattern of a frame puts it in HEADER: one that does not take the
pattern's bytes for a known-class frame (R4) or for the 64th byte of an unknown-class frame (R5). -/
def Framer.opens : Framer → Bool
  | .hunt | .sawA6 | .header => true
  | .known _ _ => false
  | .unknown bytes _ => bytes.length < 63

/-- The places reserved in a port's insertion queue: one for the request in execution, if it
arrived on that port (R12, R168). -/
def reservedFor (s : State) (p : Port) : Nat :=
  match s.mgu.executing with
  | some r => if r.port = p then 1 else 0
  | none => 0

/-- One port keeps its capacities, and is idle only while none of its sources holds a frame
(R11, R12, R14). -/
structure PortSound (s : State) (p : Port) : Prop where
  /-- the framer's bytes fit its frame -/
  framer : (s.tif.port p).framer.Sound
  /-- a transit FIFO holds 0 to 8 frames -/
  transit : (s.tif.port p).transit.length ≤ Config.transitDepth
  /-- the frames held plus the reservations never exceed 16 -/
  queue : (s.tif.port p).queue.length + (s.tif.port p).reserved ≤ Config.queueDepth
  /-- the reservations are those of the request in execution -/
  reserved : (s.tif.port p).reserved = reservedFor s p
  /-- an idle port has nothing to send -/
  idle : (s.tif.port p).sending = none →
    (s.tif.port p).transit = [] ∧ (s.tif.port p).queue = [] ∧ s.tif.markFor p = none

/-- TIF, the request queue and the COPY in execution are within their bounds (R11, R12, R14, R119,
R167). -/
structure TrunkSound (s : State) : Prop where
  /-- both ports are sound -/
  ports : ∀ p, PortSound s p
  /-- the request queue holds 0 to 4 requests -/
  requests : s.mgu.requests.length ≤ Config.requestDepth
  /-- a COPY is in execution for at most 2 ms (R119) -/
  copy : if s.mgu.executing.isSome = true then ∃ n, s.mgu.copyTimer = some n ∧ n ≤ 2
    else s.mgu.copyTimer = none

/-! ### Rounds (R18, R19, R22, R23, R26, R29, R32, R34, R35, R122) -/

/-- The round number and its predecessor are those R26 allows in RUN. -/
structure NumbersSound (r : Rct) : Prop where
  /-- with RoundMax 0 the number is 0 -/
  zero : r.roundMax = 0 → r.roundNumber = 0
  /-- with another RoundMax it lies within 1..RoundMax -/
  range : r.roundMax ≠ 0 → 1 ≤ r.roundNumber ∧ r.roundNumber ≤ r.roundMax
  /-- the previous number never equals the current one -/
  previous : r.prevRound ≠ some r.roundNumber

/-- In CONFIG no round exists (R18, R35). -/
structure NoRound (s : State) : Prop where
  /-- the phase is NONE -/
  phase : s.rct.phase = .noRound
  /-- the round timer stands -/
  timer : s.rct.roundTimer = none
  /-- the round number is 0 -/
  number : s.rct.roundNumber = 0
  /-- the previous round number is none -/
  previous : s.rct.prevRound = none
  /-- the round sequence is 0 -/
  seq : s.rct.seq = 0
  /-- the expected set is empty -/
  expected : s.rct.expected = []

/-- In RUN a round exists and no probe runs (R18, R20, R32). -/
structure InRun (s : State) : Prop where
  /-- the phase is not NONE -/
  phase : s.rct.phase ≠ .noRound
  /-- the round timer runs, and in RUN every stamp is the true offset from the round's opening
  (R22, R29) -/
  timer : s.rct.clockRuns = true ∧ s.rct.roundTimer = some s.rct.clock
  /-- no probe runs -/
  probe : s.rct.probing = false
  /-- the round numbers are those of R26 -/
  numbers : NumbersSound s.rct

/-- RCT's settings, clock and rounds are within what the manual states. -/
structure RoundsSound (s : State) : Prop where
  /-- P lies within 10..160 (R19) -/
  period : 10 ≤ s.rct.period ∧ s.rct.period ≤ 160
  /-- RoundMax lies within 0..250 (R19) -/
  roundMax : s.rct.roundMax ≤ 250
  /-- the arrival clock stops at 8191 (R29) -/
  clock : s.rct.clock ≤ Config.clockTop
  /-- CONFIG has no round -/
  config : s.rct.opState = .config → NoRound s
  /-- RUN has one -/
  run : s.rct.opState = .run → InRun s
  /-- the round timer is at most at its expiry, P × 50 ms after the opening, and while the round is
  OPEN at most at its close deadline, 100 ms earlier (R23) -/
  timer : ∀ n, s.rct.roundTimer = some n →
    n ≤ s.rct.period * 50 ∧ (s.rct.phase = .opened → n + 100 ≤ s.rct.period * 50)
  /-- a round evaluation is in progress for at most 100 ms, after a close at the deadline or before
  it (R23) -/
  evaluation : if s.rct.phase = .evaluating then
      ∃ m n, s.rct.closeTimer = some m ∧ s.rct.roundTimer = some n ∧ m ≤ 100 ∧
        n + 100 ≤ s.rct.period * 50 + m
    else s.rct.closeTimer = none
  /-- a probe runs in CONFIG for at most P × 50 ms, the arrival clock with it (R29, R32, R34) -/
  probe : if s.rct.probing = true then
      s.rct.opState = .config ∧ s.rct.clockRuns = true ∧ s.rct.probeTimer = some s.rct.clock ∧
        s.rct.clock ≤ s.rct.period * 50
    else s.rct.probeTimer = none
  /-- the chain of the round evaluation runs exactly in phase EVALUATING (R18, R25, R139) -/
  chain : s.rct.phase = .evaluating ↔ s.stage ≠ .idle
  /-- a pass of PLU stands at an enabled pile (R101) -/
  atPile : ∀ p, s.stage = .piles p → (s.pile p).cfg.enable = true
  /-- the contribution list is empty but between PLU's pass and PJU's work (R122) -/
  contributions : (∀ p, s.stage ≠ .piles p) → s.stage ≠ .projecting → s.pju.contributions = []

/-! ### The outstanding count (R24) -/

/-- The expected stations that have no round reading yet. -/
def missing (s : State) : List (Fin 48) :=
  s.rct.expected.filter fun i => (s.intake i).reading.isNone

/-- While a round is open, the outstanding count is the number of expected stations without a
reading, and under ALL_IN a round with a non-empty expected set is open only while one is missing
(R24). -/
structure OutstandingSound (s : State) : Prop where
  /-- the expected set names no station twice -/
  distinct : s.rct.expected.Nodup
  /-- the count is exact -/
  exact : s.rct.phase = .opened → s.rct.outstanding = (missing s).length
  /-- an ALL_IN round that is complete has closed -/
  allIn : s.rct.phase = .opened → s.rct.closeMode = .allIn → s.rct.expected ≠ [] →
    s.rct.outstanding ≠ 0

/-! ### Stations (R36, R37, R61, R62, R74, R76, R80, R81, R85, R91) -/

/-- A configuration record is within the ranges of its fields (R37, R62, R74, R81). -/
structure StationCfg.Sound (c : StationCfg) : Prop where
  shift : c.shift ≤ 7
  lo : c.lo ≤ 4095
  hi : c.hi ≤ 4095
  window : 1 ≤ c.window ∧ c.window ≤ 255
  calm : c.calmThreshold ≤ 255
  gustCoeff : 3 ≤ c.gustCoeff ∧ c.gustCoeff ≤ 6
  meanShift : 4 ≤ c.meanShift ∧ c.meanShift ≤ 7
  gustThreshold : c.gustThreshold ≤ 1406
  excessThreshold : c.excessThreshold ≤ 1406
  liftBase : c.liftBase ≤ 1023
  persistence : 1 ≤ c.persistence ∧ c.persistence ≤ 4
  dustCoeff : 3 ≤ c.dustCoeff ∧ c.dustCoeff ≤ 6
  staleLimit : 1 ≤ c.staleLimit ∧ c.staleLimit ≤ 15
  settleRounds : c.settleRounds ≤ 255

/-- A computation record is within the ranges of R61. -/
structure Computation.Sound (r : Computation) : Prop where
  runCount : r.runCount ≤ 4
  g1 : r.g1 ≤ 22496
  g2 : r.g2 ≤ 22496
  m : r.m ≤ 22496
  gustSpeed : r.gustSpeed ≤ 1406
  meanSpeed : r.meanSpeed ≤ 1406
  excess : r.excess ≤ 1406
  lift : r.lift ≤ 1023
  d1 : r.d1 ≤ 65520
  d2 : r.d2 ≤ 65520
  dustLevel : r.dustLevel ≤ 4095

/-- A round reading fits its station's kind and the ranges of R36. -/
def Reading.Sound (k : Kind) : Reading → Prop
  | .pair a b => k = .anemo ∧ a.natAbs ≤ 1023 ∧ b.natAbs ≤ 1023
  | .dust d => k = .dust ∧ d ≤ 4095

/-- One station slot: a station is RETIRED exactly when its fault count is 3 (R85), and OFF exactly
when it is not in service and not RETIRED (R80, R91). -/
structure StationSound (s : State) (i : Fin 48) : Prop where
  /-- configuration ranges -/
  cfg : (s.station i).cfg.Sound
  /-- computation ranges -/
  comp : (s.station i).comp.Sound
  /-- the fault count is at most 3 -/
  faults : (s.station i).health.faults ≤ Config.retireFaults
  /-- RETIRED is a fault count of 3 -/
  retired : (s.station i).health.state = .retired ↔ (s.station i).health.faults = 3
  /-- OFF is a station out of service -/
  off : (s.station i).health.state ≠ .retired →
    ((s.station i).health.state = .off ↔ (s.station i).cfg.inService = false)
  /-- the missed count stops at 255 (R83) -/
  missed : (s.station i).health.missed ≤ 255
  /-- rounds since recovery stop at 65535 (R84) -/
  since : (s.station i).health.since ≤ Config.counterTop
  /-- a reading fits the station -/
  reading : ∀ x, (s.intake i).reading = some x → x.Sound (s.station i).cfg.kind
  /-- CONFIG holds no reading and no pending path A (R55, R56) -/
  empty : s.rct.opState = .config →
    (s.intake i).reading = none ∧ (s.intake i).pendingA = none
  /-- a pending path A is a scaled value of an anemometer (R36, R50) -/
  pending : ∀ x, (s.intake i).pendingA = some x →
    (s.station i).cfg.kind = .anemo ∧ x.value.natAbs ≤ 1023

/-- Every station slot is sound. -/
def StationsSound (s : State) : Prop := ∀ i, StationSound s i

/-! ### Banks (R110, R111, R113, R114, R116, R121) -/

/-- A zone configuration record is within the ranges of its fields (R111). -/
structure ZoneCfg.Sound (c : ZoneCfg) : Prop where
  watch : 1 ≤ c.watch ∧ c.watch ≤ 4095
  warn : 1 ≤ c.warn ∧ c.warn ≤ 4095
  alert : 1 ≤ c.alert ∧ c.alert ≤ 4095
  watchHold : 1 ≤ c.watchHold ∧ c.watchHold ≤ 255
  warnHold : 1 ≤ c.warnHold ∧ c.warnHold ≤ 255
  alertHold : 1 ≤ c.alertHold ∧ c.alertHold ≤ 255
  rUp : 1 ≤ c.rUp ∧ c.rUp ≤ 16
  rDown : 1 ≤ c.rDown ∧ c.rDown ≤ 16
  confirmThreshold : c.confirmThreshold ≤ 4095

/-- An enabled record has passed the checks SWAP makes in both states (R114). -/
structure ZoneCfg.Validated (c : ZoneCfg) : Prop where
  /-- watch < warn < alert -/
  thresholds : c.watch < c.warn ∧ c.warn < c.alert
  /-- confirm-required comes with a confirm slot -/
  confirm : c.confirmRequired = true → ∃ i, some i ∈ c.confirmSlots
  /-- every sign address lies within 64..191 -/
  signs : ∀ a ∈ c.signAddresses, 64 ≤ a.toNat ∧ a.toNat ≤ 191

/-- One bank: its plume table in canonical form with fields in range (R110), its zone records in
range (R111), and, while its valid flag is set, validated (R113). -/
structure Bank.Sound (b : Bank) : Prop where
  /-- canonical form -/
  canonical : plumeWf b.plume = true
  /-- lag and weight ranges -/
  entries : ∀ i, (plumeRead b.plume i).lag ≤ 15 ∧ (plumeRead b.plume i).weight ≤ 8
  /-- record ranges -/
  zones : ∀ z : Fin 32, b.zones[z].Sound
  /-- a valid bank has passed validation -/
  valid : b.valid = true → ∀ z : Fin 32, b.zones[z].enable = true → b.zones[z].Validated

/-- Both banks are sound, RUN has a valid active bank (R20), a pending swap waits in RUN for a valid
standby bank beside no COPY (R116, R119), and the feeder masks are those of the active plume table
(R121). -/
structure BanksSound (s : State) : Prop where
  /-- the active bank -/
  active : s.pju.active.Sound
  /-- the standby bank -/
  standby : s.pju.standby.Sound
  /-- RUN has a valid active bank -/
  running : s.rct.opState = .run → s.pju.active.valid = true
  /-- a pending swap -/
  pending : s.pju.swapPending = true →
    s.rct.opState = .run ∧ s.pju.standby.valid = true ∧ s.mgu.executing = none
  /-- "The masks therefore always describe the active plume table." (R121) -/
  feeders : s.pju.feeders = feederMasks s.pju.active.plume

/-! ### Zones (R127, R130, R134, R137, R141, R145, R147, R159) -/

/-- A zone at rest (R141, R145). -/
structure Zone.AtRest (z : Zone) : Prop where
  arrivals : ∀ t : Fin 16, z.arrivals[t] = 0
  xs : z.xs = 0
  level : z.level = .clear
  hold : z.hold = 0
  degraded : z.degraded = false
  drill : z.drillTimer = 0
  effective : z.effective = .clear

/-- A zone record within its ranges (R127), whose hold is 0 if and only if its level is CLEAR (R134)
and whose effective level is the one of R137. -/
structure Zone.Sound (z : Zone) : Prop where
  /-- arrival slots lie within 0..4095 -/
  arrivals : ∀ t : Fin 16, z.arrivals[t] ≤ Config.arrivalTop
  /-- Xs lies within 0..65520 -/
  xs : z.xs ≤ 65520
  /-- hold within 0..255 -/
  holdRange : z.hold ≤ 255
  /-- the hold is 0 if and only if the level is CLEAR -/
  holdClear : z.hold = 0 ↔ z.level = .clear
  /-- the effective level -/
  effective : z.effective = effectiveLevel z.level z.degraded
  /-- drill timer within 0..255 -/
  drill : z.drillTimer ≤ 255
  /-- refresh countdown within 0..255 -/
  refresh : z.refresh ≤ 255

/-- Every zone is sound; a zone that is disabled, and every zone in CONFIG, is at rest (R141, R145);
a pass of ZNU stands at an enabled zone (R128); and in CONFIG a service record is held exactly for
the zones whose signs are pending, in RUN for none (R159). -/
structure ZonesSound (s : State) : Prop where
  /-- each record -/
  records : ∀ z, (s.zone z).Sound
  /-- disabled zones are at rest -/
  disabled : ∀ z, s.zoneEnabled z = false → (s.zone z).AtRest
  /-- zones are at rest in CONFIG -/
  config : s.rct.opState = .config → ∀ z, (s.zone z).AtRest
  /-- the pass visits enabled zones -/
  atZone : ∀ z, s.stage = .zones z → s.zoneEnabled z = true
  /-- R lies within 1..255 (R158) -/
  refresh : 1 ≤ s.out.refreshPeriod ∧ s.out.refreshPeriod ≤ 255
  /-- RUN holds no service record -/
  service : s.rct.opState = .run → ∀ z : Fin 32, s.out.service[z] = []
  /-- CONFIG holds one where signs are pending -/
  pending : s.rct.opState = .config →
    ∀ z : Fin 32, (s.zone z).signPending = true ↔ s.out.service[z] ≠ []

/-! ### Lines (R161, R162) -/

/-- The pins WL0..WL7 and SVC are at the levels R161 and R162 give for the state as it stands. -/
structure LinesSound (s : State) : Prop where
  /-- a warning line is active exactly in RUN, while some zone of its mask that is enabled displays
  at least its minimum level, and is not in drill unless the line passes drills (R161) -/
  lines : ∀ n : Fin 8, s.out.wl[n] = true ↔
    s.rct.opState = .run ∧ ∃ z : Fin 32,
      s.out.lines[n].mask.getLsbD z.val = true ∧ s.zoneEnabled z = true ∧
      s.out.lines[n].minLevel.code ≤ (s.zone z).effective.code ∧
      ((s.zone z).drillTimer = 0 ∨ s.out.lines[n].drillPass = true)
  /-- the service line is active in CONFIG, and in RUN while a zone is degraded or a station is
  RETIRED (R162) -/
  svc : s.out.svc = true ↔
    s.rct.opState = .config ∨ (∃ z, (s.zone z).degraded = true) ∨
      ∃ i, (s.station i).health.state = .retired

/-! ### Words of the statements -/

/-- MGU may take the request at the head of its queue (R168). -/
structure MayTake (r : Request) (s : State) : Prop where
  /-- no request executes -/
  executing : s.mgu.executing = none
  /-- no evaluation is in progress -/
  phase : s.rct.phase ≠ .evaluating
  /-- the response finds room -/
  room : 1 ≤ (s.tif.port r.port).room

/-- The state with these requests waiting. -/
def withRequests (l : List Request) (s : State) : State := s.setMgu { s.mgu with requests := l }

/-- A round is OPEN at its close deadline, (P × 50 − 100) ms after its opening (R23). -/
structure AtDeadline (s : State) : Prop where
  /-- no reset is held -/
  released : s.resetHeld = none
  /-- the state is RUN -/
  run : s.rct.opState = .run
  /-- the round is OPEN -/
  phase : s.rct.phase = .opened
  /-- the deadline has come -/
  timer : ∃ n, s.rct.roundTimer = some n ∧ s.rct.period * 50 ≤ n + 100

/-- The round timer is at its expiry, P × 50 ms after the opening, in phase CLOSED (R22, R23). -/
structure AtExpiry (s : State) : Prop where
  /-- no reset is held -/
  released : s.resetHeld = none
  /-- the state is RUN -/
  run : s.rct.opState = .run
  /-- the evaluation is over -/
  phase : s.rct.phase = .closed
  /-- the expiry has come -/
  timer : ∃ n, s.rct.roundTimer = some n ∧ s.rct.period * 50 ≤ n

/-- The probe timer is at its expiry, P × 50 ms after the PROBE (R32, R34). -/
structure AtProbeEnd (s : State) : Prop where
  /-- no reset is held -/
  released : s.resetHeld = none
  /-- a probe runs -/
  probing : s.rct.probing = true
  /-- the expiry has come -/
  timer : ∃ n, s.rct.probeTimer = some n ∧ s.rct.period * 50 ≤ n

/-- The round evaluation has lasted 100 ms, and its next event is the command `c` (R23, R25, R101,
R122, R128, R139). -/
structure EvaluationLate (c : Instr) (s : State) : Prop where
  /-- no reset is held -/
  released : s.resetHeld = none
  /-- an evaluation is in progress -/
  phase : s.rct.phase = .evaluating
  /-- for 100 ms -/
  timer : ∃ n, s.rct.closeTimer = some n ∧ 100 ≤ n
  /-- its next event -/
  next : c = match s.stage with
    | .piles _ => .pileVisit
    | .projecting => .projection
    | .zones _ => .zoneEvaluation
    | .done | .idle => .evaluationComplete []

/-- A COPY has been in execution for 2 ms (R119). -/
structure AtCopyEnd (s : State) : Prop where
  /-- no reset is held -/
  released : s.resetHeld = none
  /-- a COPY is in execution -/
  executing : s.mgu.executing.isSome = true
  /-- for 2 ms -/
  timer : ∃ n, s.mgu.copyTimer = some n ∧ 2 ≤ n

/-- The command is the first event that time brings about at this instant: the end of a COPY (R119),
one of R23's, or the end of a probe (R34). -/
def Due (c : Instr) (s : State) : Prop :=
  (c = .copyComplete ∧ AtCopyEnd s) ∨
    (¬ AtCopyEnd s ∧
      ((c = .closeDeadline ∧ AtDeadline s) ∨ (c = .roundTimerExpiry ∧ AtExpiry s) ∨
        (c = .probeTimerExpiry ∧ AtProbeEnd s) ∨ EvaluationLate c s))

/-- A request that arrives on `p` is taken at once: no reset is held, no request waits or executes,
no evaluation is in progress, and the response finds room (R168). -/
structure TakesAtOnce (p : Port) (s : State) : Prop where
  /-- no reset is held -/
  released : s.resetHeld = none
  /-- no request waits -/
  waiting : s.mgu.requests = []
  /-- no request executes -/
  executing : s.mgu.executing = none
  /-- no evaluation is in progress -/
  phase : s.rct.phase ≠ .evaluating
  /-- the response finds room -/
  room : 1 ≤ (s.tif.port p).room

/-- The port is idle with nothing to send (R14). -/
def NothingToSend (t : Tif) (p : Port) : Prop :=
  (t.port p).sending = none ∧ (t.port p).transit = [] ∧ (t.port p).queue = [] ∧
    (p = .field → t.markSlot = none)

/-- TIF once the frames have entered the insertion queue of port `p`, in order, where the port is
sending a frame or has nothing to send: an idle port sends the first of them at once (R12, R14). -/
def enqueue (p : Port) (frames : List Frame) (t : Tif) : Tif :=
  if (t.port p).sending.isSome then t.modPort p fun ps => { ps with queue := ps.queue ++ frames }
  else
    match frames with
    | [] => t
    | f :: rest =>
      t.modPort p fun ps =>
        { ps with
          sending := some f, queue := rest, lastTaken := .insertion
          framesInserted := bump ps.framesInserted }

/-- In the command that takes `s` to `t` the frames enter the insertion queue of port `p`, in order,
and no others: a busy port holds them behind the frames it held, and a port with nothing to send
sends the first of them at once, or, where the command places a MARK in its slot, the MARK, with the
rest behind it (R12, R13, R14). -/
def Queued (p : Port) (mark : Option Frame) (frames : List Frame) (s t : State) : Prop :=
  ((s.tif.port p).sending.isSome = true →
    (t.tif.port p).sending = (s.tif.port p).sending ∧
    (t.tif.port p).transit = (s.tif.port p).transit ∧
    (t.tif.port p).queue = (s.tif.port p).queue ++ frames) ∧
  (NothingToSend s.tif p →
    let sent := if p = .field then mark.toList ++ frames else frames
    (t.tif.port p).sending = sent.head? ∧ (t.tif.port p).transit = [] ∧
    (t.tif.port p).queue = sent.tail)

/-- The MRSP frame with the response `a` to unit `u`'s request from `e`, with round number `round`
(R8, R169). -/
def responseTo (u : Nat) (e : Envelope) (round : Nat) (a : Reply) (s : State) : Frame :=
  responseFrame e.source (managementAddress s.tif.strap u) round e.tag a.status.code a.table a.index
    a.field a.data

/-- TIF once the response `a` to unit `u`'s request from `e` is queued toward its port, with the
round number the state holds (R8, R12, R169). -/
def answeredTif (u : Nat) (e : Envelope) (a : Reply) (s : State) : Tif :=
  (s.tif.modPort e.port fun p =>
    { p with queue := p.queue ++ [responseTo u e s.rct.roundNumber a s] }).wake e.port

/-- The state once that response is queued. -/
def answered (u : Nat) (e : Envelope) (a : Reply) (s : State) : State :=
  s.setTif (answeredTif u e a s)

/-- The state with one more request counted as received (R167, R178). -/
def received (s : State) : State := s.setMgu { s.mgu with received := bump s.mgu.received }

/-- A response that echoes the request's table byte, index and field, with `data` (R169). -/
def echo (status : Status) (table : Byte) (b : Body) (data : Word) : Reply :=
  { status := status, table := table, index := b.index, field := b.field, data := data }

/-- The response `a` to unit `u`'s request from `e`, with round number `round`, enters the insertion
queue of its port behind the frames `before`, which the command's other effects queue (R12, R169);
`mark` is the MARK the command places. -/
def Responded (u : Nat) (e : Envelope) (round : Nat) (a : Reply) (mark : Option Frame)
    (before : List Frame) (s t : State) : Prop :=
  Queued e.port mark (before ++ [responseTo u e round a s]) s t

/-- How many of the frames that are offered one by one to the insertion queue of port `p` it takes,
with `places` of its room kept back: at an idle port the first of them is sent at once, and its
place is free again (R12, R14). -/
def placesFor (p : Port) (places : Nat) (t : Tif) : Nat :=
  let room := (t.port p).room - places
  if (t.port p).sending.isSome || room == 0 then room else room + 1

/-- The reports the command that takes `s` to `t` makes under class `c`: where no other class sends
notices, the NOTICE frames of those that find room enter the quay insertion queue, in order, before
the frame `own` of a response in its reserved place (R8, R12, R172, R174). -/
def Notified (c : NoticeClass) (l : List Report) (s t : State) (own : List Frame := []) : Prop :=
  (s.mgu.notices.flags c).enable = true → (s.mgu.notices.flags c).mask = false →
  (∀ k, k ≠ c → (s.mgu.notices.flags k).mask = true) →
  Queued .quay none
    (((l.take (placesFor .quay own.length s.tif)).map fun r =>
      noticeFrame s.tif.strap s.rct.roundNumber c.code r.subject r.old r.new r.flags) ++ own) s t

/-- What an accepted sample answers that has left `v`, station `i`'s first reading of the round in
it: RCT counts the station off when it is in the expected set, and under ALL_IN the last one closes
the round, as its close deadline would (R24, R25, R52). -/
def Reported (i : Fin 48) (v : State) (answer : Host.Outcome State Fault Refusal) : Prop :=
  let timed := fun (timer : Option Nat) (t : State) => t.setRct { t.rct with roundTimer := timer }
  let counted := v.setRct { v.rct with outstanding := v.rct.outstanding - 1 }
  (i ∉ v.rct.expected → answer = .next v) ∧
  (i ∈ v.rct.expected → v.rct.closeMode = .deadline ∨ 2 ≤ v.rct.outstanding →
    answer = .next counted) ∧
  (i ∈ v.rct.expected → v.rct.closeMode = .allIn → v.rct.outstanding ≤ 1 →
    ∃ t, exec .closeDeadline (timed (some (v.rct.period * 50)) counted) = .next t ∧
      answer = .next (timed v.rct.roundTimer t))

/-- The MARK `m` stands in the slot when the field port was sending a frame, and is being sent when
the port was idle (R13, R14). -/
def Marked (m : Frame) (s t : State) : Prop :=
  (s.tif.fieldPort.sending.isSome = true →
    t.tif.markSlot = some m ∧ t.tif.fieldPort.sending = s.tif.fieldPort.sending) ∧
  (s.tif.fieldPort.sending = none →
    t.tif.markSlot = none ∧ t.tif.fieldPort.sending = some m)

/-- The cross-validation of START passes (R120). -/
structure CrossValid (s : State) : Prop where
  /-- every confirm slot of an enabled zone names a DUST station -/
  zones : ∀ z i, s.zoneEnabled z = true → some i ∈ (s.zoneCfg z).confirmSlots →
    (s.station i).cfg.kind = .dust
  /-- the primary of an enabled pile is an ANEMO station -/
  primaries : ∀ p, (s.pile p).cfg.enable = true →
    (s.station (s.pile p).cfg.primary).cfg.kind = .anemo
  /-- so is its fallback -/
  fallbacks : ∀ p i, (s.pile p).cfg.enable = true → (s.pile p).cfg.fallback = some i →
    (s.station i).cfg.kind = .anemo

/-- A channel of a station's kind (R44). -/
def ChannelOf (k : Kind) (channel : Byte) : Prop :=
  (k = .anemo ∧ (channel = 0 ∨ channel = 1)) ∨ (k = .dust ∧ channel = 0)

/-- No condition of R39 holds for the sample: it is accepted. -/
structure Accepted (c : SampleCopy) (s : State) : Prop where
  /-- the state is RUN (R38) -/
  run : s.rct.opState = .run
  /-- condition 1 -/
  state : (s.station c.station).health.state ≠ .off ∧
    (s.station c.station).health.state ≠ .retired
  /-- condition 2 -/
  phase : s.rct.phase = .opened
  /-- conditions 3 and 4 -/
  round : s.rct.roundMax = 0 ∨
    (s.rct.prevRound ≠ some c.round.toNat ∧ c.round.toNat = s.rct.roundNumber)
  /-- condition 5 -/
  test : c.flags.getLsbD 0 = true → ∃ z, 0 < (s.zone z).drillTimer
  /-- condition 6 -/
  channel : ChannelOf (s.station c.station).cfg.kind c.channel

/-- The confirmation of a zone is denied: it is required, some confirm slot names a HEALTHY
station, and every such station's dust level is below the confirm threshold (R131). -/
structure Denied (s : State) (c : ZoneCfg) : Prop where
  /-- confirmation is required -/
  required : c.confirmRequired = true
  /-- some monitor is available -/
  available : ∃ i, some i ∈ c.confirmSlots ∧ (s.station i).health.state = .healthy
  /-- none of the available ones confirms -/
  below : ∀ i, some i ∈ c.confirmSlots → (s.station i).health.state = .healthy →
    (s.station i).comp.dustLevel < c.confirmThreshold

/-- The target level at exposure `x` (R132). -/
def TargetIs (s : State) (c : ZoneCfg) (x : Nat) : Level → Prop
  | .alert => c.alert ≤ x ∧ ¬ Denied s c
  | .warn => c.warn ≤ x ∧ (c.alert ≤ x → Denied s c)
  | .watch => c.watch ≤ x ∧ x < c.warn ∧ (c.alert ≤ x → Denied s c)
  | .clear => x < c.watch ∧ x < c.warn ∧ (c.alert ≤ x → Denied s c)

/-- The level machine takes level and hold `l`, `h` to `l'`, `h'` at this target: a rise is
immediate and loads the level's hold, an equal target reloads it, and a lower one counts the hold
down and then steps one level down (R133). -/
def LevelMoves (c : ZoneCfg) (target l : Level) (h : Nat) (l' : Level) (h' : Nat) : Prop :=
  (l.code < target.code → l' = target ∧ h' = c.holdOf target) ∧
  (target = l → l' = l ∧ h' = c.holdOf l) ∧
  (target.code < l.code → 1 < h → l' = l ∧ h' = h - 1) ∧
  (target.code < l.code → h = 1 → l'.code = l.code - 1 ∧ h' = c.holdOf l')

/-- A zone is degraded at its evaluation: a pile that feeds it is BLIND and not shielded, or its
confirmation is required and no confirm slot names a HEALTHY station (R136). -/
def DegradedAt (s : State) (z : Fin 32) : Prop :=
  (∃ p : Fin 24, s.pju.feeders[z].getLsbD p.val = true ∧ (s.pile p).dyn.source = .blind ∧
    (s.pile p).dyn.shielded = false) ∨
  ((s.zoneCfg z).confirmRequired = true ∧
    ∀ i, some i ∈ (s.zoneCfg z).confirmSlots → (s.station i).health.state ≠ .healthy)

/-- A zone's SIGN frames with its tuple as it stands (R156, R157). -/
def signsOf (s : State) (z : Fin 32) : List Frame :=
  (s.zoneCfg z).signAddresses.map fun a =>
    signFrame s.tif.strap a s.rct.roundNumber z.val (s.zone z).effective.code
      (decide (0 < (s.zone z).drillTimer)) (s.zone z).degraded false

/-- A zone's SERVICE signs to the addresses `l` (R159). -/
def serviceSignsOf (s : State) (z : Fin 32) (l : List Byte) : List Frame :=
  l.map fun a => signFrame s.tif.strap a 0 z.val 0 false false true

/-- The groups that are taken of those offered one after another to `room` places: each is taken
whole if it fits what the groups before it left, and refused whole if not (R12). An idle port sends
the first frame that enters at once, and its place is free again (R14). -/
def groupsTaken : Bool → Nat → List (Fin 32 × List Frame) → List (Fin 32 × List Frame)
  | _, _, [] => []
  | idle, room, (z, group) :: rest =>
    if group.length ≤ room then
      let freed := if idle && !group.isEmpty then 1 else 0
      (z, group) :: groupsTaken (idle && group.isEmpty) (room - group.length + freed) rest
    else groupsTaken idle room rest

/-- A command that brings MGU no request, frees no place of an insertion queue and takes no time. -/
def AsksNothing (c : Instr) : Prop :=
  (∃ y, c = .yardArrival y) ∨ (∃ x, c = .sampleArrival 0 x) ∨ (∃ a, c = .resetRelease a) ∨
    c = .roundTimerExpiry ∨ c = .closeDeadline ∨ c = .pileVisit ∨ c = .projection ∨
    c = .zoneEvaluation ∨ c = .probeTimerExpiry ∨ c = .panelFrameCapture

/-- A zone is due at the sign pass: its tuple is not the last one sent, its refresh countdown
comes to 0, or its signs are pending (R156). -/
abbrev DueAt (s : State) (z : Fin 32) : Prop :=
  (s.zone z).lastSent ≠
      { level := (s.zone z).effective, drill := decide (0 < (s.zone z).drillTimer),
        degraded := (s.zone z).degraded } ∨
    (s.zone z).refresh ≤ 1 ∨ (s.zone z).signPending = true

/-- Every enabled record of the zone table passes SWAP's checks of this state: the confirm slots
are checked in RUN only (R114). -/
def SwapValid (s : State) : Prop :=
  ∀ z : Fin 32, s.pju.standby.zones[z].enable = true →
    s.pju.standby.zones[z].Validated ∧
    (s.rct.opState = .run → ∀ i, some i ∈ s.pju.standby.zones[z].confirmSlots →
      (s.station i).cfg.kind = .dust)

/-- The zones an exchange disables: enabled in the old active bank and not in the new one (R117). -/
def ExchangeDisables (s : State) (z : Fin 32) : Prop :=
  s.pju.active.zones[z].enable = true ∧ s.pju.standby.zones[z].enable = false

/-- The number of fields of entry `i` of table `t` of unit `u`, 0 where there is no such entry
(R166, R183). -/
def fieldCount (u t i : Nat) : Nat :=
  match u, t with
  | 0, 0 => if i = 0 then 11 else 0
  | 0, 1 => if i < 2 then 8 else if i = 2 then 2 else 0
  | 0, 2 => if i = 0 then 15 else 0
  | 0, 3 => if i = 0 then 3 else if i ≤ 48 then 6 else if i ≤ 80 then 5 else 0
  | 0, 4 => if i = 0 then 6 else 0
  | 1, 0 => if i < 48 then 18 else 0
  | 1, 1 => if i < 48 then 30 else 0
  | 1, 2 => if i < 48 then 2 else 0
  | 2, 0 => if i < 24 then 4 else 0
  | 2, 1 => if i < 24 then 7 else 0
  | 2, 2 => if i < 1536 then 3 else 0
  | 2, 3 => if i < 1536 then 3 else if i = 1536 then 4 else 0
  | 3, 0 => if i < 32 then 17 else 0
  | 3, 1 => if i < 32 then 19 else 0
  | 3, 2 => if i < 32 then 28 else 0
  | 3, 3 => if i < 8 then 4 else if i = 8 then 1 else 0
  | 3, 4 => if i = 0 then 1 else 0
  | _, _ => 0

/-- The first fields of entry `i` of table `t` of unit `u` that a WRITE may name; every field after
them, and every field of another table, is read-only or unknown (R170, R183). -/
def writableCount (u t i : Nat) : Nat :=
  match u, t with
  | 0, 0 => if i = 0 then 3 else 0
  | 0, 2 => if i = 0 then 12 else 0
  | 1, 0 | 2, 0 | 2, 2 | 3, 0 | 3, 3 | 3, 4 => fieldCount u t i
  | _, _ => 0

/-- The command codes of the units (R171, R182). -/
def commandCodes : Nat → List Nat
  | 0 => [1, 2, 3, 4, 5, 6]
  | 1 => [1]
  | 3 => [1, 2, 3]
  | _ => []

/-- Commands executed one after another. -/
def runAll : List Instr → State → Host.Outcome State Fault Refusal
  | [], s => .next s
  | c :: cs, s =>
    match exec c s with
    | .next t => runAll cs t
    | .fault r => .fault r
    | .refused r => .refused r

end Sys2Proof.Machine
end

