-- ==== Sys2Proof/WellFormed.lean ====
section
/-! DEFINITION. Which commands name what their row of the table says they name.

A command that fails its check is still given a meaning by the machine: bytes that are no frame
are line bytes for the framer (R3 to R5), and a READ or WRITE request is executed by the table it
names (R166, R169). -/

namespace Sys2Proof

/-- The counter fields of the management tables, which clear when read (R15, R57, R97, R178,
R183). -/
def isCounterField (unit : Fin 4) (table index field : Nat) : Bool :=
  match unit.val, table with
  | 0, 1 => (index < 2 && field < 8) || (index == 2 && field < 2)
  | 0, 2 => index == 0 && (field == 13 || field == 14)
  | 1, 1 => index < 48 && 23 ≤ field && field ≤ 29
  | 2, 1 => index < 24 && field == 6
  | _, _ => false

/-- The tables whose WRITEs are rows of their own (STATION_CONFIG_WRITE, PILE_CONFIG_WRITE,
STANDBY_TABLE_WRITE, LINE_CONFIG_WRITE). -/
def hasOwnWriteRow (unit : Fin 4) (table index : Nat) : Bool :=
  match unit.val, table with
  | 1, 0 | 2, 0 | 2, 2 | 3, 0 => true
  | 3, 3 => index ≠ 8
  | _, _ => false

/-- The command names what its row says it names. -/
def Instr.wellFormed : Instr → Bool
  | .frameArrival _ _ bytes => Machine.arrivable bytes
  | .counterRead _ unit table body =>
      isCounterField unit table.toNat body.index.toNat body.field.toNat
  | .lineConfigWrite _ body => body.index ≠ 8
  | .tableWrite _ unit table body => !hasOwnWriteRow unit table.toNat body.index.toNat
  | .powerOnReset | .pinReset | .resetRelease _ | .strayByte _ _ _ | .sampleArrival _ _
  | .yardArrival _ | .mreqArrival _ _ _ _ _ | .frameSent _ _ | .roundTimerExpiry
  | .closeDeadline | .pileVisit | .projection | .zoneEvaluation | .evaluationComplete _
  | .probeTimerExpiry | .panelFrameCapture | .start _ _ | .stop _ _ | .probe _ _ | .swap _ _
  | .copy _ _ | .copyComplete | .snap _ _ | .admitStation _ _ | .relax _ _ | .drill _ _
  | .endDrill _ _ | .stationConfigWrite _ _ | .pileConfigWrite _ _ | .standbyTableWrite _ _ _
  | .noticeStatusRead _ _ => true

end Sys2Proof
end

