-- ==== Sys2Proof/Certificates/Slice0/Obligations.lean ====
section
/-! DEFINITION. The statements for the provers. Each docstring names the rules it formalises, or the
entry of notes/assumptions/ for what is the model's own choice. -/

open Sys2Proof Sys2Proof.Machine

/-! ### The machine -/

/-- A step takes the command at the front of the queue and executes it with the queue's rest. On an
empty queue the part idles for one millisecond: where nothing is due, the arrival clock, while it
runs, counts and stops at 8191 (R29), and the timers that run count. What is due comes first: the end
of a COPY after 2 ms, a close deadline, P × 50 − 100 ms after the opening, the end of a round evaluation
after 100 ms, and an expiry of the round or the probe timer after P × 50 ms never wait while time passes
(R22, R23, R34, R119), nor does a request MGU may take, as RequestsWaitOrAreDropped says. While a reset is held nothing counts (R16).
The idling, and that of two events due at one instant the end of a COPY comes first, are the model's
choices (notes/assumptions/5.md). -/
def Obligations.StepRunsTheFrontCommand : Prop :=
  (∀ (c : Instr) (rest : List Instr) (s : State), s.pending = c :: rest →
    Sys2Proof.Machine.step s = Sys2Proof.Machine.exec c (s.setPending rest)) ∧
  (∀ s : State, s.pending = [] →
    (s.resetHeld.isSome = true → Sys2Proof.Machine.step s = .next s) ∧
    (s.resetHeld = none → RoundsSound s →
      (∀ r rest, s.mgu.requests = r :: rest → ¬ MayTake r s) →
      ((∀ c, ¬ Due c s) → Sys2Proof.Machine.step s = .next
        { s with
          rct :=
            { s.rct with
              clock := if s.rct.clockRuns then min 8191 (s.rct.clock + 1) else s.rct.clock
              roundTimer := s.rct.roundTimer.map fun n => n + 1
              closeTimer := s.rct.closeTimer.map fun n => n + 1
              probeTimer := s.rct.probeTimer.map fun n => n + 1 }
          mgu := { s.mgu with copyTimer := s.mgu.copyTimer.map fun n => n + 1 } }) ∧
      (∀ c t, Due c s → Sys2Proof.Machine.exec c s = .next t →
        Sys2Proof.Machine.step s = Sys2Proof.Machine.step t)))

/-- Every command completes in every state, and none changes the queue of waiting commands; none but a
reset or a release changes whether a reset is held (R1, R16): the manual stops the part on no command.
That a reset keeps the queue is the model's choice (notes/assumptions/1.md). -/
def Obligations.EveryCommandCompletes : Prop :=
  ∀ (c : Instr) (s : State), ∃ t,
    Sys2Proof.Machine.exec c s = .next t ∧ t.pending = s.pending ∧
    (c ≠ .powerOnReset → c ≠ .pinReset → (∀ a, c ≠ .resetRelease a) →
      t.resetHeld = s.resetHeld)

/-- While a reset is held no command but a reset or a release changes anything (R1, R16, R165; that
the other events are possible at all while a reset is held is the model's choice,
notes/assumptions/6.md). At the release TIF latches the strap, the cause of the reset and the number
of RETIRED slots are recorded, and the panel stream starts with a frame of all 0; with no reset held
a change on the pins has no effect (R7, R163, R177). -/
def Obligations.HeldResetHoldsUntilItsRelease : Prop :=
  (∀ (c : Instr) (s : State), s.resetHeld.isSome = true →
     c ≠ .powerOnReset → c ≠ .pinReset → (∀ a, c ≠ .resetRelease a) →
     Sys2Proof.Machine.exec c s = .next s) ∧
  ((∀ (a : BitVec 3) (cause : ResetCause) (s : State), s.resetHeld = some cause →
     Sys2Proof.Machine.exec (.resetRelease a) s = .next
       { s with
         resetHeld := none
         tif := { s.tif with strap := a }
         out := { s.out with panel := some 0 }
         mgu :=
           { s.mgu with
             resetCause := cause
             retiredAtRelease :=
               ((List.finRange 48).filter fun i =>
                 (s.station i).health.state == .retired).length } }) ∧
   (∀ (a : BitVec 3) (s : State), s.resetHeld = none →
     Sys2Proof.Machine.exec (.resetRelease a) s = .next s))

/-! ### Resets -/

/-- What both resets leave in the round controller (R35, the two reset columns), in SIN (R58), STU
(R79, R93), PLU (R108), PJU (R126), ZNU (R146), OUT (R165), MGU's flags and its snapshot, content 0
(R176, R178), the request queue (R167) and TIF (R16): framers in HUNT, FIFOs, queues and MARK slot
empty, nothing being sent, last-taken marks INSERTION, every port counter and tally 0. The cause the
release will record is that of the command (R177), and the strap stands until that release (R7). That
a pin reset on a power-on reset not yet released leaves that one in force, and that the identity
record stands until the release, are the model's choices (notes/assumptions/7.md,
notes/assumptions/1.md). -/
def Obligations.ResetValuesOfEveryBlock : Prop :=
  ∀ (s : State) (c : Instr), c = .powerOnReset ∨ c = .pinReset → ∃ t,
    Sys2Proof.Machine.exec c s = .next t ∧
    (c = .powerOnReset → t.resetHeld = some .powerOn) ∧
    (c = .pinReset →
      t.resetHeld = some (if s.resetHeld = some .powerOn then .powerOn else .pin) ∧
      t.tif.strap = s.tif.strap ∧ t.mgu.resetCause = s.mgu.resetCause ∧
      t.mgu.retiredAtRelease = s.mgu.retiredAtRelease) ∧
    t.stage = .idle ∧ t.znu.drillAtClose = false ∧ t.rct =
      { opState := .config, phase := .noRound, period := 20, closeMode := .allIn, roundMax := 4
        roundTimer := none, closeTimer := none, roundNumber := 0, prevRound := none, seq := 0, expected := []
        outstanding := 0, roundsSinceStart := 0, synced := false, completeSeen := false
        syncFail := false, clock := 0, clockRuns := false, probing := false, probeTimer := none
        probes := Vector.replicate 48 { offset := 0, count := 0 } } ∧
    (∀ i, t.intake i =
      { reading := none, pendingA := none, lastOffset := 0, ignored := 0, late := 0, foreign := 0
        testDropped := 0, held := 0, implausible := 0, pairError := 0 }) ∧
    (∀ i, ∃ health : HealthRecord, t.station i =
      { health := health
        cfg :=
          { kind := .absent, enable := false, shift := 0, statusCodes := false, lo := 0, hi := 4095
            window := 40, rotation := .direct, calmThreshold := 5, gustCoeff := 4, meanShift := 5
            gustThreshold := 120, excessThreshold := 30, liftBase := 80, persistence := 2
            dustCoeff := 4, staleLimit := 3, settleRounds := 16 }
        comp :=
          { sector := .calm, candidate := none, runCount := 0, g1 := 0, g2 := 0, m := 0
            gustSpeed := 0, meanSpeed := 0, excess := 0, gust := false, lift := 0, d1 := 0, d2 := 0
            dustLevel := 0 } } ∧
      health.missed = 0 ∧ health.since = 0 ∧ health.reseed = false ∧ health.tookTest = false ∧
      (c = .powerOnReset → health.state = .off ∧ health.faults = 0) ∧
      (c = .pinReset → health.faults = (s.station i).health.faults ∧
        health.state = if (s.station i).health.faults = 3 then .retired else .off)) ∧
    (∀ p, t.pile p =
      { cfg := { enable := false, weight := 0, primary := 0, fallback := none }
        dyn :=
          { activity := .idle, wet := 0, shielded := false, source := .waiting
            lastSector := none, lastContribution := 0 } }) ∧
    t.plu.yardRejects = 0 ∧
    t.pju.activeIs1 = false ∧ t.pju.swapPending = false ∧ t.pju.contributions = [] ∧
    (∀ b, b = t.pju.bank0 ∨ b = t.pju.bank1 →
      b.valid = false ∧ (∀ i, plumeRead b.plume i = { zone := 0, lag := 0, weight := 0 }) ∧
      ∀ z : Fin 32, b.zones[z] =
        { enable := false, watch := 4095, warn := 4095, alert := 4095, watchHold := 1
          warnHold := 1, alertHold := 1, rUp := 1, rDown := 1, confirmRequired := false
          confirm1 := none, confirm2 := none, confirm3 := none, confirmThreshold := 0
          relaxAllowed := false, sign1 := none, sign2 := none }) ∧
    (∀ z : Fin 32, t.pju.feeders[z] = 0) ∧
    (∀ z, (t.zone z).AtRest ∧ (t.zone z).refresh = 1 ∧ (t.zone z).signPending = false ∧
      (t.zone z).lastSent = { level := .clear, drill := false, degraded := false }) ∧
    (∀ n : Fin 8, t.out.wl[n] = false ∧
      t.out.lines[n] = { mask := 0, minLevel := .alert, drillPass := false }) ∧
    t.out.svc = true ∧ t.out.refreshPeriod = 10 ∧ t.out.panelMode = .zones ∧
    t.out.panel = none ∧ (∀ z : Fin 32, t.out.service[z] = []) ∧
    (∀ k, t.mgu.notices.flags k = { enable := false, mask := true, status := false }) ∧
    t.mgu.notices.lostFlag = false ∧ t.mgu.notices.queued = 0 ∧ t.mgu.notices.lost = 0 ∧
    t.mgu.snapshot.ready = false ∧ t.mgu.snapshot.armed = false ∧
    t.mgu.snapshot.roundNumber = 0 ∧
    (∀ i : Fin 48, t.mgu.snapshot.stations[i] =
      { health := 0, sector := 0, gustSpeed := 0, meanSpeed := 0, lift := 0, dustLevel := 0 }) ∧
    (∀ z : Fin 32, t.mgu.snapshot.zones[z] =
      { exposure := 0, level := 0, effective := 0, drill := 0, degraded := 0 }) ∧
    t.tif.markSlot = none ∧
    t.mgu.requests = [] ∧ t.mgu.executing = none ∧ t.mgu.copyTimer = none ∧
    t.mgu.received = 0 ∧ t.mgu.dropped = 0 ∧
    ∀ p, (t.tif.port p).framer = .hunt ∧ (t.tif.port p).transit = [] ∧
      (t.tif.port p).queue = [] ∧ (t.tif.port p).reserved = 0 ∧
      (t.tif.port p).sending = none ∧ (t.tif.port p).lastTaken = .insertion ∧
      (t.tif.port p).goodFrames = 0 ∧ (t.tif.port p).crcErrors = 0 ∧
      (t.tif.port p).unexamined = 0 ∧ (t.tif.port p).strayBytes = 0 ∧
      (t.tif.port p).unevaluated = 0 ∧ (t.tif.port p).transitDrops = 0 ∧
      (t.tif.port p).framesForwarded = 0 ∧ (t.tif.port p).framesInserted = 0 ∧
      (t.tif.port p).crcTally = 0 ∧ (t.tif.port p).dropTally = 0

/-- The health and computation records after the resets (R79, R93): power-on reset makes every slot
OFF with fault count 0; pin reset keeps the fault counts, and RETIRED where the count is 3. -/
def Obligations.PinResetKeepsRetirements : Prop :=
  (∀ s : State, ∃ t, Sys2Proof.Machine.exec .powerOnReset s = .next t ∧
    ∀ i, t.station i = { cfg := .default, health := .cleared, comp := .cleared }) ∧
  (∀ s : State, ∃ t, Sys2Proof.Machine.exec .pinReset s = .next t ∧
    ∀ i, (t.station i).cfg = .default ∧ (t.station i).comp = .cleared ∧
      (t.station i).health =
        { state := if (s.station i).health.faults = 3 then .retired else .off
          missed := 0, since := 0, faults := (s.station i).health.faults
          reseed := false, tookTest := false })

/-! ### Trunk -/

/-- The receive framer: between frames it follows the table of R3, and what it discards counts as
stray bytes of the port, stopping at 65535 (R15). Inside a known-class frame it takes every byte,
and the frame arrives at its L-th byte or, short, when the line goes idle (R4). Inside an
unknown-class frame it takes every byte; the frame arrives at the 0x3D of a sync pattern, without
that pattern's 0xA6, or at its 64th byte, and idle breaks a pair (R5). A frame that arrives so is
disposed of like any FRAME_ARRIVAL, and where none arrives nothing else of the part changes but that
its time advances. That a class byte 0xA6 counts for no pair is the model's choice
(notes/assumptions/16.md). -/
def Obligations.FramerFollowsTheSyncTable : Prop :=
  ∀ (after : Nat) (p : Port) (s : State), s.resetHeld = none →
    let u := s.elapse after
    let framer := (u.tif.port p).framer
    let becomes := fun (next : Framer) (strays : Nat) =>
      u.modPort p fun ps =>
        { ps with framer := next, strayBytes := min 65535 (ps.strayBytes + strays) }
    let gives := fun (rx : Line) (next : Framer) (strays : Nat) =>
      Sys2Proof.Machine.exec (.strayByte after p rx) s = .next (becomes next strays)
    let arrives := fun (rx : Line) (f : Frame) =>
      Sys2Proof.Machine.exec (.strayByte after p rx) s =
        Sys2Proof.Machine.exec (.frameArrival 0 p f) (becomes .header 0)
    (framer = .hunt → gives (.byte 0xA6) .sawA6 0) ∧
    (framer = .hunt → ∀ b, b ≠ 0xA6 → gives (.byte b) .hunt 1) ∧
    (framer = .hunt → gives .idle .hunt 0) ∧
    (framer = .sawA6 → gives (.byte 0x3D) .header 0) ∧
    (framer = .sawA6 → gives (.byte 0xA6) .sawA6 1) ∧
    (framer = .sawA6 → ∀ b, b ≠ 0x3D → b ≠ 0xA6 → gives (.byte b) .hunt 2) ∧
    (framer = .sawA6 → gives .idle .hunt 1) ∧
    (framer = .header → ∀ c : FrameClass,
      gives (.byte c.code) (.known [0xA6, 0x3D, c.code] (8 + c.payloadBytes)) 0) ∧
    (framer = .header → ∀ b, (∀ c : FrameClass, b ≠ c.code) →
      gives (.byte b) (.unknown [0xA6, 0x3D, b] false) 0) ∧
    (framer = .header → gives .idle .hunt 2) ∧
    (∀ bytes length b, framer = .known bytes length → bytes.length + 1 < length →
      gives (.byte b) (.known (bytes ++ [b]) length) 0) ∧
    (∀ bytes length b c, framer = .known bytes length → length ≤ bytes.length + 1 →
      arrivable (bytes ++ [b]) = true → frameClass (bytes ++ [b]) = some c →
      arrives (.byte b) (bytes ++ [b])) ∧
    (∀ bytes length c, framer = .known bytes length → arrivable bytes = true →
      frameClass bytes = some c → arrives .idle bytes) ∧
    (∀ bytes pair b, framer = .unknown bytes pair → bytes.length + 1 < 64 →
      pair = false ∨ b ≠ 0x3D → gives (.byte b) (.unknown (bytes ++ [b]) (b == 0xA6)) 0) ∧
    (∀ bytes pair b, framer = .unknown bytes pair → bytes.length + 1 = 64 →
      pair = false ∨ b ≠ 0x3D → arrivable (bytes ++ [b]) = true →
      frameClass (bytes ++ [b]) = none → arrives (.byte b) (bytes ++ [b])) ∧
    (∀ bytes, framer = .unknown bytes true → bytes.length < 64 →
      arrivable bytes.dropLast = true → frameClass bytes.dropLast = none →
      arrives (.byte 0x3D) bytes.dropLast) ∧
    (∀ bytes pair, framer = .unknown bytes pair → gives .idle (.unknown bytes false) 0)

/-- A known-class frame of correct length that reaches a framer byte by byte, outside HEADER and
outside a known-class frame, arrives at its last byte, whatever its payload and CRC hold: the bytes
one by one are the frame's arrival (R3, R4). And wherever a frame of any class arrives at such a
framer, its two sync bytes do first what R3 and R5 say of them: a byte held in SAW_A6 is a stray
byte, and an unknown-class frame in reception ends and arrives. That a framer in HEADER has had the
arriving frame's sync bytes already is the model's choice (notes/assumptions/4.md). -/
def Obligations.KnownFramesAreFramedWhole : Prop :=
  (∀ (p : Port) (c : FrameClass) (f : Frame) (s : State), s.resetHeld = none →
    (s.tif.port p).framer.opens = true → (s.tif.port p).framer ≠ .header →
    frameByte f 0 = 0xA6 → frameByte f 1 = 0x3D → frameByte f 2 = c.code →
    f.length = 8 + c.payloadBytes →
    runAll (f.map fun b => .strayByte 0 p (.byte b)) s =
      Sys2Proof.Machine.exec (.frameArrival 0 p f) s) ∧
  (∀ (after : Nat) (p : Port) (f : Frame) (s : State), s.resetHeld = none →
    ((s.elapse after).tif.port p).framer.opens = true →
    ((s.elapse after).tif.port p).framer ≠ .header → arrivable f = true →
    runAll [.strayByte after p (.byte 0xA6), .strayByte 0 p (.byte 0x3D), .frameArrival 0 p f] s =
      Sys2Proof.Machine.exec (.frameArrival after p f) s)

/-- A frame the part originates reads back, field by field, as what it was built from: it has the
length of its class, is good under the CRC check of R6, and carries the addresses, round byte and
payload given (R2, R6, R8). -/
def Obligations.OriginatedFramesAreGood : Prop :=
  ∀ (c : FrameClass) (dest src round : Byte) (payload : List Byte),
    payload.length = c.payloadBytes →
    let f := buildFrame c dest src round payload
    f.length = 8 + c.payloadBytes ∧ frameClass f = some c ∧ isGood c f = true ∧
    frameDest f = dest ∧ frameSource f = src ∧ frameRound f = round ∧
    ∀ i, i < c.payloadBytes → payloadByte f i = payload.getD i 0

/-- A bad frame of known class, short or with a CRC that does not match, counts as a CRC error of its
port, raises the TRUNK status while the class is enabled, counts in the port's tally while the state
is RUN too, and is forwarded unchanged; it is neither evaluated nor consumed. At a busy port it enters
the transit FIFO, or, where that holds 8, is discarded: a transit drop of the port it arrived on, the
second TRUNK event. At a port with nothing to send it is sent at once (R6, R9, R11, R14, R175). -/
def Obligations.BadFramesAreCountedAndForwarded : Prop :=
  ∀ (after : Nat) (p : Port) (c : FrameClass) (f : Frame) (s : State), s.resetHeld = none →
    let u := s.elapse after
    let before := u.tif.port p
    let out := u.tif.port (otherPort p)
    let tallied := u.mgu.notices.trunk.enable = true ∧ u.rct.opState = .run
    before.framer.between = true →
    arrivable f = true → frameClass f = some c → isGood c f = false →
    out.sending.isSome = true ∨ NothingToSend u.tif (otherPort p) →
    ∃ t, Sys2Proof.Machine.exec (.frameArrival after p f) s = .next t ∧
      (t.tif.port p).crcErrors = min 65535 (before.crcErrors + 1) ∧
      (t.tif.port p).goodFrames = before.goodFrames ∧
      (tallied → (t.tif.port p).crcTally = min 255 (before.crcTally + 1)) ∧
      (¬ tallied → (t.tif.port p).crcTally = before.crcTally) ∧
      (out.transit.length < 8 →
        (t.tif.port p).transitDrops = before.transitDrops ∧
        (t.tif.port p).dropTally = before.dropTally) ∧
      (8 ≤ out.transit.length →
        (t.tif.port p).transitDrops = min 65535 (before.transitDrops + 1) ∧
        (tallied → (t.tif.port p).dropTally = min 255 (before.dropTally + 1)) ∧
        (¬ tallied → (t.tif.port p).dropTally = before.dropTally)) ∧
      (out.sending.isSome = true →
        (t.tif.port (otherPort p)).sending = out.sending ∧
        (t.tif.port (otherPort p)).transit =
          if out.transit.length < 8 then out.transit ++ [f] else out.transit) ∧
      (NothingToSend u.tif (otherPort p) →
        (t.tif.port (otherPort p)).sending = some f ∧
        (t.tif.port (otherPort p)).transit = [] ∧
        (t.tif.port (otherPort p)).lastTaken = .transit ∧
        (t.tif.port (otherPort p)).framesForwarded = min 65535 (out.framesForwarded + 1)) ∧
      (t.tif.port (otherPort p)).queue = out.queue ∧
      (u.mgu.notices.trunk.enable = true → t.mgu.notices.trunk.status = true) ∧
      (u.mgu.notices.trunk.enable = false → t.mgu = u.mgu) ∧
      t.mgu.requests = u.mgu.requests ∧ t.rct = u.rct ∧ t.sin = u.sin ∧
      t.stu = u.stu ∧ t.plu = u.plu ∧ t.pju = u.pju ∧ t.znu = u.znu ∧ t.out = u.out

/-- A frame that is forwarded (a good frame that is no request for the part, or a frame of unknown
class) counts as good or as unexamined, a good SAMPLE from a source above 47 as unevaluated too. At a
busy port it enters the transit FIFO of its direction behind the newest if that holds fewer than 8,
and is discarded otherwise, which counts as a transit drop of the port it arrived on, raises the TRUNK
status while the class is enabled, and counts in the port's tally while the state is RUN too. At a
port with nothing to send it is sent at once; but where its own copy makes a close whose notices enter
the port's insertion queue at the same instant, the port selects by its last-taken mark, and the first
notice goes before a frame that follows transit. One without a copy for SIN or PLU does nothing else
(R5, R9, R10, R11, R14, R175). That forwarding and copy are one instant is the model's reading
(notes/assumptions/15.md, notes/assumptions/17.md). -/
def Obligations.TransitFifoTakesOrDrops : Prop :=
  ∀ (after : Nat) (p : Port) (f : Frame) (s : State), s.resetHeld = none →
    let u := s.elapse after
    let before := u.tif.port p
    let out := u.tif.port (otherPort p)
    let foreign := frameClass f = some .sample ∧ 48 ≤ (frameSource f).toNat
    let sampled := frameClass f = some .sample ∧ (frameSource f).toNat < 48
    let copied := frameClass f = some .yard ∨ sampled
    before.framer.between = true → arrivable f = true →
    (frameClass f = none ∨ ∃ c, frameClass f = some c ∧ isGood c f = true ∧
      (c = .mreq → ∀ unit : Fin 4,
        (frameDest f).toNat ≠ 224 + 4 * u.tif.strap.toNat + unit.val)) →
    out.sending.isSome = true ∨ NothingToSend u.tif (otherPort p) →
    ∃ t, Sys2Proof.Machine.exec (.frameArrival after p f) s = .next t ∧
      (frameClass f = none →
        (t.tif.port p).unexamined = min 65535 (before.unexamined + 1) ∧
        (t.tif.port p).goodFrames = before.goodFrames) ∧
      (frameClass f ≠ none →
        (t.tif.port p).unexamined = before.unexamined ∧
        (t.tif.port p).goodFrames = min 65535 (before.goodFrames + 1)) ∧
      (foreign → (t.tif.port p).unevaluated = min 65535 (before.unevaluated + 1)) ∧
      (¬ foreign → (t.tif.port p).unevaluated = before.unevaluated) ∧
      (out.transit.length < 8 →
        (t.tif.port p).transitDrops = before.transitDrops ∧
        (out.sending.isSome = true →
          (t.tif.port (otherPort p)).transit = out.transit ++ [f]) ∧
        (¬ copied → t.mgu = u.mgu ∧ (t.tif.port p).dropTally = before.dropTally)) ∧
      (8 ≤ out.transit.length →
        (t.tif.port (otherPort p)).transit = out.transit ∧
        (t.tif.port p).transitDrops = min 65535 (before.transitDrops + 1) ∧
        (u.mgu.notices.trunk.enable = true → t.mgu.notices.trunk.status = true) ∧
        (¬ copied → (t.tif.port p).dropTally =
          if u.mgu.notices.trunk.enable = true ∧ u.rct.opState = .run
          then min 255 (before.dropTally + 1) else before.dropTally)) ∧
      (NothingToSend u.tif (otherPort p) → ∃ notices : List Frame,
        let ps := t.tif.port (otherPort p)
        (∀ n ∈ notices, frameClass n = some .notice) ∧
        (¬ sampled ∨ p = .quay ∨ t.rct.phase = u.rct.phase → notices = []) ∧
        (notices = [] ∨ out.lastTaken = .insertion →
          ps.sending = some f ∧ ps.transit = [] ∧ ps.queue = notices ∧
          ps.lastTaken = .transit ∧ ps.framesInserted = out.framesInserted ∧
          ps.framesForwarded = min 65535 (out.framesForwarded + 1)) ∧
        (∀ n rest, notices = n :: rest → out.lastTaken = .transit →
          ps.sending = some n ∧ ps.transit = [f] ∧ ps.queue = rest ∧
          ps.lastTaken = .insertion ∧ ps.framesForwarded = out.framesForwarded ∧
          ps.framesInserted = min 65535 (out.framesInserted + 1))) ∧
      (¬ copied → t.rct = u.rct ∧ t.sin = u.sin ∧ t.stu = u.stu ∧ t.plu = u.plu ∧
        t.pju = u.pju ∧ t.znu = u.znu ∧ t.out = u.out)

/-- What the copy of a good SAMPLE frame from a station, or of a good YARD frame, does to SIN, RCT,
STU, PLU, PJU, ZNU and OUT does not depend on the forwarding of the frame, on the port it arrived on
or on whether its transit FIFO is full (R9, R10). -/
def Obligations.CopiesDoNotDependOnForwarding : Prop :=
  ∀ (after : Nat) (p : Port) (f : Frame) (s : State), s.resetHeld = none →
    let v := s.elapse after
    (v.tif.port p).framer.opens = true →
    (∀ k : Fin 48, frameClass f = some .sample → isGood .sample f = true →
      frameByte f 0 = 0xA6 → frameByte f 1 = 0x3D → (frameSource f).toNat = k.val →
      ∃ t u, Sys2Proof.Machine.exec (.frameArrival after p f) s = .next t ∧
        Sys2Proof.Machine.exec (.sampleArrival after
          { station := k, round := frameRound f, channel := payloadByte f 0
            flags := payloadByte f 1, value := payloadWord f 2 }) s = .next u ∧
        t.rct = u.rct ∧ t.sin = u.sin ∧ t.stu = u.stu ∧ t.plu = u.plu ∧ t.pju = u.pju ∧
        t.znu = u.znu ∧ t.out = u.out ∧ t.stage = u.stage) ∧
    (frameClass f = some .yard → isGood .yard f = true →
      frameByte f 0 = 0xA6 → frameByte f 1 = 0x3D →
      ∃ t u, Sys2Proof.Machine.exec (.frameArrival after p f) s = .next t ∧
        Sys2Proof.Machine.exec (.yardArrival
          { pile := payloadByte f 0, event := payloadByte f 1
            duration := payloadWord f 2 }) v = .next u ∧
        t.plu = u.plu ∧ t.sin = v.sin ∧ t.stu = v.stu ∧ t.pju = v.pju ∧ t.znu = v.znu ∧
        t.out = v.out ∧ t.rct = v.rct)

/-- A good MREQ whose destination is one of the part's four addresses 224 + 4 × A + u counts as a
good frame and is handed to MGU with its port, source, tag, op, table, index, field and data; it is
not forwarded (R7, R9). -/
def Obligations.OwnRequestsAreConsumed : Prop :=
  ∀ (after : Nat) (p : Port) (u : Fin 4) (f : Frame) (s : State), s.resetHeld = none →
    let v := s.elapse after
    (v.tif.port p).framer.between = true → (v.tif.port p).strayBytes ≤ 65535 →
    frameByte f 0 = 0xA6 → frameByte f 1 = 0x3D →
    frameClass f = some .mreq → isGood .mreq f = true →
    (frameDest f).toNat = 224 + 4 * v.tif.strap.toNat + u.val →
    Sys2Proof.Machine.exec (.frameArrival after p f) s =
      Sys2Proof.Machine.exec
        (.mreqArrival u { port := p, source := frameSource f, tag := payloadByte f 0 }
          (payloadByte f 1) (payloadByte f 2)
          { index := payloadWord f 3, field := payloadByte f 5, data := payloadWord f 6 })
        (v.modPort p fun ps =>
          { ps with
            framer := .hunt, goodFrames := min 65535 (ps.goodFrames + 1)
            strayBytes := min 65535 (ps.strayBytes + if ps.framer = .sawA6 then 1 else 0) })

/-- When a frame has left, the port selects its next frame: the MARK first, its last-taken mark
unchanged; otherwise, if both sources hold a frame, the one the mark does not name, and if one
does, that one, the mark set to it; with nothing waiting the port goes idle and keeps its mark. The
selected frame counts as inserted or forwarded (R14, R15). Said for a part whose request queue is
empty and that has no SERVICE sign to drain. -/
def Obligations.OutboundPortSelects : Prop :=
  ∀ (p : Port) (turns : List Turn) (s : State), s.resetHeld = none → s.mgu.requests = [] →
    (s.rct.opState = .run ∨ ∀ z, (s.zone z).signPending = false) →
    (s.tif.port p).sending.isSome = true →
    let gives := fun (t : Tif) =>
      Sys2Proof.Machine.exec (.frameSent p turns) s = .next (s.setTif t)
    let ps := s.tif.port p
    let noMark := p = .quay ∨ s.tif.markSlot = none
    (∀ m, p = .field → s.tif.markSlot = some m →
      gives (({ s.tif with markSlot := none }).setPort .field
        { ps with
          sending := some m, framesInserted := min 65535 (ps.framesInserted + 1) })) ∧
    (∀ f rest, noMark → ps.transit = f :: rest → ps.queue = [] ∨ ps.lastTaken = .insertion →
      gives (s.tif.setPort p
        { ps with
          transit := rest, sending := some f, lastTaken := .transit
          framesForwarded := min 65535 (ps.framesForwarded + 1) })) ∧
    (∀ f rest, noMark → ps.queue = f :: rest → ps.transit = [] ∨ ps.lastTaken = .transit →
      gives (s.tif.setPort p
        { ps with
          queue := rest, sending := some f, lastTaken := .insertion
          framesInserted := min 65535 (ps.framesInserted + 1) })) ∧
    (noMark → ps.transit = [] → ps.queue = [] →
      gives (s.tif.setPort p { ps with sending := none }))

/-- TIF and the request queue keep their capacities, reservations and work conservation under every
step: at most 8 frames in a transit FIFO, at most 16 frames and reservations in an insertion queue,
one reservation exactly for the request in execution, a COPY in execution for at most 2 ms, at most 4
requests waiting, no framer past its frame, and no port idle while one of its sources holds a frame
(R4, R5, R11, R12, R14, R119, R167). -/
def Obligations.EveryStepKeepsTheTrunkSound : Prop :=
  ∀ s t : State, TrunkSound s → Sys2Proof.Machine.step s = .next t → TrunkSound t

/-! ### Rounds -/

/-- An accepted START enters RUN and opens round 1: RCT's values, every station that is neither OFF
nor RETIRED UNSEEN, every zone at rest with its refresh countdown at 1 + (i mod R), every pile
WAITING, the round slots emptied, the MARK placed with sequence 0 and the new round number, and the
response OK with that round number; the lines stand as RUN has them, the snapshot is disarmed and the
TRUNK tallies are 0 (R20, R21, R92, R107, R120, R144, R159, R161, R162, R175, R176). -/
def Obligations.StartOpensRoundOne : Prop :=
  ∀ (e : Envelope) (b : Body) (s : State), TakesAtOnce e.port s →
    s.rct.opState = .config → s.rct.probing = false → s.pju.active.valid = true → CrossValid s →
    let number := if s.rct.roundMax = 0 then 0 else 1
    ∃ t, Sys2Proof.Machine.exec (.start e b) s = .next t ∧
      t.rct =
        { s.rct with
          opState := .run, phase := .opened, roundTimer := some 0, roundNumber := number
          prevRound := none, seq := 0, expected := [], outstanding := 0, roundsSinceStart := 0
          synced := false, completeSeen := false, syncFail := false, clock := 0
          clockRuns := true } ∧
      (∀ i, t.intake i = { s.intake i with reading := none, pendingA := none }) ∧
      (∀ i, t.station i =
        if (s.station i).health.state = .off ∨ (s.station i).health.state = .retired
        then s.station i
        else
          { s.station i with
            health := { (s.station i).health with state := .unseen, missed := 0, since := 0 } }) ∧
      (∀ z, (t.zone z).AtRest ∧ (t.zone z).refresh = 1 + z.val % s.out.refreshPeriod ∧
        (t.zone z).signPending = (s.zone z).signPending ∧
        (t.zone z).lastSent = (s.zone z).lastSent) ∧
      (∀ p, t.pile p =
        { s.pile p with dyn := { (s.pile p).dyn with source := .waiting } }) ∧
      t.plu.yardRejects = s.plu.yardRejects ∧
      t.pju = { s.pju with swapPending := false, contributions := [] } ∧
      t.out =
        { s.out with
          service := Vector.replicate 32 [], wl := t.out.wl, svc := t.out.svc } ∧
      LinesSound t ∧ t.stage = .idle ∧
      t.mgu = { (received s).mgu with snapshot := { s.mgu.snapshot with armed := false } } ∧
      (∀ p, (t.tif.port p).crcTally = 0 ∧ (t.tif.port p).dropTally = 0) ∧
      (let mark := markFrame s.tif.strap number s.rct.period false 0
       Marked mark s t ∧ Responded 0 e number (echo .ok 1 b 0) (some mark) [] s t)

/-- START is refused with WRONGSTATE in RUN, while a probe runs, and while the active bank's valid
flag is clear. With those checks passed it is refused with BADVALUE at the first confirm slot of an
enabled zone that names no DUST station, zones in index order; with every zone passed, at the first
enabled pile whose primary, or else whose fallback, is no ANEMO station. The response names the table,
index, field and unit that failed. A refused START changes nothing in any block beside counting and
answering the request (R20, R120). -/
def Obligations.RefusedStartChangesNothing : Prop :=
  ∀ (e : Envelope) (b : Body) (s : State), TakesAtOnce e.port s →
    let refused := fun (a : Reply) =>
      Sys2Proof.Machine.exec (.start e b) s = .next (received (answered 0 e a s))
    let checked :=
      s.rct.opState = .config ∧ s.rct.probing = false ∧ s.pju.active.valid = true
    let notDust := fun (slot : Option (Fin 48)) =>
      ∃ i, slot = some i ∧ (s.station i).cfg.kind ≠ .dust
    let anemo := fun (i : Fin 48) => (s.station i).cfg.kind = .anemo
    (s.rct.opState = .run ∨ s.rct.probing = true ∨ s.pju.active.valid = false →
      refused (echo .wrongState 1 b b.data)) ∧
    (∀ z : Fin 32, checked →
      (∀ y, y < z → s.zoneEnabled y = true → ∀ slot ∈ (s.zoneCfg y).confirmSlots, ¬ notDust slot) →
      s.zoneEnabled z = true →
      let c := s.zoneCfg z
      let names := fun (field : Byte) =>
        refused
          { status := .badValue, table := 1, index := BitVec.ofNat 16 z.val, field := field
            data := 3 }
      (notDust c.confirm1 → names 10) ∧
      (¬ notDust c.confirm1 → notDust c.confirm2 → names 11) ∧
      (¬ notDust c.confirm1 → ¬ notDust c.confirm2 → notDust c.confirm3 → names 12)) ∧
    (∀ p : Fin 24, checked →
      (∀ z, s.zoneEnabled z = true → ∀ slot ∈ (s.zoneCfg z).confirmSlots, ¬ notDust slot) →
      (∀ q, q < p → (s.pile q).cfg.enable = true → anemo (s.pile q).cfg.primary ∧
        ∀ i, (s.pile q).cfg.fallback = some i → anemo i) →
      (s.pile p).cfg.enable = true →
      let names := fun (field : Byte) =>
        refused
          { status := .badValue, table := 0, index := BitVec.ofNat 16 p.val, field := field
            data := 2 }
      (¬ anemo (s.pile p).cfg.primary → names 2) ∧
      (∀ i, anemo (s.pile p).cfg.primary → (s.pile p).cfg.fallback = some i → ¬ anemo i →
        names 3))

/-- A STOP taken in RUN returns the part to CONFIG: RCT's STOP values, the round slots emptied without
a pair error, a running drill's took-test flags moved to reseed flags, every zone at rest with its
refresh countdown kept, every pile WAITING, a pending exchange made, the lines inactive and SVC
active, the snapshot disarmed, the TRUNK tallies 0, a MARK in the slot of a busy port kept, and the
response OK with round number 0. In CONFIG it is refused with WRONGSTATE and changes nothing (R30,
R31, R56, R107, R117, R118, R145, R152, R161, R162, R175, R176). The SERVICE signs are stated in
ServiceSignsGoOutAtStop. -/
def Obligations.StopReturnsToConfig : Prop :=
  ∀ (e : Envelope) (b : Body) (s : State), TakesAtOnce e.port s →
    (s.rct.opState = .config →
      Sys2Proof.Machine.exec (.stop e b) s =
        .next (received (answered 0 e (echo .wrongState 2 b b.data) s))) ∧
    (s.rct.opState = .run →
      ∃ t, Sys2Proof.Machine.exec (.stop e b) s = .next t ∧
        t.rct =
          { s.rct with
            opState := .config, phase := .noRound, roundTimer := none, roundNumber := 0
            prevRound := none, seq := 0, expected := [], outstanding := 0, synced := false
            completeSeen := false } ∧
        (∀ i, t.intake i = { s.intake i with reading := none, pendingA := none }) ∧
        (∀ i, t.station i =
          if s.drillRunning = true ∧ (s.station i).health.tookTest = true
          then
            { s.station i with
              health := { (s.station i).health with reseed := true, tookTest := false } }
          else s.station i) ∧
        (∀ z, (t.zone z).AtRest ∧ (t.zone z).refresh = (s.zone z).refresh ∧
          (t.zone z).lastSent = { level := .clear, drill := false, degraded := false }) ∧
        (∀ p, t.pile p =
          { s.pile p with dyn := { (s.pile p).dyn with source := .waiting } }) ∧
        t.plu.yardRejects = s.plu.yardRejects ∧
        t.pju =
          { bank0 := s.pju.bank0, bank1 := s.pju.bank1
            activeIs1 := if s.pju.swapPending then !s.pju.activeIs1 else s.pju.activeIs1
            swapPending := false
            feeders :=
              if s.pju.swapPending then feederMasks s.pju.standby.plume else s.pju.feeders
            contributions := [] } ∧
        (∀ n : Fin 8, t.out.wl[n] = false) ∧ t.out.svc = true ∧
        t.out.lines = s.out.lines ∧ t.out.refreshPeriod = s.out.refreshPeriod ∧
        t.out.panelMode = s.out.panelMode ∧ t.out.panel = s.out.panel ∧ t.stage = .idle ∧
        t.mgu = { (received s).mgu with snapshot := { s.mgu.snapshot with armed := false } } ∧
        (∀ p, (t.tif.port p).crcTally = 0 ∧ (t.tif.port p).dropTally = 0) ∧
        (s.tif.fieldPort.sending.isSome = true ∨ NothingToSend s.tif .field →
          t.tif.markSlot = s.tif.markSlot) ∧
        ∃ signs, (e.port = .quay → signs = []) ∧
          Responded 0 e 0 (echo .ok 2 b 0) none signs s t)

/-- A PROBE accepted in CONFIG clears the probe records, sets the probe flag, restarts the arrival
clock and the probe timer, places the probe MARK, and is answered at once; in RUN or while a probe
runs it is refused with WRONGSTATE. At the probe timer's expiry, P × 50 ms after the PROBE and not
earlier, the flag clears and, while the ROUND class is enabled, its status is set and the notice
"probe done" is reported (R32, R34, R172, R174). -/
def Obligations.ProbeStartsAndExpires : Prop :=
  (∀ (e : Envelope) (b : Body) (s : State), TakesAtOnce e.port s →
    (s.rct.opState = .run ∨ s.rct.probing = true →
      Sys2Proof.Machine.exec (.probe e b) s =
        .next (received (answered 0 e (echo .wrongState 3 b b.data) s))) ∧
    (s.rct.opState = .config → s.rct.probing = false →
      ∃ t, Sys2Proof.Machine.exec (.probe e b) s = .next t ∧
        t.rct =
          { s.rct with
            probes := Vector.replicate 48 { offset := 0, count := 0 }, probing := true
            clock := 0, clockRuns := true, probeTimer := some 0 } ∧
        t.mgu = (received s).mgu ∧ t.sin = s.sin ∧ t.stu = s.stu ∧ t.plu = s.plu ∧
        t.pju = s.pju ∧ t.znu = s.znu ∧ t.out = s.out ∧ t.stage = s.stage ∧
        (let mark := markFrame s.tif.strap 0 s.rct.period true 0
         Marked mark s t ∧
         Responded 0 e s.rct.roundNumber (echo .ok 3 b 0) (some mark) [] s t))) ∧
  (∀ (s : State) (n : Nat), s.rct.probeTimer = some n → n < s.rct.period * 50 →
    Sys2Proof.Machine.exec .probeTimerExpiry s = .next s) ∧
  (∀ s : State, AtProbeEnd s →
    ∃ t, Sys2Proof.Machine.exec .probeTimerExpiry s = .next t ∧
      t.rct = { s.rct with probing := false, probeTimer := none } ∧
      (s.mgu.notices.round.enable = true → t.mgu.notices.round.status = true) ∧
      (s.mgu.notices.round.enable = false → t.mgu = s.mgu ∧ t.tif = s.tif) ∧
      (s.mgu.notices.round.mask = true → t.tif = s.tif) ∧
      Notified .round [{ subject := 1, old := 0, new := 0, flags := 0 }] s t ∧
      t.sin = s.sin ∧ t.stu = s.stu ∧ t.plu = s.plu ∧ t.pju = s.pju ∧ t.znu = s.znu ∧
      t.out = s.out ∧ t.stage = s.stage)

/-- At the round timer's expiry, P × 50 ms after the opening and not earlier, a new round opens: the
number advances and wraps from RoundMax to 1 (0 stays 0), the number left becomes the previous one or
none, the sequence advances modulo 16, the arrival clock and the timer restart, the expected set is
the HEALTHY stations, the slots are emptied and the MARK is placed; no other block changes (R22 to R24,
R26, R27, R29, R55). -/
def Obligations.ExpiryOpensTheNextRound : Prop :=
  (∀ (s : State) (n : Nat), s.rct.roundTimer = some n → n < s.rct.period * 50 →
    Sys2Proof.Machine.exec .roundTimerExpiry s = .next s) ∧
  ∀ s : State, AtExpiry s →
    let number :=
      if s.rct.roundMax = 0 then 0
      else if s.rct.roundMax ≤ s.rct.roundNumber then 1 else s.rct.roundNumber + 1
    let healthy := (List.finRange 48).filter fun i => (s.station i).health.state == .healthy
    ∃ t, Sys2Proof.Machine.exec .roundTimerExpiry s = .next t ∧
      t.rct =
        { s.rct with
          phase := .opened, roundTimer := some 0, roundNumber := number
          prevRound := if number = s.rct.roundNumber then none else some s.rct.roundNumber
          seq := s.rct.seq + 1, expected := healthy, outstanding := healthy.length
          clock := 0, clockRuns := true } ∧
      (∀ i, t.intake i = { s.intake i with reading := none, pendingA := none }) ∧
      Marked (markFrame s.tif.strap number s.rct.period false (s.rct.seq + 1).val) s t ∧
      t.tif.quayPort = s.tif.quayPort ∧ t.stu = s.stu ∧ t.plu = s.plu ∧ t.pju = s.pju ∧
      t.znu = s.znu ∧ t.out = s.out ∧ t.mgu = s.mgu ∧ t.stage = s.stage

/-- A round still OPEN at its close deadline, P × 50 − 100 ms after its opening and not earlier,
closes: RCT judges it complete when no expected station is outstanding, and keeps SYNCED, the
complete-close-seen flag, SYNC_FAIL and the rounds-since-START count; "sync lost" sets the ROUND status while the class is enabled, and is reported with the round's
number and the outstanding count; SIN keeps every reading and discards every pending path A with a
pair error; a port with a tally above 0 is reported, the field port first, and both tallies are then
0; a station that goes stale, is retired or recovers is reported, in slot order; whether a drill runs
is recorded; PLU, PJU and the zones wait for their turn (R23, R25, R28, R54, R86, R151, R172, R174,
R175). That an idle quay port has room for one notice more is the model's reading of R14
(notes/assumptions/17.md). -/
def Obligations.DeadlineClosesTheRound : Prop :=
  (∀ (s : State) (n : Nat), s.rct.roundTimer = some n → n + 100 < s.rct.period * 50 →
    Sys2Proof.Machine.exec .closeDeadline s = .next s) ∧
  ∀ s : State, AtDeadline s →
    ∃ t, Sys2Proof.Machine.exec .closeDeadline s = .next t ∧
      t.rct =
        { s.rct with
          phase := .evaluating, closeTimer := some 0
          synced := s.rct.outstanding == 0
          completeSeen :=
            s.rct.completeSeen || (s.rct.outstanding == 0 && !s.rct.expected.isEmpty)
          syncFail := s.rct.syncFail || (s.rct.outstanding != 0 && s.rct.completeSeen)
          roundsSinceStart := min 65535 (s.rct.roundsSinceStart + 1) } ∧
      (∀ i, t.intake i =
        match (s.intake i).pendingA with
        | none => s.intake i
        | some _ =>
          { s.intake i with
            pendingA := none, pairError := min 65535 ((s.intake i).pairError + 1) }) ∧
      (s.rct.outstanding ≠ 0 → s.rct.completeSeen = true → s.mgu.notices.round.enable = true →
        t.mgu.notices.round.status = true) ∧
      Notified .round
        (if s.rct.outstanding ≠ 0 ∧ s.rct.completeSeen = true then
          [{ subject := 0, old := s.rct.roundNumber, new := min 255 s.rct.outstanding, flags := 0 }]
         else []) s t ∧
      (∀ p, (t.tif.port p).crcTally = 0 ∧ (t.tif.port p).dropTally = 0) ∧
      Notified .trunk
        ([(0, s.tif.fieldPort), (1, s.tif.quayPort)].flatMap fun port =>
          if 0 < port.2.crcTally ∨ 0 < port.2.dropTally then
            [{ subject := port.1, old := port.2.crcTally, new := port.2.dropTally, flags := 0 }]
          else []) s t ∧
      Notified .station
        ((List.finRange 48).flatMap fun i =>
          let old := (s.station i).health.state
          let new := (t.station i).health.state
          if (old = .healthy ∧ (new = .stale ∨ new = .retired)) ∨ (old = .stale ∧ new = .healthy)
          then [{ subject := i.val, old := old.code, new := new.code, flags := 0 }] else []) s t ∧
      (t.znu.drillAtClose = true ↔ ∃ z, 0 < (s.zone z).drillTimer) ∧
      (∀ z, t.zone z = s.zone z) ∧ t.plu = s.plu ∧ t.pju = s.pju ∧
      t.out = { s.out with wl := t.out.wl, svc := t.out.svc } ∧ LinesSound t ∧
      t.mgu = { s.mgu with notices := t.mgu.notices } ∧
      t.stage =
        (match (List.finRange 24).find? fun p => (s.pile p).cfg.enable with
         | some p => .piles p
         | none => .projecting)

/-- The round controller stays within what the manual states under every step: the settings in
range, the clock at most 8191, no round in CONFIG, a round and no probe in RUN with the numbers of
R26 and the round timer at the arrival clock, that timer at most at P × 50 ms and, while the round is
OPEN, at most at the close deadline, an evaluation for at most 100 ms and so over before the expiry,
a probe for at most P × 50 ms, a chain of evaluation exactly in phase EVALUATING, PLU's pass at an
enabled pile, and an empty contribution list outside PLU's pass and PJU's work (R18, R19, R22, R23,
R26, R29, R32, R34, R35, R101, R122, R139). -/
def Obligations.EveryStepKeepsTheRoundsSound : Prop :=
  ∀ s t : State, RoundsSound s → Sys2Proof.Machine.step s = .next t → RoundsSound t

/-- The outstanding count is exact under every step from sound rounds: while a round is open it equals
the number of expected stations that have no reading yet, and an ALL_IN round with a non-empty
expected set is open only while one is outstanding (R24, R52). -/
def Obligations.EveryStepKeepsTheOutstandingCount : Prop :=
  ∀ s t : State, RoundsSound s → OutstandingSound s → Sys2Proof.Machine.step s = .next t →
    OutstandingSound t

/-! ### Sample intake -/

/-- A RUN sample is disposed of by the first condition of R39 that holds: dropped, with one counter of
its station one higher and nothing else of SIN changed, or, where none holds, accepted, its stamp
written and the took-test flag set by a TEST sample (R38 to R45). In CONFIG a station sample changes
no round slot: while a probe runs one with round byte 0 is recorded, its stamp the first-arrival
offset of an empty record, and any other, and every sample while no probe runs, is discarded (R33,
R38). -/
def Obligations.SamplesAreJudgedInOrder : Prop :=
  (∀ (after : Nat) (c : SampleCopy) (v : State), v.resetHeld = none →
     let i := c.station
     let s := v.elapse after
     s.rct.opState = .run →
     let gives := fun (it : Intake) =>
       Sys2Proof.Machine.exec (.sampleArrival after c) v = .next (s.setIntake i it)
     let c1 := (s.station i).health.state = .off ∨ (s.station i).health.state = .retired
     let c2 := s.rct.phase ≠ .opened
     let c3 := s.rct.roundMax ≠ 0 ∧ s.rct.prevRound = some c.round.toNat
     let c4 := s.rct.roundMax ≠ 0 ∧ c.round.toNat ≠ s.rct.roundNumber
     let c5 := c.flags.getLsbD 0 = true ∧ ∀ z, (s.zone z).drillTimer = 0
     let c6 := ¬ ChannelOf (s.station i).cfg.kind c.channel
     (c1 → gives { s.intake i with ignored := min 65535 ((s.intake i).ignored + 1) }) ∧
     (¬ c1 → c2 → gives { s.intake i with late := min 65535 ((s.intake i).late + 1) }) ∧
     (¬ c1 → ¬ c2 → c3 → gives { s.intake i with late := min 65535 ((s.intake i).late + 1) }) ∧
     (¬ c1 → ¬ c2 → ¬ c3 → c4 →
       gives { s.intake i with foreign := min 65535 ((s.intake i).foreign + 1) }) ∧
     (¬ c1 → ¬ c2 → ¬ c3 → ¬ c4 → c5 →
       gives { s.intake i with testDropped := min 65535 ((s.intake i).testDropped + 1) }) ∧
     (¬ c1 → ¬ c2 → ¬ c3 → ¬ c4 → ¬ c5 → c6 →
       gives { s.intake i with foreign := min 65535 ((s.intake i).foreign + 1) }) ∧
     (¬ c1 → ¬ c2 → ¬ c3 → ¬ c4 → ¬ c5 → ¬ c6 →
       ∃ t, Sys2Proof.Machine.exec (.sampleArrival after c) v = .next t ∧
         (t.intake i).lastOffset = s.rct.clock ∧
         (t.station i).health.tookTest =
           ((s.station i).health.tookTest || c.flags.getLsbD 0) ∧
         (t.intake i).ignored = (s.intake i).ignored ∧ (t.intake i).late = (s.intake i).late ∧
         (t.intake i).foreign = (s.intake i).foreign ∧
         (t.intake i).testDropped = (s.intake i).testDropped ∧
         ∀ j, j ≠ i → (t.intake j).reading = (s.intake j).reading ∧
           (t.intake j).lastOffset = (s.intake j).lastOffset)) ∧
  (∀ (after : Nat) (c : SampleCopy) (v : State), v.resetHeld = none →
     let s := v.elapse after
     s.rct.opState = .config →
     let r := s.rct.probes[c.station]
     (s.rct.probing = true → c.round = 0 →
       Sys2Proof.Machine.exec (.sampleArrival after c) v = .next (s.setRct
         { s.rct with
           probes := tableSet s.rct.probes c.station
             { offset := if r.count = 0 then s.rct.clock else r.offset
               count := min 65535 (r.count + 1) } })) ∧
     (s.rct.probing = false ∨ c.round ≠ 0 →
       Sys2Proof.Machine.exec (.sampleArrival after c) v = .next s))

/-- An accepted DUST sample: status-coded at 65280 and above under Z (held counter), implausible
outside lo..hi after the clip to 4095 (implausible counter), otherwise the station's reading; the
stamp is written and a TEST sample sets the took-test flag in every case, and nothing else changes
but what the first reading's report does: it lowers the outstanding count of an expected station,
and the last one of an ALL_IN round closes it (R24, R25, R43, R45, R47, R48, R49, R52). -/
def Obligations.DustSamplesBecomeReadings : Prop :=
  ∀ (after : Nat) (c : SampleCopy) (v : State), v.resetHeld = none →
    let s := v.elapse after
    Accepted c s → (s.station c.station).cfg.kind = .dust →
    let i := c.station
    let st := s.station i
    let it := s.intake i
    let stamp := s.rct.clock
    let coded := st.cfg.statusCodes = true ∧ 65280 ≤ c.value.toNat
    let d := min 4095 (c.value.toNat / 2 ^ st.cfg.shift)
    let answer := Sys2Proof.Machine.exec (.sampleArrival after c) v
    let leaves := fun (x : Intake) =>
      (s.setIntake i x).setStation i
        { st with
          health := { st.health with tookTest := st.health.tookTest || c.flags.getLsbD 0 } }
    (coded →
      answer = .next (leaves { it with lastOffset := stamp, held := min 65535 (it.held + 1) })) ∧
    (¬ coded → d < st.cfg.lo ∨ st.cfg.hi < d →
      answer = .next (leaves
        { it with lastOffset := stamp, implausible := min 65535 (it.implausible + 1) })) ∧
    (¬ coded → st.cfg.lo ≤ d → d ≤ st.cfg.hi →
      let read := leaves { it with lastOffset := stamp, reading := some (.dust d) }
      (it.reading ≠ none → answer = .next read) ∧ (it.reading = none → Reported i read answer))

/-- An accepted ANEMO sample that is not status-coded, with x = floor(raw / 2^s) clipped to
±1023: a path A becomes the pending record, a waiting one counting a pair error; a path B within W
ms of a waiting path A completes the pair, which is the station's reading and is reported when it is
the round's first; one beyond W discards both with a pair error, and one with no path A waiting is
an orphan with a pair error. A status-coded one changes only the stamp and the held counter. Nothing
else changes but the took-test flag, which a TEST sample sets (R24, R25, R43, R45, R46, R48, R50, R51,
R52). -/
def Obligations.AnemometerPathsPair : Prop :=
  ∀ (after : Nat) (c : SampleCopy) (v : State), v.resetHeld = none →
    let s := v.elapse after
    Accepted c s → (s.station c.station).cfg.kind = .anemo →
    let i := c.station
    let st := s.station i
    let it := s.intake i
    let stamp := s.rct.clock
    let coded := st.cfg.statusCodes = true ∧ 32512 ≤ c.value.toInt.natAbs
    let x := max (-1023) (min 1023 (Int.fdiv c.value.toInt (2 ^ st.cfg.shift)))
    let answer := Sys2Proof.Machine.exec (.sampleArrival after c) v
    let leaves := fun (x : Intake) =>
      (s.setIntake i x).setStation i
        { st with
          health := { st.health with tookTest := st.health.tookTest || c.flags.getLsbD 0 } }
    let gives := fun (x : Intake) => answer = .next (leaves x)
    (coded →
      gives { it with lastOffset := stamp, held := min 65535 (it.held + 1) }) ∧
    (¬ coded → c.channel = 0 → it.pendingA = none →
      gives { it with lastOffset := stamp, pendingA := some { value := x, offset := stamp } }) ∧
    (¬ coded → c.channel = 0 → it.pendingA.isSome = true →
      gives
        { it with
          lastOffset := stamp, pendingA := some { value := x, offset := stamp }
          pairError := min 65535 (it.pairError + 1) }) ∧
    (¬ coded → c.channel = 1 → it.pendingA = none →
      gives { it with lastOffset := stamp, pairError := min 65535 (it.pairError + 1) }) ∧
    (∀ a, ¬ coded → c.channel = 1 → it.pendingA = some a → stamp - a.offset ≤ st.cfg.window →
      let read := leaves
        { it with lastOffset := stamp, pendingA := none, reading := some (.pair a.value x) }
      (it.reading ≠ none → answer = .next read) ∧ (it.reading = none → Reported i read answer)) ∧
    (∀ a, ¬ coded → c.channel = 1 → it.pendingA = some a → st.cfg.window < stamp - a.offset →
      gives
        { it with
          lastOffset := stamp, pendingA := none, pairError := min 65535 (it.pairError + 1) })

/-! ### Stations -/

/-- The speed index of components within −1023..+1023 is at most 1406, is 0 exactly when both
components are 0, and is exact along an axis. A speed index below the calm threshold is CALM; from it
on the sector is the step of the first of R65's five tests that holds, in the quadrant of the signs,
a component of 0 counting as positive; and turning the air motion a quarter clockwise, away from
u = v = 0, turns the computed sector by 4 (R64 to R66). -/
def Obligations.SectorsFollowTheTests : Prop :=
  (∀ u v : Int, u.natAbs ≤ 1023 → v.natAbs ≤ 1023 → speedIndex u v ≤ 1406) ∧
  (∀ u v : Int, speedIndex u v = 0 ↔ u = 0 ∧ v = 0) ∧
  (∀ u : Int, speedIndex u 0 = u.natAbs ∧ speedIndex 0 u = u.natAbs) ∧
  (∀ (calm : Nat) (u v : Int), (u ≠ 0 ∨ v ≠ 0) →
    computedSector calm v (-u) =
      match computedSector calm u v with
      | .calm => .calm
      | .dir d => .dir (d + 4)) ∧
  (∀ (calm : Nat) (u v : Int),
    let ax := u.natAbs
    let ay := v.natAbs
    let stepIs := fun (j : Nat) => ∃ d : Fin 16,
      computedSector calm u v = .dir d ∧
      (0 ≤ u → 0 ≤ v → d.val = j) ∧ (0 ≤ u → v < 0 → d.val = 8 - j) ∧
      (u < 0 → v < 0 → d.val = 8 + j) ∧ (u < 0 → 0 ≤ v → d.val = (16 - j) % 16)
    (max ax ay + 3 * min ax ay / 8 < calm → computedSector calm u v = .calm) ∧
    (calm ≤ max ax ay + 3 * min ax ay / 8 →
      (256 * ax < 51 * ay → stepIs 0) ∧
      (51 * ay ≤ 256 * ax → 256 * ax < 171 * ay → stepIs 1) ∧
      (171 * ay ≤ 256 * ax → 171 * ax ≤ 256 * ay → stepIs 2) ∧
      (171 * ay ≤ 256 * ax → 256 * ay < 171 * ax → 51 * ax ≤ 256 * ay → stepIs 3) ∧
      (171 * ay ≤ 256 * ax → 256 * ay < 51 * ax → stepIs 4)))

/-- A seeding round: a station UNSEEN or STALE, or HEALTHY with its reseed flag set, that has a
reading at the close becomes HEALTHY with missed count and rounds since recovery 0 and its reseed
flag clear. A head's filters start at 16 M of the rotated pair, its sector is the computed one
without persistence, and excess, gust and lift index are 0; a dust monitor's level is its reading.
Configuration, fault count and took-test flag stay. A STALE one has recovered: that sets the STATION
status while the class is enabled, and DeadlineClosesTheRound gives its notice (R59, R63, R72, R75,
R82, R86, R172). -/
def Obligations.SeedingRoundsStartTheFilters : Prop :=
  ∀ s : State, AtDeadline s →
    ∃ t, Sys2Proof.Machine.exec .closeDeadline s = .next t ∧
      ∀ i : Fin 48,
        let st := s.station i
        let cfg := st.cfg
        let seeded := { st.health with state := .healthy, missed := 0, since := 0, reseed := false }
        ((st.health.state = .unseen ∨ st.health.state = .stale ∨
            (st.health.state = .healthy ∧ st.health.reseed = true)) →
          (∀ a b : Int, cfg.kind = .anemo → (s.intake i).reading = some (.pair a b) →
            let turn := fun n : Int => max (-1023) (min 1023 (Int.tdiv (n * 181) 256))
            let uv := match cfg.rotation with
              | .direct => (max (-1023) (min 1023 a), max (-1023) (min 1023 b))
              | .skewPlus => (turn (a - b), turn (a + b))
              | .skewMinus => (turn (a + b), turn (a - b))
            let m := max uv.1.natAbs uv.2.natAbs + 3 * min uv.1.natAbs uv.2.natAbs / 8
            t.station i =
              { cfg := cfg, health := seeded
                comp :=
                  { st.comp with
                    sector := computedSector cfg.calmThreshold uv.1 uv.2
                    candidate := none, runCount := 0, g1 := 16 * m, g2 := 16 * m, m := 16 * m
                    gustSpeed := m, meanSpeed := m, excess := 0, gust := false, lift := 0 } }) ∧
          (∀ d : Nat, cfg.kind = .dust → (s.intake i).reading = some (.dust d) →
            t.station i =
              { cfg := cfg, health := seeded
                comp := { st.comp with d1 := 16 * d, d2 := 16 * d, dustLevel := d } })) ∧
        (st.health.state = .stale → (s.intake i).reading ≠ none →
          (t.station i).health = seeded ∧
          (s.mgu.notices.station.enable = true → t.mgu.notices.station.status = true))

/-- An update round: a HEALTHY station whose reseed flag is clear and that has a reading at the
close counts a round since recovery, its missed count 0, and steps its filters. The stages move by
the floor of their coefficient's share of the difference, the second gust stage toward the new
first; the results are floors of the stages' sixteenths; the gust flag and the lift index follow
from them (R59, R68 to R71, R75, R82, R84). -/
def Obligations.UpdateRoundsStepTheFilters : Prop :=
  ∀ s : State, AtDeadline s →
    ∃ t, Sys2Proof.Machine.exec .closeDeadline s = .next t ∧
      ∀ i : Fin 48,
        let st := s.station i
        let cfg := st.cfg
        let old := st.comp
        let new := (t.station i).comp
        cfg.Sound → old.Sound → st.health.state = .healthy → st.health.reseed = false →
        (∀ a b : Int, cfg.kind = .anemo → a.natAbs ≤ 1023 → b.natAbs ≤ 1023 →
          (s.intake i).reading = some (.pair a b) →
          let uv := rotate cfg.rotation a b
          let target : Int := 16 * (speedIndex uv.1 uv.2 : Int)
          let step := fun (num den state aim : Int) => state + Int.fdiv (num * (aim - state)) den
          (t.station i).cfg = cfg ∧
          (t.station i).health =
            { st.health with missed := 0, since := min 65535 (st.health.since + 1) } ∧
          (new.g1 : Int) = step cfg.gustCoeff 16 old.g1 target ∧
          (new.g2 : Int) = step cfg.gustCoeff 16 old.g2 new.g1 ∧
          (new.m : Int) = step 1 (2 ^ cfg.meanShift) old.m target ∧
          new.gustSpeed = new.g2 / 16 ∧ new.meanSpeed = new.m / 16 ∧
          new.excess = new.gustSpeed - new.meanSpeed ∧
          (new.gust = true ↔
            cfg.gustThreshold ≤ new.gustSpeed ∧ cfg.excessThreshold ≤ new.excess) ∧
          (new.gust = true → new.lift = min 1023 (new.gustSpeed - cfg.liftBase)) ∧
          (new.gust = false → new.lift = 0) ∧
          new.d1 = old.d1 ∧ new.d2 = old.d2 ∧ new.dustLevel = old.dustLevel) ∧
        (∀ d : Nat, cfg.kind = .dust → d ≤ 4095 → (s.intake i).reading = some (.dust d) →
          let step := fun (state aim : Int) =>
            state + Int.fdiv ((cfg.dustCoeff : Int) * (aim - state)) 16
          (t.station i).cfg = cfg ∧
          (t.station i).health =
            { st.health with missed := 0, since := min 65535 (st.health.since + 1) } ∧
          (new.d1 : Int) = step old.d1 (16 * d) ∧ (new.d2 : Int) = step old.d2 new.d1 ∧
          new.dustLevel = new.d2 / 16 ∧
          new = { old with d1 := new.d1, d2 := new.d2, dustLevel := new.dustLevel })

/-- Sector persistence in an update round, with X the computed sector: X equal to the reported
sector drops the candidate; X equal to the candidate counts one more round, and at the persistence
p becomes the reported sector; any other X starts as candidate with count 1, and at p = 1 becomes
the reported sector at once (R67). -/
def Obligations.SectorsPersist : Prop :=
  ∀ s : State, AtDeadline s →
    ∃ t, Sys2Proof.Machine.exec .closeDeadline s = .next t ∧
      ∀ (i : Fin 48) (a b : Int),
        let st := s.station i
        let uv := rotate st.cfg.rotation a b
        let x := computedSector st.cfg.calmThreshold uv.1 uv.2
        let old := st.comp
        let becomes := fun (sector : Sector) (candidate : Option Sector) (n : Nat) =>
          (t.station i).comp.sector = sector ∧ (t.station i).comp.candidate = candidate ∧
            (t.station i).comp.runCount = n
        st.health.state = .healthy → st.health.reseed = false → st.cfg.kind = .anemo →
        1 ≤ st.cfg.persistence → (s.intake i).reading = some (.pair a b) →
        (x = old.sector → becomes x none 0) ∧
        (x ≠ old.sector → old.candidate = some x → old.runCount + 1 < st.cfg.persistence →
          becomes old.sector (some x) (old.runCount + 1)) ∧
        (x ≠ old.sector → old.candidate = some x → st.cfg.persistence ≤ old.runCount + 1 →
          becomes x none 0) ∧
        (x ≠ old.sector → old.candidate ≠ some x → st.cfg.persistence = 1 → becomes x none 0) ∧
        (x ≠ old.sector → old.candidate ≠ some x → 1 < st.cfg.persistence →
          becomes old.sector (some x) 1)

/-- A missed round: a station UNSEEN, HEALTHY or STALE without a reading at the close counts it up to
255 and keeps its computation record. A HEALTHY one also counts a round since recovery, and at the
stale limit becomes STALE; with the settle rounds reached that is a fault, and the third fault
retires it. OFF and RETIRED stations are not touched. A move out of HEALTHY sets the STATION
status while the class is enabled (R59, R73, R80, R83 to R86, R172). -/
def Obligations.MissedRoundsWearAStation : Prop :=
  ∀ s : State, AtDeadline s →
    ∃ t, Sys2Proof.Machine.exec .closeDeadline s = .next t ∧
      ∀ i : Fin 48,
        let st := s.station i
        let h := st.health
        let missed := min 255 (h.missed + 1)
        let since := min 65535 (h.since + 1)
        let becomes := fun (x : HealthRecord) => t.station i = { st with health := x }
        ((h.state = .off ∨ h.state = .retired) → becomes h) ∧
        ((s.intake i).reading = none →
          ((h.state = .unseen ∨ h.state = .stale) → becomes { h with missed := missed }) ∧
          (h.state = .healthy → missed < st.cfg.staleLimit →
            becomes { h with missed := missed, since := since }) ∧
          (h.state = .healthy → h.faults < 3 → st.cfg.staleLimit ≤ missed →
            since < st.cfg.settleRounds →
            becomes { h with state := .stale, missed := missed, since := since }) ∧
          (h.state = .healthy → h.faults < 2 → st.cfg.staleLimit ≤ missed →
            st.cfg.settleRounds ≤ since →
            becomes
              { h with
                state := .stale, missed := missed, since := since, faults := h.faults + 1 }) ∧
          (h.state = .healthy → h.faults = 2 → st.cfg.staleLimit ≤ missed →
            st.cfg.settleRounds ≤ since →
            becomes
              { h with state := .retired, missed := missed, since := since, faults := 3 }) ∧
          (h.state = .healthy → st.cfg.staleLimit ≤ missed →
            s.mgu.notices.station.enable = true → t.mgu.notices.station.status = true))

/-- An ADMIT of a station clears its fault and missed counts, and brings a RETIRED or STALE station
back to UNSEEN while it is in service and to OFF while it is not; the response carries the health
state after it. An index above 47 is refused with BADADDR. Nothing else changes but SVC and the
request counters (R90, R162, R169). -/
def Obligations.AdmitBringsAStationBack : Prop :=
  ∀ (e : Envelope) (b : Body) (s : State), TakesAtOnce e.port s →
    (48 ≤ b.index.toNat →
      Sys2Proof.Machine.exec (.admitStation e b) s =
        .next (received (answered 1 e (echo .badAddr 1 b b.data) s))) ∧
    (∀ i : Fin 48, b.index.toNat = i.val →
      let h := (s.station i).health
      let inService := (s.station i).cfg.kind ≠ .absent ∧ (s.station i).cfg.enable = true
      let gives := fun (x : Health) =>
        ∃ t, Sys2Proof.Machine.exec (.admitStation e b) s = .next t ∧
          t.stu = tableSet s.stu i
            { s.station i with health := { h with state := x, faults := 0, missed := 0 } } ∧
          t.tif = answeredTif 1 e (echo .ok 1 b (BitVec.ofNat 16 x.code)) s ∧
          t.mgu = (received s).mgu ∧ t.rct = s.rct ∧ t.sin = s.sin ∧ t.plu = s.plu ∧
          t.pju = s.pju ∧ t.znu = s.znu ∧ t.stage = s.stage ∧
          t.out = { s.out with wl := t.out.wl, svc := t.out.svc } ∧ LinesSound t
      (h.state = .retired ∨ h.state = .stale → inService → gives .unseen) ∧
      (h.state = .retired ∨ h.state = .stale → ¬ inService → gives .off) ∧
      (h.state ≠ .retired → h.state ≠ .stale → gives h.state))

/-- A write to a station's kind or enable in CONFIG moves its health: out of service gives OFF, a
RETIRED station stays RETIRED, an OFF station put in service or a change of kind gives UNSEEN, each
with missed count and rounds since recovery 0; and a change of kind resets the computation record.
In RUN it is refused with WRONGSTATE, and a code outside the set with BADVALUE, and nothing
changes (R37, R78, R91). -/
def Obligations.KindAndEnableWritesMoveHealth : Prop :=
  ∀ (e : Envelope) (b : Body) (s : State) (i : Fin 48), TakesAtOnce e.port s →
    b.index.toNat = i.val → b.field = 0 ∨ b.field = 1 →
    let st := s.station i
    let h := st.health
    let bad := (b.field = 0 ∧ 3 ≤ b.data.toNat) ∨ (b.field = 1 ∧ 2 ≤ b.data.toNat)
    (s.rct.opState = .run →
      Sys2Proof.Machine.exec (.stationConfigWrite e b) s =
        .next (received (answered 1 e (echo .wrongState 0 b b.data) s))) ∧
    (s.rct.opState = .config → bad →
      Sys2Proof.Machine.exec (.stationConfigWrite e b) s =
        .next (received (answered 1 e (echo .badValue 0 b b.data) s))) ∧
    (∀ (kind : Kind) (enable : Bool), s.rct.opState = .config → ¬ bad →
      (b.field = 0 → b.data.toNat = kind.code ∧ enable = st.cfg.enable) →
      (b.field = 1 → kind = st.cfg.kind ∧ b.data.toNat = flagCode enable) →
      let comp := if kind = st.cfg.kind then st.comp else .cleared
      let gives := fun (health : HealthRecord) =>
        Sys2Proof.Machine.exec (.stationConfigWrite e b) s =
          .next (received (answered 1 e (echo .ok 0 b b.data)
            (s.setStation i
              { cfg := { st.cfg with kind := kind, enable := enable }
                health := health, comp := comp })))
      let out := kind = .absent ∨ enable = false
      (h.state = .retired → gives h) ∧
      (h.state ≠ .retired → out → gives { h with state := .off, missed := 0, since := 0 }) ∧
      (h.state ≠ .retired → ¬ out → h.state = .off ∨ kind ≠ st.cfg.kind →
        gives { h with state := .unseen, missed := 0, since := 0 }) ∧
      (h.state ≠ .retired → h.state ≠ .off → ¬ out → kind = st.cfg.kind → gives h))

/-- A write of a station's configuration record in CONFIG: a magnitude is stored, or the nearer bound
with CLAMPED; the status-code flag takes 0 or 1 and the rotation mode 0 to 2, and any other code is
refused with BADVALUE. The value stored is echoed and reads back; every other field of the record, the
health and computation records and every other slot stay. In RUN every field is refused with
WRONGSTATE, and an index above 47 or a field above 17 always with BADADDR (R37, R62, R74, R81, R169,
R182, R183). Kind and enable are in KindAndEnableWritesMoveHealth. -/
def Obligations.StationWritesStoreTheirFields : Prop :=
  ∀ (e : Envelope) (b : Body) (s : State), TakesAtOnce e.port s →
    let f := b.field.toNat
    let n := b.data.toNat
    let refused := fun (x : Status) =>
      Sys2Proof.Machine.exec (.stationConfigWrite e b) s =
        .next (received (answered 1 e (echo x 0 b b.data) s))
    (48 ≤ b.index.toNat ∨ 18 ≤ f → refused .badAddr) ∧
    (b.index.toNat < 48 → f < 18 → s.rct.opState = .run → refused .wrongState) ∧
    (∀ i : Fin 48, s.rct.opState = .config → b.index.toNat = i.val →
      let stores := fun (status : Status) (value : Nat) =>
        ∃ cfg : StationCfg,
          Sys2Proof.Machine.exec (.stationConfigWrite e b) s =
            .next (received (answered 1 e (echo status 0 b (BitVec.ofNat 16 value))
              (s.setStation i { s.station i with cfg := cfg }))) ∧
          cfg.fields[f]? = some value ∧
          ∀ g, g ≠ f → cfg.fields[g]? = (s.station i).cfg.fields[g]?
      (∀ row ∈ [(2, 0, 7), (4, 0, 4095), (5, 0, 4095), (6, 1, 255), (8, 0, 255), (9, 3, 6),
          (10, 4, 7), (11, 0, 1406), (12, 0, 1406), (13, 0, 1023), (14, 1, 4), (15, 3, 6),
          (16, 1, 15), (17, 0, 255)],
        f = row.1 →
        let value := max row.2.1 (min row.2.2 n)
        stores (if value = n then .ok else .clamped) value) ∧
      (f = 3 → n ≤ 1 → stores .ok n) ∧ (f = 3 → 2 ≤ n → refused .badValue) ∧
      (f = 7 → n ≤ 2 → stores .ok n) ∧ (f = 7 → 3 ≤ n → refused .badValue))

/-- Every station slot stays within the ranges of its records under every step, RETIRED being a fault
count of 3 and OFF being out of service for the others, with readings that fit the station's kind
and none in CONFIG (R36, R37, R56, R61, R62, R74, R80, R81, R83 to R85, R91). -/
def Obligations.EveryStepKeepsTheStationsSound : Prop :=
  ∀ s t : State, StationsSound s → Sys2Proof.Machine.step s = .next t → StationsSound t

/-! ### Piles -/

/-- A YARD frame for an enabled pile 0..23 with an event code 1..5 applies its event at once, in
every operating state and phase: START and STOP set the activity, WET the larger of the wet timer
and the duration or 0 for a duration of 0, SHIELD_ON and SHIELD_OFF the shield. Any other YARD frame
changes nothing but the yard rejects counter (R97, R98, R100). -/
def Obligations.YardEventsApplyAtOnce : Prop :=
  ∀ (y : YardCopy) (s : State), s.resetHeld = none →
    (∀ p : Fin 24, y.pile.toNat = p.val → (s.pile p).cfg.enable = true →
      let d := (s.pile p).dyn
      let gives := fun (x : PileDyn) =>
        Sys2Proof.Machine.exec (.yardArrival y) s = .next (s.setPile p { s.pile p with dyn := x })
      (y.event = 1 → gives { d with activity := .working }) ∧
      (y.event = 2 → gives { d with activity := .idle }) ∧
      (y.event = 3 → y.duration = 0 → gives { d with wet := 0 }) ∧
      (y.event = 3 → y.duration ≠ 0 → gives { d with wet := max d.wet y.duration.toNat }) ∧
      (y.event = 4 → gives { d with shielded := true }) ∧
      (y.event = 5 → gives { d with shielded := false })) ∧
    (24 ≤ y.pile.toNat ∨ (∃ p : Fin 24, y.pile.toNat = p.val ∧ (s.pile p).cfg.enable = false) ∨
        y.event = 0 ∨ 6 ≤ y.event.toNat →
      Sys2Proof.Machine.exec (.yardArrival y) s =
        .next (s.setPlu { s.plu with yardRejects := min 65535 (s.plu.yardRejects + 1) }))

/-- PLU's visit to a pile: the wet timer falls by 1, the wind source is PRIMARY, FALLBACK, WAITING
or BLIND, the last sector is the chosen head's or none, and the contribution is the floor of E times
the lift index over 16, with E the weight, doubled while WORKING, quartered while wet and 0 while
shielded. A contribution above 0 is handed to PJU, a change of source sets the PILE status while the
class is enabled and is reported, and the pass goes on to the next enabled pile; nothing else changes
but the notice queue (R101 to R105, R122, R172, R174). -/
def Obligations.PileVisitsFollowTheWind : Prop :=
  ∀ (s : State) (p : Fin 24), s.resetHeld = none → s.stage = .piles p →
    let c := (s.pile p).cfg
    let d := (s.pile p).dyn
    let healthy := fun i => (s.station i).health.state = Health.healthy
    let worked := match d.activity with
      | .idle => c.weight
      | .working => 2 * c.weight
    let factor := if d.shielded then 0 else if d.wet ≤ 1 then worked else worked / 4
    let amount := fun (i : Fin 48) => factor * (s.station i).comp.lift / 16
    ∃ t, Sys2Proof.Machine.exec .pileVisit s = .next t ∧
      (let ends := fun (w : WindSource) (sector : Option Sector) (k : Nat)
          (handed : List Contribution) =>
        t.plu =
          { s.plu with
            piles := tableSet s.plu.piles p
              { cfg := c
                dyn :=
                  { d with
                    wet := d.wet - 1, source := w, lastSector := sector
                    lastContribution := k } } } ∧
        t.pju = { s.pju with contributions := s.pju.contributions ++ handed } ∧
        (w ≠ d.source → s.mgu.notices.pile.enable = true → t.mgu.notices.pile.status = true) ∧
        Notified .pile
          (if w = d.source then []
           else [{ subject := p.val, old := d.source.code, new := w.code, flags := 0 }]) s t ∧
        (w = d.source → t.mgu = s.mgu ∧ t.tif = s.tif)
      let blows := fun (w : WindSource) (i : Fin 48) =>
        (∀ q, (s.station i).comp.sector = .dir q →
          ends w (some (.dir q)) (amount i)
            (if amount i = 0 then [] else [{ pile := p, sector := q, amount := amount i }])) ∧
        ((s.station i).comp.sector = .calm → ends w (some .calm) 0 [])
      let noHead := ¬ healthy c.primary ∧ ∀ i, c.fallback = some i → ¬ healthy i
      (healthy c.primary → blows .primary c.primary) ∧
      (∀ i, ¬ healthy c.primary → c.fallback = some i → healthy i → blows .fallback i) ∧
      (noHead → s.rct.roundsSinceStart < 8 → ends .waiting none 0 []) ∧
      (noHead → 8 ≤ s.rct.roundsSinceStart → ends .blind none 0 [])) ∧
      t.stage =
        (match (List.finRange 24).find? fun q => decide (p < q) && (s.pile q).cfg.enable with
         | some q => .piles q
         | none => .projecting) ∧
      t.rct = s.rct ∧ t.sin = s.sin ∧ t.stu = s.stu ∧ t.znu = s.znu ∧ t.out = s.out ∧
      t.mgu = { s.mgu with notices := t.mgu.notices }

/-- A write to the enable of a pile in CONFIG stores it, and clearing it resets the pile's dynamic
record; a write to its weight clamps to 0..15, and a primary 0..47 and a fallback 0..47 or 255 for
none are stored, all keeping the dynamic record. Any other code is refused with BADVALUE, every write
in RUN with WRONGSTATE, and an index above 23 or a field above 3 with BADADDR (R94, R95, R169, R182). -/
def Obligations.PileWritesKeepOrResetThePile : Prop :=
  ∀ (e : Envelope) (b : Body) (s : State), TakesAtOnce e.port s →
    let n := b.data.toNat
    let refused := fun (x : Status) =>
      Sys2Proof.Machine.exec (.pileConfigWrite e b) s =
        .next (received (answered 2 e (echo x 0 b b.data) s))
    (24 ≤ b.index.toNat ∨ 4 ≤ b.field.toNat → refused .badAddr) ∧
    (∀ p : Fin 24, b.index.toNat = p.val →
      let pile := s.pile p
      let rests : PileDyn :=
        { activity := .idle, wet := 0, shielded := false, source := .waiting, lastSector := none
          lastContribution := 0 }
      let stores := fun (status : Status) (value : Nat) (x : Pile) =>
        Sys2Proof.Machine.exec (.pileConfigWrite e b) s =
          .next (received (answered 2 e (echo status 0 b (BitVec.ofNat 16 value)) (s.setPile p x)))
      (s.rct.opState = .run → b.field.toNat ≤ 3 → refused .wrongState) ∧
      (s.rct.opState = .config → b.field = 0 →
        (∀ x : Bool, n = flagCode x →
          stores .ok n
            { cfg := { pile.cfg with enable := x }
              dyn := if pile.cfg.enable = true ∧ x = false then rests else pile.dyn }) ∧
        (2 ≤ n → refused .badValue)) ∧
      (s.rct.opState = .config → b.field = 1 →
        stores (if n ≤ 15 then .ok else .clamped) (min 15 n)
          { pile with cfg := { pile.cfg with weight := min 15 n } }) ∧
      (s.rct.opState = .config → b.field = 2 →
        (∀ i : Fin 48, n = i.val →
          stores .ok n { pile with cfg := { pile.cfg with primary := i } }) ∧
        (48 ≤ n → refused .badValue)) ∧
      (s.rct.opState = .config → b.field = 3 →
        (∀ i : Fin 48, n = i.val →
          stores .ok n { pile with cfg := { pile.cfg with fallback := some i } }) ∧
        (n = 255 → stores .ok n { pile with cfg := { pile.cfg with fallback := none } }) ∧
        (48 ≤ n → n ≠ 255 → refused .badValue)))

/-! ### Banks and projection -/

/-- While no swap is pending, a write to a standby table is accepted in either state, touches nothing but
the field it names and the standby valid flag, which it clears, and reads back as stored. In the
plume table a zone 0..31 is stored as it is, lag and weight clamp to 15 and 8, every other entry and
the table's canonical form are kept, and a zone above 31 is refused with BADVALUE. In a zone record a flag 0 or 1, a station reference 0..47 or
none and a sign address 0..254 or none are stored, a magnitude is brought into its range with
CLAMPED, every other record and field is kept, and any other code is refused with BADVALUE. Whether a
swap is pending or not, an index above 1535 or a field above 2 of the plume table, and an index above
31 or a field above 16 of the zone table, is refused with BADADDR (R109 to R113, R169, R179, R182, R183). R182 gives a sign field 0..255; that a word of 256 and above is refused
there is the model's choice (notes/assumptions/12.md). -/
def Obligations.StandbyWritesReadBack : Prop :=
  (∀ (e : Envelope) (b : Body) (s : State), TakesAtOnce e.port s → s.pju.swapPending = false →
     let i := b.index.toNat
     let old := plumeRead s.pju.standby.plume i
     let refused := fun (x : Status) =>
       Sys2Proof.Machine.exec (.standbyTableWrite e .plume b) s =
         .next (received (answered 2 e (echo x 2 b b.data) s))
     let stores := fun (x : PlumeEntry) (status : Status) (value : Nat) =>
       ∃ table : Plume,
         Sys2Proof.Machine.exec (.standbyTableWrite e .plume b) s =
           .next (received (answered 2 e (echo status 2 b (BitVec.ofNat 16 value))
             (s.setPju (s.pju.setStandby
               { plume := table, zones := s.pju.standby.zones, valid := false })))) ∧
         plumeRead table i = x ∧
         (∀ j, j ≠ i → plumeRead table j = plumeRead s.pju.standby.plume j) ∧
         (plumeWf s.pju.standby.plume = true → plumeWf table = true)
     (i < 1536 → b.field = 0 → 32 ≤ b.data.toNat → refused .badValue) ∧
     (i < 1536 → b.field = 0 → ∀ z : Fin 32, b.data.toNat = z.val →
       stores { old with zone := z } .ok z.val) ∧
     (i < 1536 → b.field = 1 →
       stores { old with lag := min 15 b.data.toNat }
         (if b.data.toNat ≤ 15 then .ok else .clamped) (min 15 b.data.toNat)) ∧
     (i < 1536 → b.field = 2 →
       stores { old with weight := min 8 b.data.toNat }
         (if b.data.toNat ≤ 8 then .ok else .clamped) (min 8 b.data.toNat))) ∧
  (∀ (e : Envelope) (b : Body) (s : State) (z : Fin 32), TakesAtOnce e.port s →
     s.pju.swapPending = false → b.index.toNat = z.val →
     let f := b.field.toNat
     let n := b.data.toNat
     let stores := fun (status : Status) (value : Nat) =>
       ∃ c : ZoneCfg,
         Sys2Proof.Machine.exec (.standbyTableWrite e .zones b) s =
           .next (received (answered 3 e (echo status 0 b (BitVec.ofNat 16 value))
             (s.setPju (s.pju.setStandby
               { s.pju.standby with
                 zones := tableSet s.pju.standby.zones z c, valid := false })))) ∧
         c.fields[f]? = some value ∧
         ∀ g, g ≠ f → c.fields[g]? = (s.pju.standby.zones[z]).fields[g]?
     let refused := fun (x : Status) =>
       Sys2Proof.Machine.exec (.standbyTableWrite e .zones b) s =
         .next (received (answered 3 e (echo x 0 b b.data) s))
     let flag := f = 0 ∨ f = 9 ∨ f = 14
     let station := f = 10 ∨ f = 11 ∨ f = 12
     let sign := f = 15 ∨ f = 16
     (∀ row ∈ [(1, 1, 4095), (2, 1, 4095), (3, 1, 4095), (4, 1, 255), (5, 1, 255), (6, 1, 255),
         (7, 1, 16), (8, 1, 16), (13, 0, 4095)],
       f = row.1 → max row.2.1 (min row.2.2 n) = n → stores .ok n) ∧
     (∀ row ∈ [(1, 1, 4095), (2, 1, 4095), (3, 1, 4095), (4, 1, 255), (5, 1, 255), (6, 1, 255),
         (7, 1, 16), (8, 1, 16), (13, 0, 4095)],
       f = row.1 → max row.2.1 (min row.2.2 n) ≠ n →
         stores .clamped (max row.2.1 (min row.2.2 n))) ∧
     (flag → n ≤ 1 → stores .ok n) ∧ (flag → 2 ≤ n → refused .badValue) ∧
     (station → n ≤ 47 ∨ n = 255 → stores .ok n) ∧
     (station → 48 ≤ n → n ≠ 255 → refused .badValue) ∧
     (sign → n ≤ 255 → stores .ok n) ∧ (sign → 256 ≤ n → refused .badValue)) ∧
  (∀ (e : Envelope) (b : Body) (s : State), TakesAtOnce e.port s →
     (1536 ≤ b.index.toNat ∨ 3 ≤ b.field.toNat →
       Sys2Proof.Machine.exec (.standbyTableWrite e .plume b) s =
         .next (received (answered 2 e (echo .badAddr 2 b b.data) s))) ∧
     (32 ≤ b.index.toNat ∨ 17 ≤ b.field.toNat →
       Sys2Proof.Machine.exec (.standbyTableWrite e .zones b) s =
         .next (received (answered 3 e (echo .badAddr 0 b b.data) s))))

/-- While a swap is pending, a write to either standby table, a SWAP and a COPY are each refused
with WRONGSTATE and change nothing (R112, R114, R119). -/
def Obligations.PendingSwapLocksTheStandby : Prop :=
  ∀ (e : Envelope) (b : Body) (s : State), TakesAtOnce e.port s → s.pju.swapPending = true →
    (b.index.toNat < 1536 → b.field.toNat ≤ 2 →
      Sys2Proof.Machine.exec (.standbyTableWrite e .plume b) s =
        .next (received (answered 2 e (echo .wrongState 2 b b.data) s))) ∧
    (b.index.toNat < 32 → b.field.toNat ≤ 16 →
      Sys2Proof.Machine.exec (.standbyTableWrite e .zones b) s =
        .next (received (answered 3 e (echo .wrongState 0 b b.data) s))) ∧
    Sys2Proof.Machine.exec (.swap e b) s =
      .next (received (answered 0 e (echo .wrongState 4 b b.data) s)) ∧
    Sys2Proof.Machine.exec (.copy e b) s =
      .next (received (answered 0 e (echo .wrongState 5 b b.data) s))

/-- A SWAP of a standby bank that passes validation. In CONFIG the banks change places at once, the bank
now active valid, the feeder masks are those of its plume table, every zone the exchange disables
goes to rest with its refresh countdown kept, its signs no longer pending and its service record
empty, the lines follow, and the response's data is the number of the bank now active. In RUN it sets
the standby valid flag and the swap-pending flag and nothing else; the response is queued at once and
its data is the number of the bank that will become active (R113 to R117, R121, R159, R161). -/
def Obligations.ValidSwapsExchangeOrWait : Prop :=
  (∀ (e : Envelope) (b : Body) (s : State), TakesAtOnce e.port s → s.rct.opState = .config →
     s.pju.swapPending = false → SwapValid s →
     (∀ z, ExchangeDisables s z → (s.zone z).drillTimer = 0) →
     ∃ t, Sys2Proof.Machine.exec (.swap e b) s = .next t ∧
       t.pju.activeIs1 = (!s.pju.activeIs1) ∧ t.pju.swapPending = false ∧
       t.pju.active = { s.pju.standby with valid := true } ∧ t.pju.standby = s.pju.active ∧
       t.pju.feeders = feederMasks s.pju.standby.plume ∧
       t.pju.contributions = s.pju.contributions ∧
       (∀ z, ExchangeDisables s z → (t.zone z).AtRest ∧
         (t.zone z).refresh = (s.zone z).refresh ∧ (t.zone z).signPending = false ∧
         t.out.service[z] = []) ∧
       (∀ z, ¬ ExchangeDisables s z → t.zone z = s.zone z ∧ t.out.service[z] = s.out.service[z]) ∧
       LinesSound t ∧
       t.out = { s.out with service := t.out.service, wl := t.out.wl, svc := t.out.svc } ∧
       t.rct = s.rct ∧ t.sin = s.sin ∧ t.stu = s.stu ∧ t.plu = s.plu ∧
       t.mgu = (received s).mgu ∧ t.stage = s.stage ∧
       t.tif = answeredTif 0 e (echo .ok 4 b (if s.pju.activeIs1 then 0 else 1)) s) ∧
  (∀ (e : Envelope) (b : Body) (s : State), TakesAtOnce e.port s → s.rct.opState = .run →
     s.pju.swapPending = false → SwapValid s →
     Sys2Proof.Machine.exec (.swap e b) s =
       .next (received (answered 0 e (echo .ok 4 b (if s.pju.activeIs1 then 0 else 1))
         (s.setPju
           { (s.pju.setStandby { s.pju.standby with valid := true }) with swapPending := true }))))

/-- A SWAP is refused at the first enabled standby record that fails a check, and changes nothing. The
response names the record and the field of its first failed check: the alert threshold where the
thresholds are not strictly rising, confirm slot 1 where confirmation is required and no slot is
named, in RUN the first confirm slot whose station is no DUST station, and the first sign address
outside 64..191 (R114). That, where several confirm slots or both sign addresses of the record fail
one check, the lowest-numbered is named is the model's choice (notes/assumptions/30.md). -/
def Obligations.SwapNamesTheFailingField : Prop :=
  ∀ (e : Envelope) (b : Body) (s : State) (z : Fin 32), TakesAtOnce e.port s →
    s.pju.swapPending = false →
    let c := s.pju.standby.zones[z]
    let inRun := s.rct.opState = .run
    let notDust := fun (slot : Option (Fin 48)) =>
      ∃ i, slot = some i ∧ (s.station i).cfg.kind ≠ .dust
    let badSign := fun (slot : Option Byte) =>
      ∃ a, slot = some a ∧ ¬ (64 ≤ a.toNat ∧ a.toNat ≤ 191)
    let refused := fun (field : Byte) =>
      Sys2Proof.Machine.exec (.swap e b) s =
        .next (received (answered 0 e
          { status := .badValue, table := 0, index := BitVec.ofNat 16 z.val, field := field
            data := 3 } s))
    let rising := c.watch < c.warn ∧ c.warn < c.alert
    let named := c.confirmRequired = true → ∃ i, some i ∈ c.confirmSlots
    let monitors := inRun → ∀ slot ∈ c.confirmSlots, ¬ notDust slot
    c.enable = true →
    (∀ y : Fin 32, y < z → s.pju.standby.zones[y].enable = true →
      s.pju.standby.zones[y].Validated ∧
        (inRun → ∀ slot ∈ s.pju.standby.zones[y].confirmSlots, ¬ notDust slot)) →
    (¬ rising → refused 3) ∧
    (rising → ¬ named → refused 10) ∧
    (rising → named → inRun → notDust c.confirm1 → refused 10) ∧
    (rising → named → inRun → ¬ notDust c.confirm1 → notDust c.confirm2 → refused 11) ∧
    (rising → named → inRun → ¬ notDust c.confirm1 → ¬ notDust c.confirm2 →
      notDust c.confirm3 → refused 12) ∧
    (rising → named → monitors → badSign c.sign1 → refused 15) ∧
    (rising → named → monitors → ¬ badSign c.sign1 → badSign c.sign2 → refused 16)

/-- An accepted COPY is in execution, a place reserved for its response, and no bank has changed; at
its completion the standby bank is the active bank, valid flag included, and the response, with that
flag as data, stands in its reserved place (R12, R119, R168). That this comes within 2 ms is in
StepRunsTheFrontCommand and EveryStepKeepsTheTrunkSound. That the standby bank changes at the
completion only is the model's choice (notes/assumptions/18.md). -/
def Obligations.CopyRunsAndAnswers : Prop :=
  (∀ (e : Envelope) (b : Body) (s : State), TakesAtOnce e.port s → s.pju.swapPending = false →
    ∃ r : Request,
      r = { port := e.port, source := e.source, dest := managementAddress s.tif.strap 0
            tag := e.tag, op := 3, table := 5, body := b } ∧
      Sys2Proof.Machine.exec (.copy e b) s =
        .next ((received s).modPort e.port (fun p => { p with reserved := p.reserved + 1 })
          |>.setMgu { (received s).mgu with executing := some r, copyTimer := some 0 })) ∧
  (∀ (r : Request) (s : State), s.resetHeld = none → s.mgu.executing = some r →
    s.mgu.requests = [] →
    ∃ t, Sys2Proof.Machine.exec .copyComplete s = .next t ∧
      t.pju = s.pju.setStandby s.pju.active ∧ t.pju.standby = s.pju.active ∧
      t.pju.active = s.pju.active ∧ t.mgu = { s.mgu with executing := none, copyTimer := none } ∧
      t.rct = s.rct ∧ t.sin = s.sin ∧ t.stu = s.stu ∧ t.plu = s.plu ∧ t.znu = s.znu ∧
      t.out = s.out ∧ t.stage = s.stage ∧
      t.tif =
        (s.tif.modPort r.port fun p =>
          { p with
            reserved := p.reserved - 1
            queue := p.queue ++
              [responseFrame r.source r.dest s.rct.roundNumber r.tag 0 r.table r.body.index
                r.body.field (BitVec.ofNat 16 (flagCode s.pju.active.valid))] }).wake r.port)

/-- PJU's projection, with no exchange pending: every arrival slot of every enabled zone becomes the
smaller of 4095 and its value plus all the shares that reach it, in whatever order they are made. A
share is the floor of amount times weight over 8, for each of the four entries of each contribution's
pile and sector, and reaches the slot its lag counts from the round sequence. Nothing else changes but
that the list is empty and the zones' pass is next (R122 to R124, R128). -/
def Obligations.ProjectionPostsEveryShare : Prop :=
  ∀ s : State, s.resetHeld = none → s.stage = .projecting → s.pju.swapPending = false →
    (∀ (z : Fin 32) (k : Fin 16), (s.zone z).arrivals[k] ≤ 4095) →
    let share := fun (z : Fin 32) (k : Fin 16) (c : Contribution) (pos : Fin 4) =>
      let entry := plumeRead s.pju.active.plume (64 * c.pile.val + 4 * c.sector.val + pos.val)
      if entry.zone = z ∧ (s.rct.seq.val + entry.lag) % 16 = k.val
      then c.amount * entry.weight / 8 else 0
    let shares := fun (z : Fin 32) (k : Fin 16) =>
      (s.pju.contributions.flatMap fun c => (List.finRange 4).map (share z k c)).sum
    ∃ t, Sys2Proof.Machine.exec .projection s = .next t ∧
      (∀ z, ∃ arrivals, t.zone z = { s.zone z with arrivals := arrivals } ∧
        ∀ k : Fin 16, arrivals[k] =
          if s.zoneEnabled z then min 4095 ((s.zone z).arrivals[k] + shares z k)
          else (s.zone z).arrivals[k]) ∧
      t.pju = { s.pju with contributions := [] } ∧
      t.stage =
        (match (List.finRange 32).find? fun z => s.zoneEnabled z with
         | some z => .zones z
         | none => .done) ∧
      t.tif = s.tif ∧ t.rct = s.rct ∧ t.sin = s.sin ∧ t.stu = s.stu ∧ t.plu = s.plu ∧
      t.out = s.out ∧ t.mgu = s.mgu ∧ t.znu.drillAtClose = s.znu.drillAtClose

/-- A pending exchange is made at PJU's start, before any share is posted: the pointer moves, the
pending flag clears, the masks are those of the bank now active, the zones it disables go to rest and
take no share. Every arrival slot of every zone that the bank now active enables gets all the shares
that bank's plume table sends it, and stops at 4095; no other zone gets any. The pass that follows
visits the zones the bank now active enables, and a zone in drill that the exchange disables sets the
DRILL status while the class is enabled and is reported (R116, R117, R121 to R124, R152, R172, R174).
The order of those reports, and that an idle quay port has room for one notice more, are the model's
choices (notes/assumptions/28.md, notes/assumptions/17.md). -/
def Obligations.PendingSwapIsMadeAtProjection : Prop :=
  ∀ s : State, s.resetHeld = none → s.stage = .projecting → s.pju.swapPending = true →
    (∀ (z : Fin 32) (k : Fin 16), (s.zone z).arrivals[k] ≤ 4095) →
    let share := fun (z : Fin 32) (k : Fin 16) (c : Contribution) (pos : Fin 4) =>
      let entry := plumeRead s.pju.standby.plume (64 * c.pile.val + 4 * c.sector.val + pos.val)
      if entry.zone = z ∧ (s.rct.seq.val + entry.lag) % 16 = k.val
      then c.amount * entry.weight / 8 else 0
    let shares := fun (z : Fin 32) (k : Fin 16) =>
      (s.pju.contributions.flatMap fun c => (List.finRange 4).map (share z k c)).sum
    ∃ t, Sys2Proof.Machine.exec .projection s = .next t ∧
      t.pju =
        { bank0 := s.pju.bank0, bank1 := s.pju.bank1, activeIs1 := !s.pju.activeIs1
          swapPending := false, feeders := feederMasks s.pju.standby.plume
          contributions := [] } ∧
      (∀ z, ExchangeDisables s z → (t.zone z).AtRest ∧
        (t.zone z).refresh = (s.zone z).refresh ∧ (t.zone z).signPending = false) ∧
      (∀ z, ¬ ExchangeDisables s z → ∃ arrivals,
        t.zone z = { s.zone z with arrivals := arrivals } ∧
        ∀ k : Fin 16, arrivals[k] =
          if s.pju.standby.zones[z].enable then min 4095 ((s.zone z).arrivals[k] + shares z k)
          else (s.zone z).arrivals[k]) ∧
      t.stage =
        (match (List.finRange 32).find? fun z => s.pju.standby.zones[z].enable with
         | some z => .zones z
         | none => .done) ∧
      (∀ z, ExchangeDisables s z → 0 < (s.zone z).drillTimer →
        s.mgu.notices.drill.enable = true → t.mgu.notices.drill.status = true) ∧
      Notified .drill
        ((List.finRange 32).flatMap fun z =>
          if s.pju.active.zones[z].enable = true ∧ s.pju.standby.zones[z].enable = false ∧
            0 < (s.zone z).drillTimer
          then [{ subject := z.val, old := (s.zone z).drillTimer, new := 0, flags := 0 }]
          else []) s t ∧
      t.out =
        { s.out with service := t.out.service, wl := t.out.wl, svc := t.out.svc } ∧
      LinesSound t ∧ t.rct = s.rct ∧ t.sin = s.sin ∧ t.stu = s.stu ∧ t.plu = s.plu ∧
      t.mgu = { s.mgu with notices := t.mgu.notices }

/-- The banks stay sound under every step: both plume tables canonical with their fields in range,
both zone tables in range, a valid bank validated, the active bank valid in RUN, a pending swap only
in RUN beside a valid standby bank and no COPY, and the feeder masks always those of the active plume
table (R20, R110, R111, R113, R114, R116, R119, R121). -/
def Obligations.EveryStepKeepsTheBanksSound : Prop :=
  ∀ s t : State, BanksSound s → Sys2Proof.Machine.step s = .next t → BanksSound t

/-! ### Zones and drills -/

/-- ZNU's evaluation of a zone: the arrival in the slot of the round sequence is taken and the slot
set to 0; Xs moves toward 16 times it by the floor of r_up or r_down sixteenths of the difference;
the target follows from X, the confirmation and the thresholds; the level machine moves level and
hold; the drill timer falls by 1, and on reaching 0 clears the exposure, every slot, the level and
the hold; the degraded flag and the effective level follow. A change of level, degraded flag or
drill flag sets the ZONE status and a drill's end the DRILL status, each while its class is enabled,
and each is reported; the lines follow, the next enabled zone is next, and nothing else changes (R128
to R138, R150, R161, R172, R174). -/
def Obligations.ZoneEvaluationFollowsTheSteps : Prop :=
  ∀ (s : State) (z : Fin 32), s.resetHeld = none → s.stage = .zones z → (s.zoneCfg z).Sound →
    let c := s.zoneCfg z
    let r := s.zone z
    let aim : Int := 16 * ((r.arrivals[s.rct.seq] : Nat) : Int)
    let rate : Int := if (r.xs : Int) ≤ aim then c.rUp else c.rDown
    ∃ t, Sys2Proof.Machine.exec .zoneEvaluation s = .next t ∧
      (∃ (x hold : Nat) (target level : Level) (degraded : Bool),
        (x : Int) = r.xs + Int.fdiv (rate * (aim - r.xs)) 16 ∧
        TargetIs s c (x / 16) target ∧ LevelMoves c target r.level r.hold level hold ∧
        (degraded = true ↔ DegradedAt s z) ∧
        (r.drillTimer ≠ 1 → t.zone z =
          { r with
            arrivals := tableSet r.arrivals s.rct.seq 0, xs := x, level := level, hold := hold
            drillTimer := r.drillTimer - 1, degraded := degraded
            effective :=
              if level = .clear then (if degraded then .watch else .clear) else level }) ∧
        (r.drillTimer = 1 → t.zone z =
          { r with
            arrivals := Vector.replicate 16 0, xs := 0, level := .clear, hold := 0
            drillTimer := 0, degraded := degraded
            effective := if degraded then .watch else .clear })) ∧
      (∀ y, y ≠ z → t.zone y = s.zone y) ∧
      (let changed := (t.zone z).level ≠ r.level ∨ (t.zone z).degraded ≠ r.degraded ∨
          r.drillTimer = 1
       (changed → s.mgu.notices.zone.enable = true → t.mgu.notices.zone.status = true) ∧
       (r.drillTimer = 1 → s.mgu.notices.drill.enable = true →
         t.mgu.notices.drill.status = true) ∧
       Notified .zone
         (if (t.zone z).level ≠ r.level ∨ (t.zone z).degraded ≠ r.degraded ∨ r.drillTimer = 1 then
           [{ subject := z.val, old := r.level.code, new := (t.zone z).level.code
              flags := (if 0 < (t.zone z).drillTimer then 1 else 0) +
                if (t.zone z).degraded then 2 else 0 }]
          else []) s t ∧
       Notified .drill
         (if r.drillTimer = 1 then [{ subject := z.val, old := 1, new := 0, flags := 0 }] else [])
         s t ∧
       (¬ changed → t.mgu = s.mgu ∧ t.tif = s.tif)) ∧
      t.stage =
        (match (List.finRange 32).find? fun y => decide (z < y) && s.zoneEnabled y with
         | some y => .zones y
         | none => .done) ∧
      LinesSound t ∧ t.out = { s.out with wl := t.out.wl, svc := t.out.svc } ∧
      t.rct = s.rct ∧ t.sin = s.sin ∧ t.stu = s.stu ∧ t.plu = s.plu ∧ t.pju = s.pju ∧
      t.mgu = { s.mgu with notices := t.mgu.notices } ∧
      t.znu.drillAtClose = s.znu.drillAtClose

/-- A RELAX taken in RUN for a zone whose record allows it lowers a raised zone's hold to at most 2,
leaves a zone at CLEAR, and answers the hold; a zone above 31 is refused with BADADDR, and CONFIG or
a zone that does not allow it with WRONGSTATE (R142, R169). That a refused RELAX answers the request's
own data is the model's choice (notes/assumptions/11.md). -/
def Obligations.RelaxShortensAHold : Prop :=
  ∀ (e : Envelope) (b : Body) (s : State), TakesAtOnce e.port s →
    (32 ≤ b.index.toNat →
      Sys2Proof.Machine.exec (.relax e b) s =
        .next (received (answered 3 e (echo .badAddr 1 b b.data) s))) ∧
    (∀ z : Fin 32, b.index.toNat = z.val →
      let r := s.zone z
      (s.rct.opState = .config ∨ (s.zoneCfg z).relaxAllowed = false →
        Sys2Proof.Machine.exec (.relax e b) s =
          .next (received (answered 3 e (echo .wrongState 1 b b.data) s))) ∧
      (s.rct.opState = .run → (s.zoneCfg z).relaxAllowed = true → r.level ≠ .clear →
        Sys2Proof.Machine.exec (.relax e b) s =
          .next (received (answered 3 e (echo .ok 1 b (BitVec.ofNat 16 (min r.hold 2)))
            (s.setZone z { r with hold := min r.hold 2 })))) ∧
      (s.rct.opState = .run → (s.zoneCfg z).relaxAllowed = true → r.level = .clear →
        Sys2Proof.Machine.exec (.relax e b) s =
          .next (received (answered 3 e (echo .ok 1 b (BitVec.ofNat 16 r.hold)) s))))

/-- A DRILL taken in RUN sets the drill timer of every enabled zone its half-mask names to the
duration brought into 1..255, answers that duration and the mask of the zones set, with CLAMPED
where the duration was changed, and sets the DRILL status, while its class is enabled, when some
timer was 0, which is reported zone by zone, before the response; the lines follow. An ENDDRILL
brings the timers named to at most 2 and answers the mask of those that were in drill. A half above
1 is refused with BADADDR, and CONFIG with WRONGSTATE (R148, R149, R161, R169, R172, R174). That a
refused DRILL or ENDDRILL answers the request's own index and data, CLAMPED beside a mask of 0, and
that an idle quay port has room for one notice more, are the model's choices (notes/assumptions/11.md,
notes/assumptions/29.md, notes/assumptions/17.md). -/
def Obligations.DrillCommandsSetTheTimers : Prop :=
  ∀ (e : Envelope) (b : Body) (s : State), TakesAtOnce e.port s →
    let half := b.field.toNat
    let named := fun (z : Fin 32) => z.val / 16 = half ∧ b.data.getLsbD (z.val % 16) = true
    let d := max 1 (min 255 b.index.toNat)
    (1 < half →
      Sys2Proof.Machine.exec (.drill e b) s =
          .next (received (answered 3 e (echo .badAddr 2 b b.data) s)) ∧
        Sys2Proof.Machine.exec (.endDrill e b) s =
          .next (received (answered 3 e (echo .badAddr 3 b b.data) s))) ∧
    (half ≤ 1 → s.rct.opState = .config →
      Sys2Proof.Machine.exec (.drill e b) s =
          .next (received (answered 3 e (echo .wrongState 2 b b.data) s)) ∧
        Sys2Proof.Machine.exec (.endDrill e b) s =
          .next (received (answered 3 e (echo .wrongState 3 b b.data) s))) ∧
    (half ≤ 1 → s.rct.opState = .run →
      (∃ (t : State) (w : Word), Sys2Proof.Machine.exec (.drill e b) s = .next t ∧
        (∀ k : Fin 16, w.getLsbD k.val = true ↔
          ∃ z, named z ∧ z.val % 16 = k.val ∧ s.zoneEnabled z = true) ∧
        (let a : Reply :=
          { status := if d = b.index.toNat then .ok else .clamped, table := 2
            index := BitVec.ofNat 16 d, field := b.field, data := w }
         let reports : List Report := (List.finRange 32).flatMap fun z =>
            if z.val / 16 = half ∧ b.data.getLsbD (z.val % 16) = true ∧ s.zoneEnabled z = true ∧
              (s.zone z).drillTimer = 0
            then [{ subject := z.val, old := 0, new := d, flags := 0 }] else []
         (∃ notices, (e.port = .field → notices = []) ∧
           Responded 3 e s.rct.roundNumber a none notices s t) ∧
         Notified .drill reports s t
           (if e.port = .quay then [responseTo 3 e s.rct.roundNumber a s] else [])) ∧
        (∀ z, named z → s.zoneEnabled z = true →
          t.zone z = { s.zone z with drillTimer := d }) ∧
        (∀ z, ¬ (named z ∧ s.zoneEnabled z = true) → t.zone z = s.zone z) ∧
        ((∃ z, named z ∧ s.zoneEnabled z = true ∧ (s.zone z).drillTimer = 0) →
          s.mgu.notices.drill.enable = true → t.mgu.notices.drill.status = true) ∧
        LinesSound t ∧ t.out = { s.out with wl := t.out.wl, svc := t.out.svc } ∧
        t.mgu = { (received s).mgu with notices := t.mgu.notices } ∧ t.rct = s.rct ∧
        t.sin = s.sin ∧ t.stu = s.stu ∧ t.plu = s.plu ∧ t.pju = s.pju ∧ t.stage = s.stage) ∧
      (∃ (w : Word) (zones : Vector Zone 32),
        Sys2Proof.Machine.exec (.endDrill e b) s =
          .next (received (answered 3 e (echo .ok 3 b w)
            (s.setZnu { s.znu with zones := zones }))) ∧
        (∀ k : Fin 16, w.getLsbD k.val = true ↔
          ∃ z, named z ∧ z.val % 16 = k.val ∧ 0 < (s.zone z).drillTimer) ∧
        (∀ z : Fin 32, named z →
          zones[z] = { s.zone z with drillTimer := min (s.zone z).drillTimer 2 }) ∧
        (∀ z : Fin 32, ¬ named z → zones[z] = s.zone z)))

/-- ZNU's completion with no request waiting, whatever turns OUT's pass and MGU's looks take: the phase
becomes CLOSED; if a drill ran at the close and none runs now, every took-test flag becomes a reseed
flag; an armed snapshot captures the round number and every station's and zone's results and is then
ready and no longer armed; and OUT's sign pass changes no more of a zone than its last tuple sent,
its refresh countdown and its sign-pending flag. A SNAP taken in RUN is what arms the snapshot and
clears its ready flag, and does nothing else; in CONFIG it is refused with WRONGSTATE (R139, R140,
R151, R156, R176). -/
def Obligations.EvaluationEndsClosed : Prop :=
  (∀ (turns : List Turn) (s : State), s.resetHeld = none → s.stage = .done → s.mgu.requests = [] →
     ∃ t, Sys2Proof.Machine.exec (.evaluationComplete turns) s = .next t ∧
       t.rct = { s.rct with phase := .closed, closeTimer := none } ∧ t.stage = .idle ∧
       t.znu.drillAtClose = false ∧
       (∀ i, t.station i =
         if s.znu.drillAtClose = true ∧ (∀ z, (s.zone z).drillTimer = 0) ∧
           (s.station i).health.tookTest = true
         then
           { s.station i with
             health := { (s.station i).health with reseed := true, tookTest := false } }
         else s.station i) ∧
       (s.mgu.snapshot.armed = false → t.mgu = s.mgu) ∧
       (s.mgu.snapshot.armed = true →
         t.mgu = { s.mgu with snapshot := t.mgu.snapshot } ∧
         t.mgu.snapshot.ready = true ∧ t.mgu.snapshot.armed = false ∧
         t.mgu.snapshot.roundNumber = s.rct.roundNumber ∧
         (∀ i : Fin 48,
           let st := s.station i
           t.mgu.snapshot.stations[i] =
             { health := st.health.state.code, sector := st.comp.sector.code
               gustSpeed := st.comp.gustSpeed, meanSpeed := st.comp.meanSpeed
               lift := st.comp.lift, dustLevel := st.comp.dustLevel }) ∧
         (∀ z : Fin 32,
           let r := s.zone z
           t.mgu.snapshot.zones[z] =
             { exposure := r.xs / 16, level := r.level.code, effective := r.effective.code
               drill := if 0 < r.drillTimer then 1 else 0
               degraded := if r.degraded then 1 else 0 })) ∧
       (∀ z, s.zoneEnabled z = false → t.zone z = s.zone z) ∧
       (∀ z, ∃ sent pending refresh,
         t.zone z =
           { s.zone z with lastSent := sent, signPending := pending, refresh := refresh }) ∧
       t.sin = s.sin ∧ t.plu = s.plu ∧ t.pju = s.pju ∧ t.out = s.out ∧
       t.tif.quayPort = s.tif.quayPort ∧
       (s.tif.fieldPort.sending.isSome = true ∨ NothingToSend s.tif .field →
         t.tif.markSlot = s.tif.markSlot)) ∧
  (∀ (e : Envelope) (b : Body) (s : State), TakesAtOnce e.port s →
     (s.rct.opState = .run →
       Sys2Proof.Machine.exec (.snap e b) s =
         .next (received (answered 0 e (echo .ok 6 b 0)
           (s.setMgu
             { s.mgu with snapshot := { s.mgu.snapshot with ready := false, armed := true } })))) ∧
     (s.rct.opState = .config →
       Sys2Proof.Machine.exec (.snap e b) s =
         .next (received (answered 0 e (echo .wrongState 6 b b.data) s))))

/-- The zones stay sound under every step that starts from sound rounds and banks: every record in
range, a hold of 0 exactly at CLEAR, the effective level that of R137, disabled zones and every zone
in CONFIG at rest, the pass at an enabled zone, the refresh period 1..255, no service record in RUN,
and in CONFIG one exactly for the zones whose signs are pending (R127, R128, R134, R137, R141, R145,
R147, R158, R159). -/
def Obligations.EveryStepKeepsTheZonesSound : Prop :=
  ∀ s t : State, RoundsSound s → BanksSound s → ZonesSound s →
    Sys2Proof.Machine.step s = .next t → ZonesSound t

/-! ### Outputs -/

/-- OUT's sign pass at a completion with no request waiting, at a field port that is sending or has
nothing to send. The groups of the due zones are offered in zone order, each taken whole where it fits
what the ones before it left, a later smaller one also where an earlier one was refused; an idle port
sends the first frame of the first one at once. A zone whose group is taken, or has no
frame, has sent its present tuple, its countdown at R and nothing pending. One whose group is refused
is pending, its countdown counted down. A zone not due only counts its countdown down. A STOP
taken once the pass has begun comes after the whole pass, and one taken first leaves no pass: no
countdown moves. A DRILL taken first is in the tuples the pass sends (R12, R14, R156, R157). That an idle
port's first frame frees its place before the next group is offered is the model's reading
(notes/assumptions/17.md). -/
def Obligations.SignPassOffersDueZones : Prop :=
  (∀ (turns : List Turn) (s : State), s.resetHeld = none → s.stage = .done → s.mgu.requests = [] →
    s.tif.fieldPort.sending.isSome = true ∨ NothingToSend s.tif .field →
    let due := fun (z : Fin 32) => s.zoneEnabled z = true ∧ DueAt s z
    let taken := groupsTaken s.tif.fieldPort.sending.isNone s.tif.fieldPort.room
      (((List.finRange 32).filter fun z => due z).map fun z => (z, signsOf s z))
    let counted := fun (z : Fin 32) => { s.zone z with refresh := (s.zone z).refresh - 1 }
    let sent := fun (z : Fin 32) =>
      { s.zone z with
        lastSent :=
          { level := (s.zone z).effective, drill := decide (0 < (s.zone z).drillTimer)
            degraded := (s.zone z).degraded }
        refresh := s.out.refreshPeriod, signPending := false }
    ∃ t, Sys2Proof.Machine.exec (.evaluationComplete turns) s = .next t ∧
      (∀ z, s.zoneEnabled z = true → ¬ due z → t.zone z = counted z) ∧
      t.tif = enqueue .field (taken.flatMap fun offer => offer.2) s.tif ∧
      ∀ z, due z →
        t.zone z =
          if z ∈ taken.map (fun offer => offer.1) then sent z
          else { counted z with signPending := true }) ∧
  (∀ (turns : List Turn) (r : Request) (s : State), s.resetHeld = none → s.stage = .done →
    s.mgu.requests = [r] → s.mgu.executing = none → 1 ≤ (s.tif.port r.port).room → r.op = 3 →
    (r.unit = 0 → r.table = 2 → s.rct.opState = .run → (∃ z, s.zoneEnabled z = true) →
      Sys2Proof.Machine.exec (.evaluationComplete (.out :: turns)) s =
        Sys2Proof.Machine.exec (.evaluationComplete []) s) ∧
    (r.unit = 0 → r.table = 2 → s.rct.opState = .run →
      ∃ t, Sys2Proof.Machine.exec (.evaluationComplete (.mgu :: turns)) s = .next t ∧
        t.rct.opState = .config ∧ ∀ z, (t.zone z).refresh = (s.zone z).refresh) ∧
    (r.unit = 3 → r.table = 2 → s.znu.drillAtClose = false → s.mgu.snapshot.armed = false →
      Sys2Proof.Machine.exec (.evaluationComplete (.mgu :: turns)) s =
        Sys2Proof.Machine.exec (.evaluationComplete turns) (takeRequest r (withRequests [] s))))

/-- The SERVICE signs of a STOP taken in RUN, at a field port that is sending or has nothing to send:
the groups of the enabled zones with a sign address are offered in zone order to the room beside the
response, each taken whole or refused whole, a later one also where an earlier one was refused, an
idle port sending the first frame at once; a zone whose group is refused is
pending, its addresses in its service record, and no other zone is. In CONFIG a frame that leaves the
field insertion queue has the pending zones' groups offered in the same way, from their service
records, and those taken are pending no longer; a MARK or a transit frame that leaves has none offered
(R12, R14, R118, R159). That zones the exchange of a STOP disables stay pending, and that an idle port's
first frame frees its place before the next group is offered, are the model's readings
(notes/assumptions/10.md, notes/assumptions/17.md). A request waiting beside a drain is in RequestsWaitOrAreDropped. -/
def Obligations.ServiceSignsGoOutAtStop : Prop :=
  (∀ (e : Envelope) (b : Body) (s : State), TakesAtOnce e.port s → s.rct.opState = .run →
    s.tif.fieldPort.sending.isSome = true ∨ NothingToSend s.tif .field →
    let signs := fun (z : Fin 32) => s.zoneEnabled z = true ∧ (s.zoneCfg z).signAddresses ≠ []
    let own := if e.port = .field then [responseTo 0 e 0 (echo .ok 2 b 0) s] else []
    let taken := groupsTaken s.tif.fieldPort.sending.isNone (s.tif.fieldPort.room - own.length)
      (((List.finRange 32).filter fun z => signs z).map fun z =>
        (z, serviceSignsOf s z (s.zoneCfg z).signAddresses))
    ∃ t, Sys2Proof.Machine.exec (.stop e b) s = .next t ∧
      Queued .field none ((taken.flatMap fun offer => offer.2) ++ own) s t ∧
      ∀ z : Fin 32,
        (signs z → z ∉ taken.map (fun offer => offer.1) →
          (t.zone z).signPending = true ∧ t.out.service[z] = (s.zoneCfg z).signAddresses) ∧
        (¬ signs z ∨ z ∈ taken.map (fun offer => offer.1) →
          (t.zone z).signPending = false ∧ t.out.service[z] = [])) ∧
  (∀ (turns : List Turn) (s : State) (f : Frame) (rest : List Frame), s.resetHeld = none →
    s.rct.opState = .config → s.mgu.requests = [] → s.tif.fieldPort.sending.isSome = true →
    s.tif.markSlot = none → s.tif.fieldPort.queue = f :: rest →
    s.tif.fieldPort.transit = [] ∨ s.tif.fieldPort.lastTaken = .transit →
    let pending := (List.finRange 32).filter fun z => (s.zone z).signPending
    let taken := groupsTaken false (16 - rest.length - s.tif.fieldPort.reserved)
      (pending.map fun z => (z, serviceSignsOf s z s.out.service[z]))
    ∃ t, Sys2Proof.Machine.exec (.frameSent .field turns) s = .next t ∧
      t.tif.fieldPort.sending = some f ∧
      t.tif.fieldPort.queue = rest ++ (taken.flatMap fun offer => offer.2) ∧
      (∀ z : Fin 32,
        (z ∈ taken.map (fun offer => offer.1) →
          t.zone z = { s.zone z with signPending := false } ∧ t.out.service[z] = []) ∧
        (z ∉ taken.map (fun offer => offer.1) →
          t.zone z = s.zone z ∧ t.out.service[z] = s.out.service[z])) ∧
      t.rct = s.rct ∧ t.sin = s.sin ∧ t.stu = s.stu ∧ t.plu = s.plu ∧ t.pju = s.pju ∧
      t.mgu = s.mgu) ∧
  (∀ (turns : List Turn) (s : State), s.resetHeld = none → s.rct.opState = .config →
    s.mgu.requests = [] → s.tif.fieldPort.sending.isSome = true →
    s.tif.markSlot ≠ none ∨ (s.tif.fieldPort.transit ≠ [] ∧
      (s.tif.fieldPort.queue = [] ∨ s.tif.fieldPort.lastTaken = .insertion)) →
    ∃ t, Sys2Proof.Machine.exec (.frameSent .field turns) s = .next t ∧
      t.tif.fieldPort.queue = s.tif.fieldPort.queue ∧ t.znu = s.znu ∧ t.out = s.out ∧
      t.mgu = s.mgu)

/-- The pins WL0..WL7 and SVC stand at the levels the manual gives for the state under every step: a
warning line is active exactly in RUN while some enabled zone of its mask displays at least its
minimum level and is not in drill unless the line passes drills; SVC is active in CONFIG, and in RUN
while a zone is degraded or a station is RETIRED (R161, R162). -/
def Obligations.EveryStepKeepsTheLinesSound : Prop :=
  ∀ s t : State, LinesSound s → Sys2Proof.Machine.step s = .next t → LinesSound t

/-- A write to a warning line's record takes effect at once in either state: the mask's halves as they
are, a minimum level of WATCH to ALERT, a drill-pass flag of 0 or 1, any other code refused with
BADVALUE; the lines then stand as the records say. Index 8, the TABLE_WRITE of the refresh period,
clamps it to 1..255, and an index above 8 is refused with BADADDR; a TABLE_WRITE and a
LINE_CONFIG_WRITE of this table are one request (R158, R160, R161, R170, R182). -/
def Obligations.LineWritesTakeEffectAtOnce : Prop :=
  ∀ (e : Envelope) (b : Body) (s : State), TakesAtOnce e.port s →
    let i := b.index.toNat
    Sys2Proof.Machine.exec (.tableWrite e 3 3 b) s =
      Sys2Proof.Machine.exec (.lineConfigWrite e b) s ∧
    let refused := fun (x : Status) =>
      Sys2Proof.Machine.exec (.lineConfigWrite e b) s =
        .next (received (answered 3 e (echo x 3 b b.data) s))
    (9 ≤ i ∨ (i < 8 ∧ 4 ≤ b.field.toNat) ∨ (i = 8 ∧ b.field ≠ 0) → refused .badAddr) ∧
    (i < 8 → b.field = 2 → b.data = 0 ∨ 4 ≤ b.data.toNat → refused .badValue) ∧
    (i < 8 → b.field = 3 → 2 ≤ b.data.toNat → refused .badValue) ∧
    (∀ n : Fin 8, i = n.val →
      let old := s.out.lines[n]
      let stores := fun (x : LineCfg) =>
        ∃ t, Sys2Proof.Machine.exec (.lineConfigWrite e b) s = .next t ∧
          t = received (answered 3 e (echo .ok 3 b b.data)
            (s.setOut
              { s.out with
                lines := tableSet s.out.lines n x, wl := t.out.wl, svc := t.out.svc })) ∧
          LinesSound t
      (b.field = 0 → ∃ mask : BitVec 32, stores { old with mask := mask } ∧
        ∀ z : Fin 32, mask.getLsbD z.val =
          if z.val < 16 then b.data.getLsbD z.val else old.mask.getLsbD z.val) ∧
      (b.field = 1 → ∃ mask : BitVec 32, stores { old with mask := mask } ∧
        ∀ z : Fin 32, mask.getLsbD z.val =
          if z.val < 16 then old.mask.getLsbD z.val else b.data.getLsbD (z.val - 16)) ∧
      (∀ level : Level, level ≠ .clear → b.field = 2 → b.data.toNat = level.code →
        stores { old with minLevel := level }) ∧
      (∀ x : Bool, b.field = 3 → b.data.toNat = flagCode x →
        stores { old with drillPass := x })) ∧
    (i = 8 → b.field = 0 →
      let value := max 1 (min 255 b.data.toNat)
      Sys2Proof.Machine.exec (.tableWrite e 3 3 b) s =
        .next (received (answered 3 e
          (echo (if value = b.data.toNat then .ok else .clamped) 3 b (BitVec.ofNat 16 value))
          (s.setOut { s.out with refreshPeriod := value }))))

/-- The content captured for a panel frame: all 0 in CONFIG; in RUN in mode ZONES, for each zone, its
effective level high bit first, its drill flag and its degraded flag; in mode STATIONS two bits for
each station, high bit first, then one bit for each pile that is BLIND, then 0. Nothing else changes
(R163, R164, R184). -/
def Obligations.PanelFramesShowTheState : Prop :=
  ∀ s : State, s.resetHeld = none → ∃ f : BitVec 128,
    Sys2Proof.Machine.exec .panelFrameCapture s = .next (s.setOut { s.out with panel := some f }) ∧
    (s.rct.opState = .config → f = 0) ∧
    (s.rct.opState = .run → s.out.panelMode = .zones → ∀ z : Fin 32,
      f.getLsbD (4 * z.val) = decide (2 ≤ (s.zone z).effective.code) ∧
      f.getLsbD (4 * z.val + 1) = decide ((s.zone z).effective.code % 2 = 1) ∧
      f.getLsbD (4 * z.val + 2) = decide (0 < (s.zone z).drillTimer) ∧
      f.getLsbD (4 * z.val + 3) = (s.zone z).degraded) ∧
    (s.rct.opState = .run → s.out.panelMode = .stations →
      (∀ i : Fin 48,
        let health := (s.station i).health.state
        f.getLsbD (2 * i.val) = decide (health = .stale ∨ health = .retired) ∧
        f.getLsbD (2 * i.val + 1) = decide (health = .healthy ∨ health = .retired)) ∧
      (∀ p : Fin 24, f.getLsbD (96 + p.val) = decide ((s.pile p).dyn.source = .blind)) ∧
      ∀ k, 120 ≤ k → f.getLsbD k = false)

/-! ### Management -/

/-- A READ of a counter answers its value and clears that counter, and every other field of every table
reads as before, what no table shows included; the yard rejects counter is one counter that every pile
index shows and that a READ at any of them clears. A READ of the
notice status answers the six class statuses in bits 0 to 5 and the notice-lost flag in bit 6, clears
the seven and SYNC_FAIL, and changes nothing else (R15, R28, R57, R97, R170, R173, R178, R182). -/
def Obligations.CounterAndStatusReadsClear : Prop :=
  (∀ (e : Envelope) (unit : Fin 4) (table : Byte) (b : Body) (s : State), TakesAtOnce e.port s →
     (Instr.counterRead e unit table b).wellFormed = true →
     let i := b.index.toNat
     let f := b.field.toNat
     ∃ (value : Nat) (t : State),
       readField unit.val table.toNat i f (received s) = some value ∧
       Sys2Proof.Machine.exec (.counterRead e unit table b) s =
         .next (answered unit.val e (echo .ok table b (BitVec.ofNat 16 value)) t) ∧
       readField unit.val table.toNat i f t = some 0 ∧
       (∀ u' t' i' f', (u' ≠ unit.val ∨ t' ≠ table.toNat ∨ f' ≠ f ∨ (i' ≠ i ∧ unit.val ≠ 2)) →
         readField u' t' i' f' t = readField u' t' i' f' (received s)) ∧
       (unit = 2 → ∀ i', i' < 24 →
         readField 2 1 i' 6 (received s) = some value ∧ readField 2 1 i' 6 t = some 0) ∧
       t.rct = s.rct ∧ t.stu = s.stu ∧ t.plu.piles = s.plu.piles ∧ t.pju = s.pju ∧
       t.znu = s.znu ∧ t.out = s.out ∧ t.stage = s.stage ∧ t.tif.markSlot = s.tif.markSlot ∧
       t.tif.strap = s.tif.strap ∧
       t.mgu =
         { s.mgu with
           received := t.mgu.received, dropped := t.mgu.dropped
           notices :=
             { s.mgu.notices with
               queued := t.mgu.notices.queued, lost := t.mgu.notices.lost } } ∧
       (∀ k, (t.intake k).reading = (s.intake k).reading ∧
         (t.intake k).pendingA = (s.intake k).pendingA ∧
         (t.intake k).lastOffset = (s.intake k).lastOffset) ∧
       (∀ p, (t.tif.port p).framer = (s.tif.port p).framer ∧
         (t.tif.port p).transit = (s.tif.port p).transit ∧
         (t.tif.port p).queue = (s.tif.port p).queue ∧
         (t.tif.port p).reserved = (s.tif.port p).reserved ∧
         (t.tif.port p).sending = (s.tif.port p).sending ∧
         (t.tif.port p).lastTaken = (s.tif.port p).lastTaken ∧
         (t.tif.port p).crcTally = (s.tif.port p).crcTally ∧
         (t.tif.port p).dropTally = (s.tif.port p).dropTally)) ∧
  (∀ (e : Envelope) (data : Word) (s : State), TakesAtOnce e.port s →
     let n := s.mgu.notices
     let off := fun (x : ClassFlags) => { x with status := false }
     ∃ w : Word,
       w.getLsbD 0 = n.zone.status ∧ w.getLsbD 1 = n.station.status ∧
       w.getLsbD 2 = n.pile.status ∧ w.getLsbD 3 = n.round.status ∧
       w.getLsbD 4 = n.drill.status ∧ w.getLsbD 5 = n.trunk.status ∧
       w.getLsbD 6 = n.lostFlag ∧ (∀ k, 7 ≤ k → w.getLsbD k = false) ∧
       Sys2Proof.Machine.exec (.noticeStatusRead e data) s =
         .next (received (answered 0 e
           { status := .ok, table := 2, index := 0, field := 12, data := w }
           ((s.setMgu
             { s.mgu with
               notices :=
                 { n with
                   zone := off n.zone, station := off n.station, pile := off n.pile
                   round := off n.round, drill := off n.drill, trunk := off n.trunk
                   lostFlag := false } }).setRct { s.rct with syncFail := false }))))

/-- A write to the round configuration in CONFIG with no probe running stores P clamped to 10..160,
a close mode 0 or 1, and RoundMax clamped to 0..250; in RUN or while a probe runs it is refused with
WRONGSTATE; the fields above 2 are read-only. A write of a notice class's enable or mask flag is
accepted in either state and changes that flag alone, but that the TRUNK tallies are 0 while the
TRUNK class is disabled; a code above 1 is refused with BADVALUE. A write to the panel mode is accepted
in either state: 0 is ZONES and 1 STATIONS. A write to a field that is read-only or unknown, the
counters, the notice status, the dynamic tables and the active bank included, is refused with BADADDR
(R19, R164, R166, R169, R170, R172, R175, R182, R183). -/
def Obligations.TableWritesStoreTheirSettings : Prop :=
  (∀ (e : Envelope) (unit : Fin 4) (table : Byte) (b : Body) (s : State), TakesAtOnce e.port s →
     writableCount unit.val table.toNat b.index.toNat ≤ b.field.toNat →
     Sys2Proof.Machine.exec (.tableWrite e unit table b) s =
       .next (received (answered unit.val e (echo .badAddr table b b.data) s))) ∧
  (∀ (e : Envelope) (b : Body) (s : State), TakesAtOnce e.port s →
     let n := b.data.toNat
     let refused := fun (x : Status) =>
       Sys2Proof.Machine.exec (.tableWrite e 0 0 b) s =
         .next (received (answered 0 e (echo x 0 b b.data) s))
     let stores := fun (r : Rct) (value : Nat) =>
       Sys2Proof.Machine.exec (.tableWrite e 0 0 b) s =
         .next (received (answered 0 e
           (echo (if value = n then .ok else .clamped) 0 b (BitVec.ofNat 16 value)) (s.setRct r)))
     (b.index ≠ 0 ∨ 3 ≤ b.field.toNat → refused .badAddr) ∧
     (b.index = 0 → b.field.toNat ≤ 2 → s.rct.opState = .run ∨ s.rct.probing = true →
       refused .wrongState) ∧
     (b.index = 0 → s.rct.opState = .config → s.rct.probing = false →
       (b.field = 0 → stores { s.rct with period := max 10 (min 160 n) } (max 10 (min 160 n))) ∧
       (b.field = 1 → n = 0 → stores { s.rct with closeMode := .deadline } 0) ∧
       (b.field = 1 → n = 1 → stores { s.rct with closeMode := .allIn } 1) ∧
       (b.field = 1 → 2 ≤ n → refused .badValue) ∧
       (b.field = 2 → stores { s.rct with roundMax := min 250 n } (min 250 n)))) ∧
  (∀ (e : Envelope) (b : Body) (s : State) (c : NoticeClass), TakesAtOnce e.port s →
     b.index = 0 → b.field.toNat + 1 = c.code ∨ b.field.toNat = c.code + 5 →
     (2 ≤ b.data.toNat →
       Sys2Proof.Machine.exec (.tableWrite e 0 2 b) s =
         .next (received (answered 0 e (echo .badValue 2 b b.data) s))) ∧
     (∀ x : Bool, b.data.toNat = flagCode x →
       let old := s.mgu.notices.flags c
       let new :=
         if b.field.toNat < 6 then { old with enable := x } else { old with mask := x }
       ∃ (notices : Notices) (t : State),
         Sys2Proof.Machine.exec (.tableWrite e 0 2 b) s =
           .next (received (answered 0 e (echo .ok 2 b b.data) t)) ∧
         notices.flags c = new ∧ (∀ k, k ≠ c → notices.flags k = s.mgu.notices.flags k) ∧
         notices.lostFlag = s.mgu.notices.lostFlag ∧ notices.queued = s.mgu.notices.queued ∧
         notices.lost = s.mgu.notices.lost ∧
         (notices.trunk.enable = true →
           t = s.setMgu { s.mgu with notices := notices }) ∧
         (notices.trunk.enable = false →
           let zeroed := fun (p : PortState) => { p with crcTally := 0, dropTally := 0 }
           t = ((s.setMgu { s.mgu with notices := notices }).modPort .field zeroed).modPort
             .quay zeroed))) ∧
  (∀ (e : Envelope) (b : Body) (s : State), TakesAtOnce e.port s →
    let refused := fun (x : Status) =>
      Sys2Proof.Machine.exec (.tableWrite e 3 4 b) s =
        .next (received (answered 3 e (echo x 4 b b.data) s))
    (b.index ≠ 0 ∨ b.field ≠ 0 → refused .badAddr) ∧
    (b.index = 0 → b.field = 0 → 2 ≤ b.data.toNat → refused .badValue) ∧
    (∀ mode : PanelMode, b.index = 0 → b.field = 0 → b.data.toNat = mode.code →
      Sys2Proof.Machine.exec (.tableWrite e 3 4 b) s =
        .next (received (answered 3 e (echo .ok 4 b b.data)
          (s.setOut { s.out with panelMode := mode })))))

/-- A request for one of the part's units that finds four waiting is dropped and counted; one that
may not be taken yet waits behind the others and counts as received; one that may is taken at once.
MGU takes the head of its queue, where the conditions hold, when a frame has left, at ZNU's completion
and when an execution ends, after what else the event does where no turn of its own says otherwise,
and before time passes. No turn of those events makes it take a head it may not take, no byte or frame
does, and the other commands that bring no request, but a reset, neither change the queue nor depend on
it where no time passes. An unknown op is refused with BADVALUE; an unknown table, index, field or
command with BADADDR; a READ of a known field answers it, and leaves all as it is where that is no
counter and not the notice status; the identity record's fields are those of R177 (R166 to R171, R177,
R183). That a take may be left to the end of its instant, and that MGU does not look when it drops a
request, are the model's choices (notes/assumptions/20.md, notes/assumptions/25.md). -/
def Obligations.RequestsWaitOrAreDropped : Prop :=
  (∀ (unit : Fin 4) (e : Envelope) (op table : Byte) (b : Body) (s : State),
    s.resetHeld = none →
    let arrives := Sys2Proof.Machine.exec (.mreqArrival unit e op table b) s
    let request : Request :=
      { port := e.port, source := e.source, dest := managementAddress s.tif.strap unit.val
        tag := e.tag, op := op, table := table, body := b }
    let waits := s.setMgu
      { s.mgu with
        requests := s.mgu.requests ++ [request], received := min 65535 (s.mgu.received + 1) }
    let answers := fun (a : Reply) => arrives = .next (received (answered unit.val e a s))
    let i := b.index.toNat
    let f := b.field.toNat
    let fields := fieldCount unit.val table.toNat i
    (4 ≤ s.mgu.requests.length →
      arrives = .next (s.setMgu { s.mgu with dropped := min 65535 (s.mgu.dropped + 1) })) ∧
    (s.mgu.requests.length < 4 → s.mgu.executing.isSome = true ∨ s.rct.phase = .evaluating →
      arrives = .next waits) ∧
    (s.mgu.requests = [] → (s.tif.port e.port).room = 0 → arrives = .next waits) ∧
    (∀ r rest, s.mgu.requests = r :: rest → rest.length < 3 →
      (s.tif.port r.port).room = 0 → arrives = .next waits) ∧
    (TakesAtOnce e.port s → arrives = .next (takeRequest request (received s))) ∧
    (TakesAtOnce e.port s → op ≠ 1 → op ≠ 2 → op ≠ 3 →
      answers (echo .badValue table b b.data)) ∧
    (TakesAtOnce e.port s → op = 1 → fields ≤ f → answers (echo .badAddr table b b.data)) ∧
    (TakesAtOnce e.port s → op = 2 → writableCount unit.val table.toNat i ≤ f →
      answers (echo .badAddr table b b.data)) ∧
    (TakesAtOnce e.port s → op = 3 → table.toNat ∉ commandCodes unit.val →
      answers (echo .badAddr table b b.data)) ∧
    (TakesAtOnce e.port s → op = 1 → f < fields → isCounterField unit table.toNat i f = false →
      ¬ (unit = 0 ∧ table = 2 ∧ f = 12) →
      ∃ value, readField unit.val table.toNat i f (received s) = some value ∧
        answers (echo .ok table b (BitVec.ofNat 16 value))) ∧
    (∀ k, TakesAtOnce e.port s → op = 1 → unit = 0 → table = 4 → b.index = 0 → k < 6 →
      b.field.toNat = k →
      answers (echo .ok table b (BitVec.ofNat 16
        ([0x2E41, 0x0C98, 1, s.tif.strap.toNat, s.mgu.resetCause.code,
          s.mgu.retiredAtRelease].getD k 0))))) ∧
  (∀ (c : Instr) (r : Request) (rest : List Request) (s v : State), s.resetHeld = none →
    s.mgu.requests = r :: rest →
    (∃ p turns, c = .frameSent p turns ∧ (s.tif.port p).sending.isSome = true ∧
        (Turn.mgu ∉ turns ∨
          (turns.count .mgu = 1 ∧ (p = .quay ∨ s.rct.opState = .run)))) ∨
      (∃ turns, c = .evaluationComplete turns ∧ s.stage = .done ∧ Turn.mgu ∉ turns) ∨
      c = .copyComplete →
    Sys2Proof.Machine.exec c (withRequests [] s) = .next v →
    (MayTake r v →
      Sys2Proof.Machine.exec c s = .next (takeRequest r (withRequests rest v))) ∧
    (¬ MayTake r v → Sys2Proof.Machine.exec c s = .next (withRequests (r :: rest) v))) ∧
  (∀ (p : Port) (turns : List Turn) (c : Instr) (r : Request) (rest : List Request) (s v : State),
    s.mgu.requests = r :: rest →
    s.mgu.executing.isSome = true ∨
      ((s.tif.port r.port).room = 0 ∧ (s.tif.port r.port).sending.isSome = true ∧
        c ≠ .frameSent r.port turns) →
    c = .frameSent p turns ∨ c = .evaluationComplete turns →
    Sys2Proof.Machine.exec c (withRequests [] s) = .next v →
    Sys2Proof.Machine.exec c s = .next (withRequests (r :: rest) v)) ∧
  (∀ (after : Nat) (p : Port) (c : Instr) (r : Request) (rest : List Request) (s t : State),
    (∃ rx, c = .strayByte after p rx) ∨ (∃ f, c = .frameArrival after p f) →
    s.resetHeld = none → TrunkSound (s.elapse after) →
    (s.elapse after).mgu.requests = r :: rest → ¬ MayTake r (s.elapse after) →
    Sys2Proof.Machine.exec c s = .next t → ∃ more, t.mgu.requests = r :: (rest ++ more)) ∧
  (∀ (c : Instr) (s v : State), AsksNothing c →
    Sys2Proof.Machine.exec c (withRequests [] s) = .next v →
    Sys2Proof.Machine.exec c s = .next (withRequests s.mgu.requests v)) ∧
  (∀ (r : Request) (rest : List Request) (s : State), s.resetHeld = none → s.pending = [] →
    s.mgu.requests = r :: rest → MayTake r s →
    Sys2Proof.Machine.step s = Sys2Proof.Machine.step (takeRequest r (withRequests rest s)))

/-- A raised event follows its class's flags: disabled, nothing happens; enabled, the class's status is
set; with the mask clear its NOTICE, with the class, subject, old and new value and flags of the event,
enters the quay insertion queue and counts as queued, or, without room, is lost: it counts as lost and
the notice-lost flag is set. No other class's flags move. The ROUND event of a probe's end shows it on
a command; the events of the other commands are in the statements about those (R12, R34, R172,
R174). -/
def Obligations.NoticesFollowTheFlags : Prop :=
  (∀ (c : NoticeClass) (r : Report) (s : State),
    let n := s.mgu.notices
    let fl := n.flags c
    let notice := noticeFrame s.tif.strap s.rct.roundNumber c.code r.subject r.old r.new r.flags
    (fl.enable = false → raise c r s = s) ∧
    (fl.enable = true → ∃ noted : Notices,
      noted.flags c = { fl with status := true } ∧
      (∀ k, k ≠ c → noted.flags k = n.flags k) ∧
      noted.lostFlag = n.lostFlag ∧ noted.queued = n.queued ∧ noted.lost = n.lost ∧
      (fl.mask = true → raise c r s = s.setMgu { s.mgu with notices := noted }) ∧
      (fl.mask = false → 1 ≤ s.tif.quayPort.room →
        raise c r s = (s.setTif
          ((s.tif.modPort .quay fun p => { p with queue := p.queue ++ [notice] }).wake .quay)).setMgu
          { s.mgu with notices := { noted with queued := min 65535 (n.queued + 1) } }) ∧
      (fl.mask = false → s.tif.quayPort.room = 0 →
        raise c r s = s.setMgu
          { s.mgu with
            notices := { noted with lostFlag := true, lost := min 65535 (n.lost + 1) } }))) ∧
  (∀ s : State, AtProbeEnd s →
    let ended := s.setRct { s.rct with probing := false, probeTimer := none }
    let n := s.mgu.notices
    let noted := { n with round := { n.round with status := true } }
    let notice := noticeFrame s.tif.strap s.rct.roundNumber 4 1 0 0 0
    let gives := fun (t : State) => Sys2Proof.Machine.exec .probeTimerExpiry s = .next t
    (n.round.enable = false → gives ended) ∧
    (n.round.enable = true → n.round.mask = true →
      gives (ended.setMgu { s.mgu with notices := noted })) ∧
    (n.round.enable = true → n.round.mask = false → 1 ≤ s.tif.quayPort.room →
      gives ((ended.setTif
        ((s.tif.modPort .quay fun p => { p with queue := p.queue ++ [notice] }).wake .quay)).setMgu
        { s.mgu with notices := { noted with queued := min 65535 (n.queued + 1) } })) ∧
    (n.round.enable = true → n.round.mask = false → s.tif.quayPort.room = 0 →
      gives (ended.setMgu
        { s.mgu with
          notices := { noted with lostFlag := true, lost := min 65535 (n.lost + 1) } })))

/-- The state right after power-on reset is sound in every block. -/
def Obligations.InvariantsHoldAtReset : Prop :=
  TrunkSound State.reset ∧ RoundsSound State.reset ∧ OutstandingSound State.reset ∧
    StationsSound State.reset ∧ BanksSound State.reset ∧ ZonesSound State.reset ∧
    LinesSound State.reset
end

