-- ==== Sys2Proof/Laws/State.lean ====
section
/-! SUPPORT. One lemma per field of State per block setter, each true by rfl, and the same for the
setters built on them: no later proof unfolds a record update. -/

namespace Sys2Proof.Machine

variable (s : State)


/-! ### setTif -/

@[simp] theorem State.setTif_tif (x : Tif) : (s.setTif x).tif = x := rfl
@[simp] theorem State.setTif_rct (x : Tif) : (s.setTif x).rct = s.rct := rfl
@[simp] theorem State.setTif_sin (x : Tif) : (s.setTif x).sin = s.sin := rfl
@[simp] theorem State.setTif_stu (x : Tif) : (s.setTif x).stu = s.stu := rfl
@[simp] theorem State.setTif_plu (x : Tif) : (s.setTif x).plu = s.plu := rfl
@[simp] theorem State.setTif_pju (x : Tif) : (s.setTif x).pju = s.pju := rfl
@[simp] theorem State.setTif_znu (x : Tif) : (s.setTif x).znu = s.znu := rfl
@[simp] theorem State.setTif_out (x : Tif) : (s.setTif x).out = s.out := rfl
@[simp] theorem State.setTif_mgu (x : Tif) : (s.setTif x).mgu = s.mgu := rfl
@[simp] theorem State.setTif_stage (x : Tif) : (s.setTif x).stage = s.stage := rfl
@[simp] theorem State.setTif_pending (x : Tif) : (s.setTif x).pending = s.pending := rfl
@[simp] theorem State.setTif_resetHeld (x : Tif) : (s.setTif x).resetHeld = s.resetHeld := rfl
@[simp] theorem State.setTif_same : s.setTif s.tif = s := rfl
@[simp] theorem State.setTif_twice (x y : Tif) : (s.setTif x).setTif y = s.setTif y := rfl

/-! ### setRct -/

@[simp] theorem State.setRct_tif (x : Rct) : (s.setRct x).tif = s.tif := rfl
@[simp] theorem State.setRct_rct (x : Rct) : (s.setRct x).rct = x := rfl
@[simp] theorem State.setRct_sin (x : Rct) : (s.setRct x).sin = s.sin := rfl
@[simp] theorem State.setRct_stu (x : Rct) : (s.setRct x).stu = s.stu := rfl
@[simp] theorem State.setRct_plu (x : Rct) : (s.setRct x).plu = s.plu := rfl
@[simp] theorem State.setRct_pju (x : Rct) : (s.setRct x).pju = s.pju := rfl
@[simp] theorem State.setRct_znu (x : Rct) : (s.setRct x).znu = s.znu := rfl
@[simp] theorem State.setRct_out (x : Rct) : (s.setRct x).out = s.out := rfl
@[simp] theorem State.setRct_mgu (x : Rct) : (s.setRct x).mgu = s.mgu := rfl
@[simp] theorem State.setRct_stage (x : Rct) : (s.setRct x).stage = s.stage := rfl
@[simp] theorem State.setRct_pending (x : Rct) : (s.setRct x).pending = s.pending := rfl
@[simp] theorem State.setRct_resetHeld (x : Rct) : (s.setRct x).resetHeld = s.resetHeld := rfl
@[simp] theorem State.setRct_same : s.setRct s.rct = s := rfl
@[simp] theorem State.setRct_twice (x y : Rct) : (s.setRct x).setRct y = s.setRct y := rfl

/-! ### setSin -/

@[simp] theorem State.setSin_tif (x : Vector Intake 48) : (s.setSin x).tif = s.tif := rfl
@[simp] theorem State.setSin_rct (x : Vector Intake 48) : (s.setSin x).rct = s.rct := rfl
@[simp] theorem State.setSin_sin (x : Vector Intake 48) : (s.setSin x).sin = x := rfl
@[simp] theorem State.setSin_stu (x : Vector Intake 48) : (s.setSin x).stu = s.stu := rfl
@[simp] theorem State.setSin_plu (x : Vector Intake 48) : (s.setSin x).plu = s.plu := rfl
@[simp] theorem State.setSin_pju (x : Vector Intake 48) : (s.setSin x).pju = s.pju := rfl
@[simp] theorem State.setSin_znu (x : Vector Intake 48) : (s.setSin x).znu = s.znu := rfl
@[simp] theorem State.setSin_out (x : Vector Intake 48) : (s.setSin x).out = s.out := rfl
@[simp] theorem State.setSin_mgu (x : Vector Intake 48) : (s.setSin x).mgu = s.mgu := rfl
@[simp] theorem State.setSin_stage (x : Vector Intake 48) : (s.setSin x).stage = s.stage := rfl
@[simp] theorem State.setSin_pending (x : Vector Intake 48) :
    (s.setSin x).pending = s.pending := rfl
@[simp] theorem State.setSin_resetHeld (x : Vector Intake 48) :
    (s.setSin x).resetHeld = s.resetHeld := rfl
@[simp] theorem State.setSin_same : s.setSin s.sin = s := rfl
@[simp] theorem State.setSin_twice (x y : Vector Intake 48) :
    (s.setSin x).setSin y = s.setSin y := rfl

/-! ### setStu -/

@[simp] theorem State.setStu_tif (x : Vector Station 48) : (s.setStu x).tif = s.tif := rfl
@[simp] theorem State.setStu_rct (x : Vector Station 48) : (s.setStu x).rct = s.rct := rfl
@[simp] theorem State.setStu_sin (x : Vector Station 48) : (s.setStu x).sin = s.sin := rfl
@[simp] theorem State.setStu_stu (x : Vector Station 48) : (s.setStu x).stu = x := rfl
@[simp] theorem State.setStu_plu (x : Vector Station 48) : (s.setStu x).plu = s.plu := rfl
@[simp] theorem State.setStu_pju (x : Vector Station 48) : (s.setStu x).pju = s.pju := rfl
@[simp] theorem State.setStu_znu (x : Vector Station 48) : (s.setStu x).znu = s.znu := rfl
@[simp] theorem State.setStu_out (x : Vector Station 48) : (s.setStu x).out = s.out := rfl
@[simp] theorem State.setStu_mgu (x : Vector Station 48) : (s.setStu x).mgu = s.mgu := rfl
@[simp] theorem State.setStu_stage (x : Vector Station 48) : (s.setStu x).stage = s.stage := rfl
@[simp] theorem State.setStu_pending (x : Vector Station 48) :
    (s.setStu x).pending = s.pending := rfl
@[simp] theorem State.setStu_resetHeld (x : Vector Station 48) :
    (s.setStu x).resetHeld = s.resetHeld := rfl
@[simp] theorem State.setStu_same : s.setStu s.stu = s := rfl
@[simp] theorem State.setStu_twice (x y : Vector Station 48) :
    (s.setStu x).setStu y = s.setStu y := rfl

/-! ### setPlu -/

@[simp] theorem State.setPlu_tif (x : Plu) : (s.setPlu x).tif = s.tif := rfl
@[simp] theorem State.setPlu_rct (x : Plu) : (s.setPlu x).rct = s.rct := rfl
@[simp] theorem State.setPlu_sin (x : Plu) : (s.setPlu x).sin = s.sin := rfl
@[simp] theorem State.setPlu_stu (x : Plu) : (s.setPlu x).stu = s.stu := rfl
@[simp] theorem State.setPlu_plu (x : Plu) : (s.setPlu x).plu = x := rfl
@[simp] theorem State.setPlu_pju (x : Plu) : (s.setPlu x).pju = s.pju := rfl
@[simp] theorem State.setPlu_znu (x : Plu) : (s.setPlu x).znu = s.znu := rfl
@[simp] theorem State.setPlu_out (x : Plu) : (s.setPlu x).out = s.out := rfl
@[simp] theorem State.setPlu_mgu (x : Plu) : (s.setPlu x).mgu = s.mgu := rfl
@[simp] theorem State.setPlu_stage (x : Plu) : (s.setPlu x).stage = s.stage := rfl
@[simp] theorem State.setPlu_pending (x : Plu) : (s.setPlu x).pending = s.pending := rfl
@[simp] theorem State.setPlu_resetHeld (x : Plu) : (s.setPlu x).resetHeld = s.resetHeld := rfl
@[simp] theorem State.setPlu_same : s.setPlu s.plu = s := rfl
@[simp] theorem State.setPlu_twice (x y : Plu) : (s.setPlu x).setPlu y = s.setPlu y := rfl

/-! ### setPju -/

@[simp] theorem State.setPju_tif (x : Pju) : (s.setPju x).tif = s.tif := rfl
@[simp] theorem State.setPju_rct (x : Pju) : (s.setPju x).rct = s.rct := rfl
@[simp] theorem State.setPju_sin (x : Pju) : (s.setPju x).sin = s.sin := rfl
@[simp] theorem State.setPju_stu (x : Pju) : (s.setPju x).stu = s.stu := rfl
@[simp] theorem State.setPju_plu (x : Pju) : (s.setPju x).plu = s.plu := rfl
@[simp] theorem State.setPju_pju (x : Pju) : (s.setPju x).pju = x := rfl
@[simp] theorem State.setPju_znu (x : Pju) : (s.setPju x).znu = s.znu := rfl
@[simp] theorem State.setPju_out (x : Pju) : (s.setPju x).out = s.out := rfl
@[simp] theorem State.setPju_mgu (x : Pju) : (s.setPju x).mgu = s.mgu := rfl
@[simp] theorem State.setPju_stage (x : Pju) : (s.setPju x).stage = s.stage := rfl
@[simp] theorem State.setPju_pending (x : Pju) : (s.setPju x).pending = s.pending := rfl
@[simp] theorem State.setPju_resetHeld (x : Pju) : (s.setPju x).resetHeld = s.resetHeld := rfl
@[simp] theorem State.setPju_same : s.setPju s.pju = s := rfl
@[simp] theorem State.setPju_twice (x y : Pju) : (s.setPju x).setPju y = s.setPju y := rfl

/-! ### setZnu -/

@[simp] theorem State.setZnu_tif (x : Znu) : (s.setZnu x).tif = s.tif := rfl
@[simp] theorem State.setZnu_rct (x : Znu) : (s.setZnu x).rct = s.rct := rfl
@[simp] theorem State.setZnu_sin (x : Znu) : (s.setZnu x).sin = s.sin := rfl
@[simp] theorem State.setZnu_stu (x : Znu) : (s.setZnu x).stu = s.stu := rfl
@[simp] theorem State.setZnu_plu (x : Znu) : (s.setZnu x).plu = s.plu := rfl
@[simp] theorem State.setZnu_pju (x : Znu) : (s.setZnu x).pju = s.pju := rfl
@[simp] theorem State.setZnu_znu (x : Znu) : (s.setZnu x).znu = x := rfl
@[simp] theorem State.setZnu_out (x : Znu) : (s.setZnu x).out = s.out := rfl
@[simp] theorem State.setZnu_mgu (x : Znu) : (s.setZnu x).mgu = s.mgu := rfl
@[simp] theorem State.setZnu_stage (x : Znu) : (s.setZnu x).stage = s.stage := rfl
@[simp] theorem State.setZnu_pending (x : Znu) : (s.setZnu x).pending = s.pending := rfl
@[simp] theorem State.setZnu_resetHeld (x : Znu) : (s.setZnu x).resetHeld = s.resetHeld := rfl
@[simp] theorem State.setZnu_same : s.setZnu s.znu = s := rfl
@[simp] theorem State.setZnu_twice (x y : Znu) : (s.setZnu x).setZnu y = s.setZnu y := rfl

/-! ### setOut -/

@[simp] theorem State.setOut_tif (x : Out) : (s.setOut x).tif = s.tif := rfl
@[simp] theorem State.setOut_rct (x : Out) : (s.setOut x).rct = s.rct := rfl
@[simp] theorem State.setOut_sin (x : Out) : (s.setOut x).sin = s.sin := rfl
@[simp] theorem State.setOut_stu (x : Out) : (s.setOut x).stu = s.stu := rfl
@[simp] theorem State.setOut_plu (x : Out) : (s.setOut x).plu = s.plu := rfl
@[simp] theorem State.setOut_pju (x : Out) : (s.setOut x).pju = s.pju := rfl
@[simp] theorem State.setOut_znu (x : Out) : (s.setOut x).znu = s.znu := rfl
@[simp] theorem State.setOut_out (x : Out) : (s.setOut x).out = x := rfl
@[simp] theorem State.setOut_mgu (x : Out) : (s.setOut x).mgu = s.mgu := rfl
@[simp] theorem State.setOut_stage (x : Out) : (s.setOut x).stage = s.stage := rfl
@[simp] theorem State.setOut_pending (x : Out) : (s.setOut x).pending = s.pending := rfl
@[simp] theorem State.setOut_resetHeld (x : Out) : (s.setOut x).resetHeld = s.resetHeld := rfl
@[simp] theorem State.setOut_same : s.setOut s.out = s := rfl
@[simp] theorem State.setOut_twice (x y : Out) : (s.setOut x).setOut y = s.setOut y := rfl

/-! ### setMgu -/

@[simp] theorem State.setMgu_tif (x : Mgu) : (s.setMgu x).tif = s.tif := rfl
@[simp] theorem State.setMgu_rct (x : Mgu) : (s.setMgu x).rct = s.rct := rfl
@[simp] theorem State.setMgu_sin (x : Mgu) : (s.setMgu x).sin = s.sin := rfl
@[simp] theorem State.setMgu_stu (x : Mgu) : (s.setMgu x).stu = s.stu := rfl
@[simp] theorem State.setMgu_plu (x : Mgu) : (s.setMgu x).plu = s.plu := rfl
@[simp] theorem State.setMgu_pju (x : Mgu) : (s.setMgu x).pju = s.pju := rfl
@[simp] theorem State.setMgu_znu (x : Mgu) : (s.setMgu x).znu = s.znu := rfl
@[simp] theorem State.setMgu_out (x : Mgu) : (s.setMgu x).out = s.out := rfl
@[simp] theorem State.setMgu_mgu (x : Mgu) : (s.setMgu x).mgu = x := rfl
@[simp] theorem State.setMgu_stage (x : Mgu) : (s.setMgu x).stage = s.stage := rfl
@[simp] theorem State.setMgu_pending (x : Mgu) : (s.setMgu x).pending = s.pending := rfl
@[simp] theorem State.setMgu_resetHeld (x : Mgu) : (s.setMgu x).resetHeld = s.resetHeld := rfl
@[simp] theorem State.setMgu_same : s.setMgu s.mgu = s := rfl
@[simp] theorem State.setMgu_twice (x y : Mgu) : (s.setMgu x).setMgu y = s.setMgu y := rfl

/-! ### setStage -/

@[simp] theorem State.setStage_tif (x : EvalStage) : (s.setStage x).tif = s.tif := rfl
@[simp] theorem State.setStage_rct (x : EvalStage) : (s.setStage x).rct = s.rct := rfl
@[simp] theorem State.setStage_sin (x : EvalStage) : (s.setStage x).sin = s.sin := rfl
@[simp] theorem State.setStage_stu (x : EvalStage) : (s.setStage x).stu = s.stu := rfl
@[simp] theorem State.setStage_plu (x : EvalStage) : (s.setStage x).plu = s.plu := rfl
@[simp] theorem State.setStage_pju (x : EvalStage) : (s.setStage x).pju = s.pju := rfl
@[simp] theorem State.setStage_znu (x : EvalStage) : (s.setStage x).znu = s.znu := rfl
@[simp] theorem State.setStage_out (x : EvalStage) : (s.setStage x).out = s.out := rfl
@[simp] theorem State.setStage_mgu (x : EvalStage) : (s.setStage x).mgu = s.mgu := rfl
@[simp] theorem State.setStage_stage (x : EvalStage) : (s.setStage x).stage = x := rfl
@[simp] theorem State.setStage_pending (x : EvalStage) : (s.setStage x).pending = s.pending := rfl
@[simp] theorem State.setStage_resetHeld (x : EvalStage) :
    (s.setStage x).resetHeld = s.resetHeld := rfl
@[simp] theorem State.setStage_same : s.setStage s.stage = s := rfl
@[simp] theorem State.setStage_twice (x y : EvalStage) :
    (s.setStage x).setStage y = s.setStage y := rfl

/-! ### setPending -/

@[simp] theorem State.setPending_tif (x : List Instr) : (s.setPending x).tif = s.tif := rfl
@[simp] theorem State.setPending_rct (x : List Instr) : (s.setPending x).rct = s.rct := rfl
@[simp] theorem State.setPending_sin (x : List Instr) : (s.setPending x).sin = s.sin := rfl
@[simp] theorem State.setPending_stu (x : List Instr) : (s.setPending x).stu = s.stu := rfl
@[simp] theorem State.setPending_plu (x : List Instr) : (s.setPending x).plu = s.plu := rfl
@[simp] theorem State.setPending_pju (x : List Instr) : (s.setPending x).pju = s.pju := rfl
@[simp] theorem State.setPending_znu (x : List Instr) : (s.setPending x).znu = s.znu := rfl
@[simp] theorem State.setPending_out (x : List Instr) : (s.setPending x).out = s.out := rfl
@[simp] theorem State.setPending_mgu (x : List Instr) : (s.setPending x).mgu = s.mgu := rfl
@[simp] theorem State.setPending_stage (x : List Instr) : (s.setPending x).stage = s.stage := rfl
@[simp] theorem State.setPending_pending (x : List Instr) : (s.setPending x).pending = x := rfl
@[simp] theorem State.setPending_resetHeld (x : List Instr) :
    (s.setPending x).resetHeld = s.resetHeld := rfl
@[simp] theorem State.setPending_same : s.setPending s.pending = s := rfl
@[simp] theorem State.setPending_twice (x y : List Instr) :
    (s.setPending x).setPending y = s.setPending y := rfl

/-! ### setResetHeld -/

@[simp] theorem State.setResetHeld_tif (x : Option ResetCause) :
    (s.setResetHeld x).tif = s.tif := rfl
@[simp] theorem State.setResetHeld_rct (x : Option ResetCause) :
    (s.setResetHeld x).rct = s.rct := rfl
@[simp] theorem State.setResetHeld_sin (x : Option ResetCause) :
    (s.setResetHeld x).sin = s.sin := rfl
@[simp] theorem State.setResetHeld_stu (x : Option ResetCause) :
    (s.setResetHeld x).stu = s.stu := rfl
@[simp] theorem State.setResetHeld_plu (x : Option ResetCause) :
    (s.setResetHeld x).plu = s.plu := rfl
@[simp] theorem State.setResetHeld_pju (x : Option ResetCause) :
    (s.setResetHeld x).pju = s.pju := rfl
@[simp] theorem State.setResetHeld_znu (x : Option ResetCause) :
    (s.setResetHeld x).znu = s.znu := rfl
@[simp] theorem State.setResetHeld_out (x : Option ResetCause) :
    (s.setResetHeld x).out = s.out := rfl
@[simp] theorem State.setResetHeld_mgu (x : Option ResetCause) :
    (s.setResetHeld x).mgu = s.mgu := rfl
@[simp] theorem State.setResetHeld_stage (x : Option ResetCause) :
    (s.setResetHeld x).stage = s.stage := rfl
@[simp] theorem State.setResetHeld_pending (x : Option ResetCause) :
    (s.setResetHeld x).pending = s.pending := rfl
@[simp] theorem State.setResetHeld_resetHeld (x : Option ResetCause) :
    (s.setResetHeld x).resetHeld = x := rfl
@[simp] theorem State.setResetHeld_same : s.setResetHeld s.resetHeld = s := rfl
@[simp] theorem State.setResetHeld_twice (x y : Option ResetCause) :
    (s.setResetHeld x).setResetHeld y = s.setResetHeld y := rfl

/-! ### Setters of one record, and of a part of a block -/

@[simp] theorem State.setStation_tif (i : Fin 48) (x : Station) :
    (s.setStation i x).tif = s.tif := rfl
@[simp] theorem State.setStation_rct (i : Fin 48) (x : Station) :
    (s.setStation i x).rct = s.rct := rfl
@[simp] theorem State.setStation_sin (i : Fin 48) (x : Station) :
    (s.setStation i x).sin = s.sin := rfl
@[simp] theorem State.setStation_plu (i : Fin 48) (x : Station) :
    (s.setStation i x).plu = s.plu := rfl
@[simp] theorem State.setStation_pju (i : Fin 48) (x : Station) :
    (s.setStation i x).pju = s.pju := rfl
@[simp] theorem State.setStation_znu (i : Fin 48) (x : Station) :
    (s.setStation i x).znu = s.znu := rfl
@[simp] theorem State.setStation_out (i : Fin 48) (x : Station) :
    (s.setStation i x).out = s.out := rfl
@[simp] theorem State.setStation_mgu (i : Fin 48) (x : Station) :
    (s.setStation i x).mgu = s.mgu := rfl
@[simp] theorem State.setStation_stage (i : Fin 48) (x : Station) :
    (s.setStation i x).stage = s.stage := rfl
@[simp] theorem State.setStation_pending (i : Fin 48) (x : Station) :
    (s.setStation i x).pending = s.pending := rfl
@[simp] theorem State.setStation_resetHeld (i : Fin 48) (x : Station) :
    (s.setStation i x).resetHeld = s.resetHeld := rfl
@[simp] theorem State.setIntake_tif (i : Fin 48) (x : Intake) : (s.setIntake i x).tif = s.tif := rfl
@[simp] theorem State.setIntake_rct (i : Fin 48) (x : Intake) : (s.setIntake i x).rct = s.rct := rfl
@[simp] theorem State.setIntake_stu (i : Fin 48) (x : Intake) : (s.setIntake i x).stu = s.stu := rfl
@[simp] theorem State.setIntake_plu (i : Fin 48) (x : Intake) : (s.setIntake i x).plu = s.plu := rfl
@[simp] theorem State.setIntake_pju (i : Fin 48) (x : Intake) : (s.setIntake i x).pju = s.pju := rfl
@[simp] theorem State.setIntake_znu (i : Fin 48) (x : Intake) : (s.setIntake i x).znu = s.znu := rfl
@[simp] theorem State.setIntake_out (i : Fin 48) (x : Intake) : (s.setIntake i x).out = s.out := rfl
@[simp] theorem State.setIntake_mgu (i : Fin 48) (x : Intake) : (s.setIntake i x).mgu = s.mgu := rfl
@[simp] theorem State.setIntake_stage (i : Fin 48) (x : Intake) :
    (s.setIntake i x).stage = s.stage := rfl
@[simp] theorem State.setIntake_pending (i : Fin 48) (x : Intake) :
    (s.setIntake i x).pending = s.pending := rfl
@[simp] theorem State.setIntake_resetHeld (i : Fin 48) (x : Intake) :
    (s.setIntake i x).resetHeld = s.resetHeld := rfl
@[simp] theorem State.setPile_tif (i : Fin 24) (x : Pile) : (s.setPile i x).tif = s.tif := rfl
@[simp] theorem State.setPile_rct (i : Fin 24) (x : Pile) : (s.setPile i x).rct = s.rct := rfl
@[simp] theorem State.setPile_sin (i : Fin 24) (x : Pile) : (s.setPile i x).sin = s.sin := rfl
@[simp] theorem State.setPile_stu (i : Fin 24) (x : Pile) : (s.setPile i x).stu = s.stu := rfl
@[simp] theorem State.setPile_pju (i : Fin 24) (x : Pile) : (s.setPile i x).pju = s.pju := rfl
@[simp] theorem State.setPile_znu (i : Fin 24) (x : Pile) : (s.setPile i x).znu = s.znu := rfl
@[simp] theorem State.setPile_out (i : Fin 24) (x : Pile) : (s.setPile i x).out = s.out := rfl
@[simp] theorem State.setPile_mgu (i : Fin 24) (x : Pile) : (s.setPile i x).mgu = s.mgu := rfl
@[simp] theorem State.setPile_stage (i : Fin 24) (x : Pile) : (s.setPile i x).stage = s.stage := rfl
@[simp] theorem State.setPile_pending (i : Fin 24) (x : Pile) :
    (s.setPile i x).pending = s.pending := rfl
@[simp] theorem State.setPile_resetHeld (i : Fin 24) (x : Pile) :
    (s.setPile i x).resetHeld = s.resetHeld := rfl
@[simp] theorem State.setZone_tif (i : Fin 32) (x : Zone) : (s.setZone i x).tif = s.tif := rfl
@[simp] theorem State.setZone_rct (i : Fin 32) (x : Zone) : (s.setZone i x).rct = s.rct := rfl
@[simp] theorem State.setZone_sin (i : Fin 32) (x : Zone) : (s.setZone i x).sin = s.sin := rfl
@[simp] theorem State.setZone_stu (i : Fin 32) (x : Zone) : (s.setZone i x).stu = s.stu := rfl
@[simp] theorem State.setZone_plu (i : Fin 32) (x : Zone) : (s.setZone i x).plu = s.plu := rfl
@[simp] theorem State.setZone_pju (i : Fin 32) (x : Zone) : (s.setZone i x).pju = s.pju := rfl
@[simp] theorem State.setZone_out (i : Fin 32) (x : Zone) : (s.setZone i x).out = s.out := rfl
@[simp] theorem State.setZone_mgu (i : Fin 32) (x : Zone) : (s.setZone i x).mgu = s.mgu := rfl
@[simp] theorem State.setZone_stage (i : Fin 32) (x : Zone) : (s.setZone i x).stage = s.stage := rfl
@[simp] theorem State.setZone_pending (i : Fin 32) (x : Zone) :
    (s.setZone i x).pending = s.pending := rfl
@[simp] theorem State.setZone_resetHeld (i : Fin 32) (x : Zone) :
    (s.setZone i x).resetHeld = s.resetHeld := rfl
@[simp] theorem State.mapZones_tif (f : Fin 32 → Zone → Zone) : (s.mapZones f).tif = s.tif := by
  rw [State.mapZones, State.setZnu_tif]
@[simp] theorem State.mapZones_rct (f : Fin 32 → Zone → Zone) : (s.mapZones f).rct = s.rct := by
  rw [State.mapZones, State.setZnu_rct]
@[simp] theorem State.mapZones_sin (f : Fin 32 → Zone → Zone) : (s.mapZones f).sin = s.sin := by
  rw [State.mapZones, State.setZnu_sin]
@[simp] theorem State.mapZones_stu (f : Fin 32 → Zone → Zone) : (s.mapZones f).stu = s.stu := by
  rw [State.mapZones, State.setZnu_stu]
@[simp] theorem State.mapZones_plu (f : Fin 32 → Zone → Zone) : (s.mapZones f).plu = s.plu := by
  rw [State.mapZones, State.setZnu_plu]
@[simp] theorem State.mapZones_pju (f : Fin 32 → Zone → Zone) : (s.mapZones f).pju = s.pju := by
  rw [State.mapZones, State.setZnu_pju]
@[simp] theorem State.mapZones_out (f : Fin 32 → Zone → Zone) : (s.mapZones f).out = s.out := by
  rw [State.mapZones, State.setZnu_out]
@[simp] theorem State.mapZones_mgu (f : Fin 32 → Zone → Zone) : (s.mapZones f).mgu = s.mgu := by
  rw [State.mapZones, State.setZnu_mgu]
@[simp] theorem State.mapZones_stage (f : Fin 32 → Zone → Zone) :
    (s.mapZones f).stage = s.stage := by
  rw [State.mapZones, State.setZnu_stage]
@[simp] theorem State.mapZones_pending (f : Fin 32 → Zone → Zone) :
    (s.mapZones f).pending = s.pending := by
  rw [State.mapZones, State.setZnu_pending]
@[simp] theorem State.mapZones_resetHeld (f : Fin 32 → Zone → Zone) :
    (s.mapZones f).resetHeld = s.resetHeld := by
  rw [State.mapZones, State.setZnu_resetHeld]
@[simp] theorem State.mapPiles_tif (f : Fin 24 → Pile → Pile) : (s.mapPiles f).tif = s.tif := by
  rw [State.mapPiles, State.setPlu_tif]
@[simp] theorem State.mapPiles_rct (f : Fin 24 → Pile → Pile) : (s.mapPiles f).rct = s.rct := by
  rw [State.mapPiles, State.setPlu_rct]
@[simp] theorem State.mapPiles_sin (f : Fin 24 → Pile → Pile) : (s.mapPiles f).sin = s.sin := by
  rw [State.mapPiles, State.setPlu_sin]
@[simp] theorem State.mapPiles_stu (f : Fin 24 → Pile → Pile) : (s.mapPiles f).stu = s.stu := by
  rw [State.mapPiles, State.setPlu_stu]
@[simp] theorem State.mapPiles_pju (f : Fin 24 → Pile → Pile) : (s.mapPiles f).pju = s.pju := by
  rw [State.mapPiles, State.setPlu_pju]
@[simp] theorem State.mapPiles_znu (f : Fin 24 → Pile → Pile) : (s.mapPiles f).znu = s.znu := by
  rw [State.mapPiles, State.setPlu_znu]
@[simp] theorem State.mapPiles_out (f : Fin 24 → Pile → Pile) : (s.mapPiles f).out = s.out := by
  rw [State.mapPiles, State.setPlu_out]
@[simp] theorem State.mapPiles_mgu (f : Fin 24 → Pile → Pile) : (s.mapPiles f).mgu = s.mgu := by
  rw [State.mapPiles, State.setPlu_mgu]
@[simp] theorem State.mapPiles_stage (f : Fin 24 → Pile → Pile) :
    (s.mapPiles f).stage = s.stage := by
  rw [State.mapPiles, State.setPlu_stage]
@[simp] theorem State.mapPiles_pending (f : Fin 24 → Pile → Pile) :
    (s.mapPiles f).pending = s.pending := by
  rw [State.mapPiles, State.setPlu_pending]
@[simp] theorem State.mapPiles_resetHeld (f : Fin 24 → Pile → Pile) :
    (s.mapPiles f).resetHeld = s.resetHeld := by
  rw [State.mapPiles, State.setPlu_resetHeld]
@[simp] theorem State.mapStations_tif (f : Fin 48 → Station → Station) :
    (s.mapStations f).tif = s.tif := by
  rw [State.mapStations, State.setStu_tif]
@[simp] theorem State.mapStations_rct (f : Fin 48 → Station → Station) :
    (s.mapStations f).rct = s.rct := by
  rw [State.mapStations, State.setStu_rct]
@[simp] theorem State.mapStations_sin (f : Fin 48 → Station → Station) :
    (s.mapStations f).sin = s.sin := by
  rw [State.mapStations, State.setStu_sin]
@[simp] theorem State.mapStations_plu (f : Fin 48 → Station → Station) :
    (s.mapStations f).plu = s.plu := by
  rw [State.mapStations, State.setStu_plu]
@[simp] theorem State.mapStations_pju (f : Fin 48 → Station → Station) :
    (s.mapStations f).pju = s.pju := by
  rw [State.mapStations, State.setStu_pju]
@[simp] theorem State.mapStations_znu (f : Fin 48 → Station → Station) :
    (s.mapStations f).znu = s.znu := by
  rw [State.mapStations, State.setStu_znu]
@[simp] theorem State.mapStations_out (f : Fin 48 → Station → Station) :
    (s.mapStations f).out = s.out := by
  rw [State.mapStations, State.setStu_out]
@[simp] theorem State.mapStations_mgu (f : Fin 48 → Station → Station) :
    (s.mapStations f).mgu = s.mgu := by
  rw [State.mapStations, State.setStu_mgu]
@[simp] theorem State.mapStations_stage (f : Fin 48 → Station → Station) :
    (s.mapStations f).stage = s.stage := by
  rw [State.mapStations, State.setStu_stage]
@[simp] theorem State.mapStations_pending (f : Fin 48 → Station → Station) :
    (s.mapStations f).pending = s.pending := by
  rw [State.mapStations, State.setStu_pending]
@[simp] theorem State.mapStations_resetHeld (f : Fin 48 → Station → Station) :
    (s.mapStations f).resetHeld = s.resetHeld := by
  rw [State.mapStations, State.setStu_resetHeld]
@[simp] theorem State.mapIntakes_tif (f : Fin 48 → Intake → Intake) :
    (s.mapIntakes f).tif = s.tif := by
  rw [State.mapIntakes, State.setSin_tif]
@[simp] theorem State.mapIntakes_rct (f : Fin 48 → Intake → Intake) :
    (s.mapIntakes f).rct = s.rct := by
  rw [State.mapIntakes, State.setSin_rct]
@[simp] theorem State.mapIntakes_stu (f : Fin 48 → Intake → Intake) :
    (s.mapIntakes f).stu = s.stu := by
  rw [State.mapIntakes, State.setSin_stu]
@[simp] theorem State.mapIntakes_plu (f : Fin 48 → Intake → Intake) :
    (s.mapIntakes f).plu = s.plu := by
  rw [State.mapIntakes, State.setSin_plu]
@[simp] theorem State.mapIntakes_pju (f : Fin 48 → Intake → Intake) :
    (s.mapIntakes f).pju = s.pju := by
  rw [State.mapIntakes, State.setSin_pju]
@[simp] theorem State.mapIntakes_znu (f : Fin 48 → Intake → Intake) :
    (s.mapIntakes f).znu = s.znu := by
  rw [State.mapIntakes, State.setSin_znu]
@[simp] theorem State.mapIntakes_out (f : Fin 48 → Intake → Intake) :
    (s.mapIntakes f).out = s.out := by
  rw [State.mapIntakes, State.setSin_out]
@[simp] theorem State.mapIntakes_mgu (f : Fin 48 → Intake → Intake) :
    (s.mapIntakes f).mgu = s.mgu := by
  rw [State.mapIntakes, State.setSin_mgu]
@[simp] theorem State.mapIntakes_stage (f : Fin 48 → Intake → Intake) :
    (s.mapIntakes f).stage = s.stage := by
  rw [State.mapIntakes, State.setSin_stage]
@[simp] theorem State.mapIntakes_pending (f : Fin 48 → Intake → Intake) :
    (s.mapIntakes f).pending = s.pending := by
  rw [State.mapIntakes, State.setSin_pending]
@[simp] theorem State.mapIntakes_resetHeld (f : Fin 48 → Intake → Intake) :
    (s.mapIntakes f).resetHeld = s.resetHeld := by
  rw [State.mapIntakes, State.setSin_resetHeld]
@[simp] theorem State.setNotices_tif (n : Notices) : (s.setNotices n).tif = s.tif := rfl
@[simp] theorem State.setNotices_rct (n : Notices) : (s.setNotices n).rct = s.rct := rfl
@[simp] theorem State.setNotices_sin (n : Notices) : (s.setNotices n).sin = s.sin := rfl
@[simp] theorem State.setNotices_stu (n : Notices) : (s.setNotices n).stu = s.stu := rfl
@[simp] theorem State.setNotices_plu (n : Notices) : (s.setNotices n).plu = s.plu := rfl
@[simp] theorem State.setNotices_pju (n : Notices) : (s.setNotices n).pju = s.pju := rfl
@[simp] theorem State.setNotices_znu (n : Notices) : (s.setNotices n).znu = s.znu := rfl
@[simp] theorem State.setNotices_out (n : Notices) : (s.setNotices n).out = s.out := rfl
@[simp] theorem State.setNotices_stage (n : Notices) : (s.setNotices n).stage = s.stage := rfl
@[simp] theorem State.setNotices_pending (n : Notices) : (s.setNotices n).pending = s.pending := rfl
@[simp] theorem State.setNotices_resetHeld (n : Notices) :
    (s.setNotices n).resetHeld = s.resetHeld := rfl
@[simp] theorem State.modPort_rct (p : Port) (f : PortState → PortState) :
    (s.modPort p f).rct = s.rct := rfl
@[simp] theorem State.modPort_sin (p : Port) (f : PortState → PortState) :
    (s.modPort p f).sin = s.sin := rfl
@[simp] theorem State.modPort_stu (p : Port) (f : PortState → PortState) :
    (s.modPort p f).stu = s.stu := rfl
@[simp] theorem State.modPort_plu (p : Port) (f : PortState → PortState) :
    (s.modPort p f).plu = s.plu := rfl
@[simp] theorem State.modPort_pju (p : Port) (f : PortState → PortState) :
    (s.modPort p f).pju = s.pju := rfl
@[simp] theorem State.modPort_znu (p : Port) (f : PortState → PortState) :
    (s.modPort p f).znu = s.znu := rfl
@[simp] theorem State.modPort_out (p : Port) (f : PortState → PortState) :
    (s.modPort p f).out = s.out := rfl
@[simp] theorem State.modPort_mgu (p : Port) (f : PortState → PortState) :
    (s.modPort p f).mgu = s.mgu := rfl
@[simp] theorem State.modPort_stage (p : Port) (f : PortState → PortState) :
    (s.modPort p f).stage = s.stage := rfl
@[simp] theorem State.modPort_pending (p : Port) (f : PortState → PortState) :
    (s.modPort p f).pending = s.pending := rfl
@[simp] theorem State.modPort_resetHeld (p : Port) (f : PortState → PortState) :
    (s.modPort p f).resetHeld = s.resetHeld := rfl
@[simp] theorem State.passTime_tif : (State.passTime s).tif = s.tif := rfl
@[simp] theorem State.passTime_sin : (State.passTime s).sin = s.sin := rfl
@[simp] theorem State.passTime_stu : (State.passTime s).stu = s.stu := rfl
@[simp] theorem State.passTime_plu : (State.passTime s).plu = s.plu := rfl
@[simp] theorem State.passTime_pju : (State.passTime s).pju = s.pju := rfl
@[simp] theorem State.passTime_znu : (State.passTime s).znu = s.znu := rfl
@[simp] theorem State.passTime_out : (State.passTime s).out = s.out := rfl
@[simp] theorem State.passTime_mgu : (State.passTime s).mgu = s.mgu.passTime := rfl
@[simp] theorem State.passTime_rct : (State.passTime s).rct = s.rct.passTime := rfl
@[simp] theorem State.passTime_stage : (State.passTime s).stage = s.stage := rfl
@[simp] theorem State.passTime_pending : (State.passTime s).pending = s.pending := rfl
@[simp] theorem State.passTime_resetHeld :
    (State.passTime s).resetHeld = s.resetHeld := rfl

@[simp] theorem State.setPile_yardRejects (i : Fin 24) (x : Pile) :
    (s.setPile i x).plu.yardRejects = s.plu.yardRejects := rfl
@[simp] theorem State.mapPiles_yardRejects (f : Fin 24 → Pile → Pile) :
    (s.mapPiles f).plu.yardRejects = s.plu.yardRejects := by
  rw [State.mapPiles, State.setPlu_plu]
@[simp] theorem State.setZone_drillAtClose (i : Fin 32) (x : Zone) :
    (s.setZone i x).znu.drillAtClose = s.znu.drillAtClose := rfl
@[simp] theorem State.mapZones_drillAtClose (f : Fin 32 → Zone → Zone) :
    (s.mapZones f).znu.drillAtClose = s.znu.drillAtClose := by
  rw [State.mapZones, State.setZnu_znu]
@[simp] theorem State.setNotices_notices (n : Notices) : (s.setNotices n).mgu.notices = n := rfl
@[simp] theorem State.setNotices_requests (n : Notices) :
    (s.setNotices n).mgu.requests = s.mgu.requests := rfl
@[simp] theorem State.setNotices_executing (n : Notices) :
    (s.setNotices n).mgu.executing = s.mgu.executing := rfl

end Sys2Proof.Machine
end

