-- ==== Sys2Proof/Laws/Tables.lean ====
section
/-! SUPPORT. What the table operations do: reading a record after one is replaced, after all are
mapped, and after a port's state is changed. -/

namespace Sys2Proof.Machine

/-- The replaced record reads as written. -/
@[simp] theorem tableSet_same {α : Type} {n : Nat} (v : Vector α n) (i : Fin n) (x : α) :
    (tableSet v i x)[i.val] = x := by
  simp [tableSet]

/-- Every other record reads as before. -/
theorem tableSet_other {α : Type} {n : Nat} (v : Vector α n) (i j : Fin n) (x : α) (h : j ≠ i) :
    (tableSet v i x)[j] = v[j] := by
  have h' : i.val ≠ j.val := fun e => h (Fin.ext e.symm)
  simp [tableSet, h']

/-- A replaced table, record by record. -/
theorem tableSet_get {α : Type} {n : Nat} (v : Vector α n) (i j : Fin n) (x : α) :
    (tableSet v i x)[j] = if j = i then x else v[j] := by
  by_cases h : j = i
  · subst h; simp
  · simpa [h] using tableSet_other v i j x h

/-- A mapped table, record by record. -/
theorem tableMap_get {α β : Type} {n : Nat} (f : Fin n → α → β) (v : Vector α n)
    (i : Fin n) : (tableMap f v)[i] = f i v[i] := by
  simp [tableMap]

/-- The same, in the form a simplified goal shows. -/
@[simp] theorem tableMap_get_val {α β : Type} {n : Nat} (f : Fin n → α → β) (v : Vector α n)
    (i : Fin n) : (tableMap f v)[i.val] = f i v[i.val] := by
  simp [tableMap]

/-- Two tables that agree at every record are equal. -/
theorem table_ext {α : Type} {n : Nat} {v w : Vector α n} (h : ∀ i : Fin n, v[i] = w[i]) :
    v = w := by
  apply Vector.ext
  intro k hk
  exact h ⟨k, hk⟩

@[simp] theorem mem_indices (n : Nat) (i : Fin n) : i ∈ indices n := List.mem_finRange i

/-! ### Records of a block -/

variable (s : State)

theorem State.station_setStation (i j : Fin 48) (x : Station) :
    (s.setStation i x).station j = if j = i then x else s.station j := tableSet_get _ i j x

theorem State.intake_setIntake (i j : Fin 48) (x : Intake) :
    (s.setIntake i x).intake j = if j = i then x else s.intake j := tableSet_get _ i j x

theorem State.pile_setPile (i j : Fin 24) (x : Pile) :
    (s.setPile i x).pile j = if j = i then x else s.pile j := tableSet_get _ i j x

theorem State.zone_setZone (i j : Fin 32) (x : Zone) :
    (s.setZone i x).zone j = if j = i then x else s.zone j := tableSet_get _ i j x

@[simp] theorem State.station_mapStations (f : Fin 48 → Station → Station) (i : Fin 48) :
    (s.mapStations f).station i = f i (s.station i) := tableMap_get f s.stu i

@[simp] theorem State.intake_mapIntakes (f : Fin 48 → Intake → Intake) (i : Fin 48) :
    (s.mapIntakes f).intake i = f i (s.intake i) := tableMap_get f s.sin i

@[simp] theorem State.pile_mapPiles (f : Fin 24 → Pile → Pile) (i : Fin 24) :
    (s.mapPiles f).pile i = f i (s.pile i) := tableMap_get f s.plu.piles i

@[simp] theorem State.zone_mapZones (f : Fin 32 → Zone → Zone) (z : Fin 32) :
    (s.mapZones f).zone z = f z (s.zone z) := tableMap_get f s.znu.zones z

/-- Records are read from their block alone. -/
theorem State.station_congr {s t : State} (h : t.stu = s.stu) (i : Fin 48) :
    t.station i = s.station i := by simp [State.station, h]

theorem State.intake_congr {s t : State} (h : t.sin = s.sin) (i : Fin 48) :
    t.intake i = s.intake i := by simp [State.intake, h]

theorem State.pile_congr {s t : State} (h : t.plu = s.plu) (i : Fin 24) :
    t.pile i = s.pile i := by simp [State.pile, h]

theorem State.zone_congr {s t : State} (h : t.znu = s.znu) (z : Fin 32) :
    t.zone z = s.zone z := by simp [State.zone, h]

/-! ### Ports -/

@[simp] theorem Tif.port_setPort_same (t : Tif) (p : Port) (x : PortState) :
    (t.setPort p x).port p = x := by cases p <;> rfl

theorem Tif.port_setPort (t : Tif) (p r : Port) (x : PortState) :
    (t.setPort p x).port r = if r = p then x else t.port r := by
  cases p <;> cases r <;> rfl

theorem Tif.port_modPort (t : Tif) (p r : Port) (f : PortState → PortState) :
    (t.modPort p f).port r = if r = p then f (t.port r) else t.port r := by
  cases p <;> cases r <;> rfl

@[simp] theorem Tif.modPort_markSlot (t : Tif) (p : Port) (f : PortState → PortState) :
    (t.modPort p f).markSlot = t.markSlot := by cases p <;> rfl

@[simp] theorem Tif.modPort_strap (t : Tif) (p : Port) (f : PortState → PortState) :
    (t.modPort p f).strap = t.strap := by cases p <;> rfl

/-- Two changes of one port's state are one. -/
theorem Tif.modPort_modPort (t : Tif) (p : Port) (f g : PortState → PortState) :
    (t.modPort p f).modPort p g = t.modPort p fun x => g (f x) := by cases p <;> rfl

end Sys2Proof.Machine
end

