-- ==== Sys2Proof/Laws/Notices.lean ====
section
/-! SUPPORT. What raising an event can do (R172): it changes the notice control and TIF at
most, and nothing else. -/

namespace Sys2Proof.Machine

/-- `t` differs from `s` at most in TIF and the notice control: every other block, and the rest of
MGU, is as it was. -/
structure SameButNotices (s t : State) : Prop where
  pending : t.pending = s.pending
  resetHeld : t.resetHeld = s.resetHeld
  rct : t.rct = s.rct
  sin : t.sin = s.sin
  stu : t.stu = s.stu
  plu : t.plu = s.plu
  pju : t.pju = s.pju
  znu : t.znu = s.znu
  out : t.out = s.out
  stage : t.stage = s.stage
  mgu : t.mgu = { s.mgu with notices := t.mgu.notices }

theorem SameButNotices.refl (s : State) : SameButNotices s s := by
  constructor <;> rfl

theorem SameButNotices.trans {s t u : State} (h : SameButNotices s t) (k : SameButNotices t u) :
    SameButNotices s u := by
  obtain ⟨a1, a2, a3, a4, a5, a6, a7, a8, a9, a10, a11⟩ := h
  obtain ⟨b1, b2, b3, b4, b5, b6, b7, b8, b9, b10, b11⟩ := k
  refine ⟨b1.trans a1, b2.trans a2, b3.trans a3, b4.trans a4, b5.trans a5, b6.trans a6,
    b7.trans a7, b8.trans a8, b9.trans a9, b10.trans a10, ?_⟩
  rw [b11, a11]

theorem sendNotice_same (c : NoticeClass) (r : Report) (s : State) :
    SameButNotices s (sendNotice c r s) := by
  unfold sendNotice
  dsimp only
  split <;> constructor <;> simp [State.setNotices]

theorem setStatus_same (c : NoticeClass) (s : State) :
    SameButNotices s (s.setNotices (s.mgu.notices.setStatus c)) := by
  constructor <;> simp [State.setNotices]

/-- Raising an event changes the notice control and the quay port at most. -/
theorem raise_same (c : NoticeClass) (r : Report) (s : State) :
    SameButNotices s (raise c r s) := by
  unfold raise
  dsimp only
  split
  · split
    · exact setStatus_same c s
    · exact (setStatus_same c s).trans (sendNotice_same c r _)
  · exact SameButNotices.refl s

/-- Raising a disabled class's event does nothing (R172). -/
theorem raise_disabled (c : NoticeClass) (r : Report) (s : State)
    (h : (s.mgu.notices.flags c).enable = false) : raise c r s = s := by
  simp [raise, h]

/-- So does raising a list of them. -/
theorem raiseAll_same (events : List (NoticeClass × Report)) (s : State) :
    SameButNotices s (raiseAll events s) := by
  induction events generalizing s with
  | nil => exact SameButNotices.refl s
  | cons e es ih => exact (raise_same e.1 e.2 s).trans (ih _)

/-- Raising no event changes nothing. -/
@[simp] theorem raiseAll_nil (s : State) : raiseAll [] s = s := rfl

/-- Clearing the tallies changes TIF alone. -/
theorem clearTallies_same (s : State) : SameButNotices s (clearTallies s) := by
  constructor <;> rfl

theorem trunkNotice_same (p : Port) (s : State) : SameButNotices s (trunkNotice p s) := by
  unfold trunkNotice
  have key : ∀ t : State, SameButNotices t (t.modPort p PortState.clearTallies) := by
    intro t; constructor <;> rfl
  dsimp only
  split
  · exact (sendNotice_same _ _ s).trans (key _)
  · exact key s

/-- The TRUNK notices of a close change TIF and the notice control at most. -/
theorem trunkNotices_same (s : State) : SameButNotices s (trunkNotices s) :=
  (trunkNotice_same .field s).trans (trunkNotice_same .quay _)

/-- A trunk error changes TIF and the notice control at most. -/
theorem trunkError_same (p : Port) (e : TrunkError) (s : State) :
    SameButNotices s (trunkError p e s) := by
  unfold trunkError
  dsimp only
  split <;> constructor <;> simp [State.setNotices]

end Sys2Proof.Machine
end

