-- ==== Sys2Proof/Laws/PerInstr.lean ====
section
/-! SUPPORT. One lemma per command: no row of the opcode table has bits, so no word spells it. -/

namespace Sys2Proof.Laws.NoBits

/-- No word of any width spells the command (spec/opcode_table.json gives no row bits). -/
def Statement (i : Instr) : Prop := ∀ nbits w : Nat, decodeTableWord nbits w ≠ some i

theorem no_word (i : Instr) : Statement i := fun _ _ h => nomatch h

theorem powerOnReset :
    Statement .powerOnReset := no_word _

theorem pinReset :
    Statement .pinReset := no_word _

theorem resetRelease (addr : BitVec 3) :
    Statement (.resetRelease addr) := no_word _

theorem strayByte (after : Nat) (port : Port) (rx : Line) :
    Statement (.strayByte after port rx) := no_word _

theorem frameArrival (after : Nat) (port : Port) (bytes : Frame) :
    Statement (.frameArrival after port bytes) := no_word _

theorem sampleArrival (after : Nat) (copy : SampleCopy) :
    Statement (.sampleArrival after copy) := no_word _

theorem yardArrival (copy : YardCopy) :
    Statement (.yardArrival copy) := no_word _

theorem mreqArrival (unit : Fin 4) (env : Envelope) (op : Byte) (table : Byte) (body : Body) :
    Statement (.mreqArrival unit env op table body) := no_word _

theorem frameSent (port : Port) (turns : List Turn) :
    Statement (.frameSent port turns) := no_word _

theorem roundTimerExpiry :
    Statement .roundTimerExpiry := no_word _

theorem closeDeadline :
    Statement .closeDeadline := no_word _

theorem pileVisit :
    Statement .pileVisit := no_word _

theorem projection :
    Statement .projection := no_word _

theorem zoneEvaluation :
    Statement .zoneEvaluation := no_word _

theorem evaluationComplete (turns : List Turn) :
    Statement (.evaluationComplete turns) := no_word _

theorem probeTimerExpiry :
    Statement .probeTimerExpiry := no_word _

theorem panelFrameCapture :
    Statement .panelFrameCapture := no_word _

theorem start (env : Envelope) (body : Body) :
    Statement (.start env body) := no_word _

theorem stop (env : Envelope) (body : Body) :
    Statement (.stop env body) := no_word _

theorem probe (env : Envelope) (body : Body) :
    Statement (.probe env body) := no_word _

theorem swap (env : Envelope) (body : Body) :
    Statement (.swap env body) := no_word _

theorem copy (env : Envelope) (body : Body) :
    Statement (.copy env body) := no_word _

theorem copyComplete : Statement .copyComplete := no_word _

theorem snap (env : Envelope) (body : Body) :
    Statement (.snap env body) := no_word _

theorem admitStation (env : Envelope) (body : Body) :
    Statement (.admitStation env body) := no_word _

theorem relax (env : Envelope) (body : Body) :
    Statement (.relax env body) := no_word _

theorem drill (env : Envelope) (body : Body) :
    Statement (.drill env body) := no_word _

theorem endDrill (env : Envelope) (body : Body) :
    Statement (.endDrill env body) := no_word _

theorem stationConfigWrite (env : Envelope) (body : Body) :
    Statement (.stationConfigWrite env body) := no_word _

theorem pileConfigWrite (env : Envelope) (body : Body) :
    Statement (.pileConfigWrite env body) := no_word _

theorem standbyTableWrite (env : Envelope) (which : StandbyTable) (body : Body) :
    Statement (.standbyTableWrite env which body) := no_word _

theorem lineConfigWrite (env : Envelope) (body : Body) :
    Statement (.lineConfigWrite env body) := no_word _

theorem counterRead (env : Envelope) (unit : Fin 4) (table : Byte) (body : Body) :
    Statement (.counterRead env unit table body) := no_word _

theorem noticeStatusRead (env : Envelope) (data : Word) :
    Statement (.noticeStatusRead env data) := no_word _

theorem tableWrite (env : Envelope) (unit : Fin 4) (table : Byte) (body : Body) :
    Statement (.tableWrite env unit table body) := no_word _

end Sys2Proof.Laws.NoBits
end

