-- ==== Sys2Proof/Laws/Plume.lean ====
section
/-! SUPPORT. The plume table keeps its canonical form under every write, reads back what was
written, and leaves every other index as it was (R110, R112, R126). -/

namespace Sys2Proof.Machine

/-- A canonical list from `k` is one from any smaller bound. -/
theorem plumeWfFrom_mono {j k : Nat} (t : Plume) (hjk : j ≤ k) (h : plumeWfFrom k t = true) :
    plumeWfFrom j t = true := by
  cases t with
  | nil => rfl
  | cons e rest =>
    simp only [plumeWfFrom, Bool.and_eq_true, decide_eq_true_eq] at h ⊢
    exact ⟨⟨⟨by omega, h.1.1.2⟩, h.1.2⟩, h.2⟩

/-- Below its bound a canonical list lists nothing. -/
theorem plumeRead_below {k i : Nat} (t : Plume) (h : plumeWfFrom k t = true) (hi : i < k) :
    plumeRead t i = .cleared := by
  induction t generalizing k with
  | nil => rfl
  | cons e rest ih =>
    simp only [plumeWfFrom, Bool.and_eq_true, decide_eq_true_eq] at h
    have : i ≠ e.1 := by omega
    simp only [plumeRead, this, if_false]
    exact ih h.2 (by omega)

/-- Erasing keeps the canonical form. -/
theorem plumeErase_wf {k : Nat} (t : Plume) (i : Nat) (h : plumeWfFrom k t = true) :
    plumeWfFrom k (plumeErase t i) = true := by
  induction t generalizing k with
  | nil => exact h
  | cons e rest ih =>
    simp only [plumeWfFrom, Bool.and_eq_true, decide_eq_true_eq] at h
    by_cases hi : i = e.1
    · simp only [plumeErase, hi, if_true]
      exact plumeWfFrom_mono _ (by omega) (hi ▸ ih h.2)
    · simp only [plumeErase, hi, if_false, plumeWfFrom, Bool.and_eq_true, decide_eq_true_eq]
      exact ⟨h.1, ih h.2⟩

/-- An erased index reads as the cleared entry, every other as before. -/
theorem plumeRead_erase (t : Plume) (i j : Nat) :
    plumeRead (plumeErase t i) j = if j = i then .cleared else plumeRead t j := by
  induction t with
  | nil => simp [plumeErase, plumeRead]
  | cons e rest ih =>
    by_cases hi : i = e.1
    · simp only [plumeErase, hi, if_true, plumeRead]
      rw [hi] at ih
      rw [ih]
      split <;> simp_all
    · simp only [plumeErase, hi, if_false, plumeRead]
      by_cases hj : j = e.1
      · have : j ≠ i := fun h => hi (h ▸ hj)
        simp [hj, Ne.symm hi]
      · simp [hj, ih]

/-- Putting an entry in where the index is not listed keeps the canonical form. -/
theorem plumeInsert_wf {k i : Nat} (t : Plume) (x : PlumeEntry) (h : plumeWfFrom k t = true)
    (hk : k ≤ i) (hi : i < 1536) (hx : x ≠ .cleared) (hr : plumeRead t i = .cleared) :
    plumeWfFrom k (plumeInsert i x t) = true := by
  induction t generalizing k with
  | nil => simp [plumeInsert, plumeWfFrom, hk, hi, hx]
  | cons e rest ih =>
    simp only [plumeWfFrom, Bool.and_eq_true, decide_eq_true_eq] at h
    obtain ⟨⟨⟨hlo, hhi⟩, hne⟩, hrest⟩ := h
    have hie : i ≠ e.1 := by
      intro he
      subst he
      simp [plumeRead] at hr
      simp [hr] at hne
    simp only [plumeRead, hie, if_false] at hr
    by_cases hlt : i < e.1
    · simp only [plumeInsert, hlt, if_true, plumeWfFrom, Bool.and_eq_true, decide_eq_true_eq]
      exact ⟨⟨⟨hk, hi⟩, by simpa using hx⟩, ⟨⟨by omega, hhi⟩, hne⟩, hrest⟩
    · simp only [plumeInsert, hlt, if_false, plumeWfFrom, Bool.and_eq_true, decide_eq_true_eq]
      exact ⟨⟨⟨hlo, hhi⟩, hne⟩, ih hrest (by omega) hr⟩

/-- An inserted entry is read at its index, every other index as before. -/
theorem plumeRead_insert {k : Nat} (t : Plume) (i j : Nat) (x : PlumeEntry)
    (h : plumeWfFrom k t = true) (hr : plumeRead t i = .cleared) :
    plumeRead (plumeInsert i x t) j = if j = i then x else plumeRead t j := by
  induction t generalizing k with
  | nil => simp [plumeInsert, plumeRead]
  | cons e rest ih =>
    simp only [plumeWfFrom, Bool.and_eq_true, decide_eq_true_eq] at h
    obtain ⟨⟨_, hne⟩, hrest⟩ := h
    have hie : i ≠ e.1 := by
      intro he
      subst he
      simp [plumeRead] at hr
      simp [hr] at hne
    simp only [plumeRead, hie, if_false] at hr
    by_cases hlt : i < e.1
    · simp only [plumeInsert, hlt, if_true, plumeRead]
    · simp only [plumeInsert, hlt, if_false, plumeRead]
      by_cases hj : j = e.1
      · have : j ≠ i := fun he => hie (he ▸ hj)
        simp [hj, Ne.symm hie]
      · simp [hj, ih hrest hr]

/-- A write keeps the canonical form. -/
theorem plumeWrite_wf (t : Plume) (i : Nat) (x : PlumeEntry) (h : plumeWf t = true)
    (hi : i < 1536) : plumeWf (plumeWrite t i x) = true := by
  unfold plumeWrite
  split
  · exact plumeErase_wf t i h
  · next hx =>
    exact plumeInsert_wf _ x (plumeErase_wf t i h) (Nat.zero_le i) hi hx
      (by simp [plumeRead_erase])

/-- A write is read back, and every other index reads as before. -/
theorem plumeRead_write (t : Plume) (i j : Nat) (x : PlumeEntry) (h : plumeWf t = true) :
    plumeRead (plumeWrite t i x) j = if j = i then x else plumeRead t j := by
  unfold plumeWrite
  split
  · next hx => rw [plumeRead_erase, hx]
  · rw [plumeRead_insert _ i j x (plumeErase_wf t i h) (by simp [plumeRead_erase]),
      plumeRead_erase]
    split <;> rfl

/-- The cleared table is canonical. -/
theorem plumeWf_nil : plumeWf [] = true := rfl

end Sys2Proof.Machine
end

