-- ==== Sys2Proof/Laws/Trunk.lean ====
section
/-! SUPPORT. What each operation of TIF can do, once per operation (R11 to R14). -/

namespace Sys2Proof.Machine

/-! ### Selection (R14) -/

/-- A selection that finds the MARK slot full sends the MARK and leaves the port's sources. -/
theorem Tif.select_mark (t : Tif) (p : Port) (m : Frame) (h : t.markFor p = some m) :
    t.select p = ({ t with markSlot := none }).modPort p fun ps =>
      { ps with sending := some m, framesInserted := bump ps.framesInserted } := by
  unfold Tif.select; rw [h]

/-- Otherwise the port chooses between its FIFO and its queue. -/
theorem Tif.select_sources (t : Tif) (p : Port) (h : t.markFor p = none) :
    t.select p = t.modPort p PortState.select := by
  unfold Tif.select; rw [h]

/-- A selection never touches the other port. -/
theorem Tif.select_other (t : Tif) (p r : Port) (h : r ≠ p) :
    (t.select p).port r = t.port r := by
  unfold Tif.select
  split
  · rw [Tif.port_modPort]; simp only [h, if_false]; cases r <;> rfl
  · rw [Tif.port_modPort]; simp [h]

/-- A selection keeps the reservations, the framer and the receive counters of its port. -/
theorem Tif.select_kept (t : Tif) (p : Port) :
    ((t.select p).port p).reserved = (t.port p).reserved ∧
    ((t.select p).port p).framer = (t.port p).framer ∧
    (t.select p).strap = t.strap := by
  unfold Tif.select
  split
  · cases p <;> simp [Tif.modPort, Tif.setPort, Tif.port]
  · have : ∀ ps : PortState, ps.select.reserved = ps.reserved ∧ ps.select.framer = ps.framer := by
      intro ps
      unfold PortState.select
      split
      · split <;> simp [PortState.takeTransit, PortState.takeInsertion]
      all_goals simp [PortState.takeTransit, PortState.takeInsertion]
    rw [Tif.port_modPort]
    simp [this]

/-! ### Offers, reservations, transit (R11, R12) -/

/-- A busy port does not select when a frame becomes available. -/
theorem Tif.wake_busy (t : Tif) (p : Port) (h : (t.port p).sending.isSome) : t.wake p = t := by
  unfold Tif.wake
  simp [Option.isSome_iff_ne_none.mp h]

/-- An idle port selects at once. -/
theorem Tif.wake_idle (t : Tif) (p : Port) (h : (t.port p).sending = none) :
    t.wake p = t.select p := by
  unfold Tif.wake; simp [h]

/-- An offered group is taken whole exactly when the room is at least its size (R12). -/
theorem Tif.offer_spec (t : Tif) (p : Port) (g : List Frame) :
    t.offer p g =
      if g.length ≤ (t.port p).room then
        some ((t.modPort p fun ps => { ps with queue := ps.queue ++ g }).wake p)
      else none := rfl

/-- A reservation and the response that enters its place are one entry into the queue (R12). -/
theorem Tif.enterReserved_reserve (t : Tif) (p : Port) (f : Frame) :
    (t.reserve p).enterReserved p f =
      (t.modPort p fun ps => { ps with queue := ps.queue ++ [f] }).wake p := by
  unfold Tif.reserve Tif.enterReserved
  rw [Tif.modPort_modPort]
  simp

end Sys2Proof.Machine
end

