-- ==== Sys2Proof/Laws/Requests.lean ====
section
/-! SUPPORT. What a management request that MGU takes the moment it arrives does: it is counted,
executed and answered, and nothing else happens; and what MGU's looks do beside OUT's visits (R167 to
R169). -/

namespace Sys2Proof.Machine

/-- The unit of a request addressed to one of the part's units (R7, R166). -/
theorem ownRequest_unit (u : Nat) (hu : u < 4) (op table : Byte) (e : Envelope) (b : Body)
    (s : State) : (ownRequest u op table e b s).unit = u := by
  have h : s.tif.strap.toNat < 8 := s.tif.strap.isLt
  simp only [ownRequest, Request.unit, managementAddress, byteOf, BitVec.toNat_ofNat]
  omega

/-- The port, with one place of its queue reserved, and the request counted as received: the state
a request executes in when it is taken at once. -/
def takenState (p : Port) (s : State) : State :=
  ((received s).setTif (s.tif.reserve p))

/-! ### Looks (R168) -/

/-- A look that finds a head it may take takes it. -/
theorem look_takes (s : State) (r : Request) (rest : List Request)
    (hr : s.mgu.requests = r :: rest) (hc : canTake r s = true) :
    look s = takeRequest r (s.setMgu { s.mgu with requests := rest }) := by
  unfold look; rw [hr]; simp [hc]

/-- A look that finds no head it may take does nothing. -/
theorem look_waits (s : State)
    (h : ∀ r rest, s.mgu.requests = r :: rest → canTake r s = false) : look s = s := by
  unfold look
  split
  · rfl
  · rename_i r rest hr; simp [h r rest hr]

/-- Looks that find no head they may take do nothing. -/
theorem serve_waits (n : Nat) (s : State)
    (h : ∀ r rest, s.mgu.requests = r :: rest → canTake r s = false) : serve n s = s := by
  induction n with
  | zero => rfl
  | succ n ih => rw [serve, look_waits s h, ih]

/-- A look at an empty queue does nothing. -/
theorem look_empty (s : State) (h : s.mgu.requests = []) : look s = s :=
  look_waits s fun r rest hr => by rw [h] at hr; cases hr

/-- Visits that touch no request keep an empty queue empty. -/
theorem visits_empty {visit : State → Fin 32 → State}
    (hv : ∀ s z, (visit s z).mgu.requests = s.mgu.requests) (todo : List (Fin 32)) (s : State)
    (h : s.mgu.requests = []) : (todo.foldl visit s).mgu.requests = [] := by
  induction todo generalizing s with
  | nil => exact h
  | cons z todo ih => exact ih _ ((hv s z).trans h)

/-- With no request waiting, OUT makes its visits whatever the turns say. -/
theorem interleave_empty {visit : State → Fin 32 → State}
    (hv : ∀ s z, (visit s z).mgu.requests = s.mgu.requests) (turns : List Turn) (begun : Bool)
    (todo : List (Fin 32)) (s : State) (h : s.mgu.requests = []) :
    interleave visit turns begun todo s = todo.foldl visit s := by
  induction turns generalizing begun todo s with
  | nil => rfl
  | cons turn turns ih =>
    cases turn with
    | mgu =>
      simp only [interleave, look_empty s h, if_true]
      exact ih begun todo s h
    | out =>
      cases todo with
      | nil => exact ih begun [] s h
      | cons z todo => exact ih true todo (visit s z) ((hv s z).trans h)

/-- With no request waiting, an event that lets OUT and MGU act is OUT's visits alone. -/
theorem contend_empty {visit : State → Fin 32 → State}
    (hv : ∀ s z, (visit s z).mgu.requests = s.mgu.requests) (turns : List Turn)
    (todo : List (Fin 32)) (s : State) (h : s.mgu.requests = []) :
    contend visit turns todo s = todo.foldl visit s := by
  unfold contend
  rw [interleave_empty hv turns false todo s h]
  split
  · rfl
  · exact look_empty _ (visits_empty hv todo s h)

/-- OUT's sign visits touch no request. -/
theorem signVisit_requests (s : State) (z : Fin 32) :
    (signVisit s z).mgu.requests = s.mgu.requests := by
  unfold signVisit
  repeat' (first | rfl | split | dsimp only)

/-- OUT's drain visits touch no request. -/
theorem drainVisit_requests (s : State) (z : Fin 32) :
    (drainVisit s z).mgu.requests = s.mgu.requests := by
  unfold drainVisit
  repeat' (first | rfl | split)

/-- A request arriving at a part that takes it at once is counted and taken, and no other is. -/
theorem ask_takes (u : Nat) (op table : Byte) (e : Envelope) (b : Body) (s : State)
    (h : TakesAtOnce e.port s) :
    ask u op table e b s = takeRequest (ownRequest u op table e b s) (received s) := by
  obtain ⟨-, hw, hx, hp, hroom⟩ := h
  have hrec :
      s.setMgu { s.mgu with requests := [], received := bump s.mgu.received } = received s := by
    rw [← hw]; rfl
  have htake : canTake (ownRequest u op table e b s)
      (s.setMgu { s.mgu with
        requests := [ownRequest u op table e b s], received := bump s.mgu.received }) = true := by
    simp only [canTake, State.setMgu_mgu, State.setMgu_rct, State.setMgu_tif, hx]
    simp [ownRequest, hp, hroom]
  unfold ask requestArrives
  dsimp only
  rw [hw, List.length_nil, if_pos (by decide), List.nil_append]
  unfold serveQueue
  rw [State.setMgu_mgu]
  simp only [List.length_singleton, serve]
  rw [look_takes _ _ _ rfl htake, State.setMgu_mgu, State.setMgu_twice, hrec]

/-- A request that is not an accepted COPY, arriving at a part that takes it at once, is executed
and answered. -/
theorem ask_taken (u : Nat) (op table : Byte) (e : Envelope) (b : Body) (s : State)
    (h : TakesAtOnce e.port s)
    (hc : ((ownRequest u op table e b s).isCopy && !s.pju.swapPending) = false) :
    ask u op table e b s =
      respond (ownRequest u op table e b s)
        (runRequest (ownRequest u op table e b s) (takenState e.port s)).2
        (runRequest (ownRequest u op table e b s) (takenState e.port s)).1 := by
  rw [ask_takes u op table e b s h]
  have hc' : ((ownRequest u op table e b s).isCopy &&
      !((received s).setTif (s.tif.reserve e.port)).pju.swapPending) = false := hc
  unfold takeRequest
  dsimp only
  have hstate : (received s).setTif ((received s).tif.reserve (ownRequest u op table e b s).port)
      = takenState e.port s := rfl
  rw [hstate, if_neg]
  unfold takenState
  rw [hc']
  exact Bool.false_ne_true

/-- An accepted COPY, arriving at a part that takes it at once, is in execution. -/
theorem ask_copy (e : Envelope) (b : Body) (s : State) (h : TakesAtOnce e.port s)
    (hs : s.pju.swapPending = false) :
    ask 0 3 5 e b s =
      (takenState e.port s).setMgu
        { (received s).mgu with
          executing := some (ownRequest 0 3 5 e b s), copyTimer := some 0 } := by
  have hcopy : (ownRequest 0 3 5 e b s).isCopy = true := by
    unfold Request.isCopy
    rw [ownRequest_unit 0 (by decide)]
    rfl
  rw [ask_takes 0 3 5 e b s h]
  have hc' : ((ownRequest 0 3 5 e b s).isCopy &&
      !((received s).setTif
        ((received s).tif.reserve (ownRequest 0 3 5 e b s).port)).pju.swapPending) = true := by
    rw [hcopy, State.setTif_pju]
    simp [received, hs]
  unfold takeRequest
  dsimp only
  rw [if_pos hc']
  rfl

/-- The response to a request taken at once, when its execution left TIF and the round number as
they were. -/
theorem respond_taken (u : Nat) (op table : Byte) (e : Envelope) (b : Body) (a : Reply)
    (s t : State) (htif : t.tif = s.tif.reserve e.port)
    (hrct : t.rct.roundNumber = s.rct.roundNumber) :
    respond (ownRequest u op table e b s) a t = t.setTif (answeredTif u e a s) := by
  unfold respond answeredTif
  rw [htif, hrct]
  simp only [ownRequest, responseTo]
  rw [Tif.enterReserved_reserve]

end Sys2Proof.Machine
end

