-- ==== Sys2Proof/Laws/Time.lean ====
section
/-! SUPPORT. What the passing of time does: nothing in no time, and a count of the running timers
where nothing is due (R23, R29, R34, R119, R168). -/

namespace Sys2Proof.Machine

/-- Where no time passes nothing happens. -/
@[simp] theorem State.elapse_zero (s : State) : s.elapse 0 = s := rfl

/-- A millisecond passes once what is due has happened. -/
theorem State.elapse_succ (n : Nat) (s : State) :
    s.elapse (n + 1) = (settle s).passTime.elapse n := rfl

/-- A close deadline that has not come, or of a round that is not OPEN, changes nothing. -/
theorem deadlineFalls_early (s : State)
    (h : ¬ (s.rct.opState = .run ∧ s.rct.phase = .opened ∧
      reached s.rct.deadlineMs s.rct.roundTimer = true)) : deadlineFalls s = s := if_neg h

/-- An expiry of the round timer that has not come changes nothing. -/
theorem timerExpires_early (s : State)
    (h : ¬ (s.rct.opState = .run ∧ s.rct.phase = .closed ∧
      reached s.rct.periodMs s.rct.roundTimer = true)) : timerExpires s = s := if_neg h

/-- An expiry of the probe timer that has not come changes nothing. -/
theorem probeExpires_early (s : State)
    (h : ¬ (s.rct.probing = true ∧ reached s.rct.periodMs s.rct.probeTimer = true)) :
    probeExpires s = s := if_neg h

/-- A round evaluation whose 100 ms have not passed is not completed by time. -/
theorem evaluationOverdue_early (s : State)
    (h : ¬ (s.rct.phase = .evaluating ∧
      reached Config.closeReserveMs s.rct.closeTimer = true)) : evaluationOverdue s = s := if_neg h

/-- A COPY whose 2 ms have not passed is not ended by time. -/
theorem copyOverdue_early (s : State)
    (h : ¬ (s.mgu.executing.isSome = true ∧
      reached Config.copyTimeMs s.mgu.copyTimer = true)) : copyOverdue s = s := if_neg h

/-- Where no request may be taken and no timer has come to its end, nothing is due. -/
theorem settle_quiet (s : State)
    (hr : ∀ r rest, s.mgu.requests = r :: rest → canTake r s = false)
    (hc : ¬ (s.mgu.executing.isSome = true ∧ reached Config.copyTimeMs s.mgu.copyTimer = true))
    (hd : ¬ (s.rct.opState = .run ∧ s.rct.phase = .opened ∧
      reached s.rct.deadlineMs s.rct.roundTimer = true))
    (he : ¬ (s.rct.phase = .evaluating ∧
      reached Config.closeReserveMs s.rct.closeTimer = true))
    (ht : ¬ (s.rct.opState = .run ∧ s.rct.phase = .closed ∧
      reached s.rct.periodMs s.rct.roundTimer = true))
    (hp : ¬ (s.rct.probing = true ∧ reached s.rct.periodMs s.rct.probeTimer = true)) :
    settle s = s := by
  have hs : serveQueue s = s := serve_waits _ s hr
  rw [settle, hs, copyOverdue_early s hc, deadlineFalls_early s hd, evaluationOverdue_early s he,
    timerExpires_early s ht, probeExpires_early s hp, hs]

/-- There is no event of the round evaluation after its end. -/
theorem evaluationStep_idle (s : State) (h : s.stage = .idle) : evaluationStep s = s := by
  unfold evaluationStep; rw [h]

/-- Events after the end of an evaluation change nothing. -/
theorem evaluationSteps_idle (n : Nat) (s : State) (h : s.stage = .idle) :
    evaluationSteps n s = s := by
  induction n with
  | zero => rfl
  | succ n ih => rw [evaluationSteps, evaluationStep_idle s h, ih]

end Sys2Proof.Machine
end

