-- ==== Sys2Proof/Tests/Slice0.lean ====
section
/-! SUPPORT. Tests on small states: what WellFormed refuses, one or two steps for each command with
results worked out from the manual, and for each statement with hypotheses a state and operands that
meet them, clause by clause, at the ends of their ranges. -/

namespace Sys2Proof.Tests

-- One theorem at a time: the evaluations below need little memory one by one, and much side by side.
set_option Elab.async false

open Sys2Proof.Machine

/-! ### States -/

/-- A frame that a port is sending, or that waits. -/
def filler : Frame := [0xA6, 0x3D, 0x77, 1]

/-- The part released with strap 5, in CONFIG, nothing configured. -/
def idle : State :=
  { State.reset with
    resetHeld := none
    tif := { State.reset.tif with strap := 5 }
    out := { State.reset.out with panel := some 0 } }

/-- A zone record with rising thresholds 3, 5 and 8 that requires confirmation by station 4. -/
def zoneRecord : ZoneCfg :=
  { ZoneCfg.cleared with
    enable := true, watch := 3, warn := 5, alert := 8, watchHold := 2, warnHold := 2
    alertHold := 2, rUp := 16, rDown := 8, confirmRequired := true, confirm1 := some 4
    relaxAllowed := true, sign1 := some 70 }

/-- A bank with zone `z` enabled, fed by pile 2 along sector 4. -/
def bankOf (z : Fin 32) : Bank :=
  { plume := [(144, { zone := z, lag := 0, weight := 8 })]
    zones := tableSet Bank.cleared.zones z zoneRecord, valid := true }

/-- An ANEMO station in service. -/
def anemo : Station :=
  { Station.cleared with
    cfg := { StationCfg.default with kind := .anemo, enable := true }
    health := { HealthRecord.cleared with state := .unseen } }

/-- A DUST station in service. -/
def dust : Station :=
  { Station.cleared with
    cfg := { StationCfg.default with kind := .dust, enable := true }
    health := { HealthRecord.cleared with state := .unseen } }

/-- An enabled pile of weight 9 with primary 3 and no fallback. -/
def pileRecord : Pile :=
  { cfg := { enable := true, weight := 9, primary := 3, fallback := none }, dyn := .cleared }

/-- CONFIG with head 3, monitor 4, pile 2, and zone 1 in the active and zone 6 in the standby bank. -/
def config : State :=
  { idle with
    stu := tableSet (tableSet idle.stu 3 anemo) 4 dust
    plu := { idle.plu with piles := tableSet idle.plu.piles 2 pileRecord }
    pju :=
      { bank0 := bankOf 1, bank1 := bankOf 6, activeIs1 := false, swapPending := false
        feeders := feederMasks (bankOf 1).plume, contributions := [] } }

/-- A configured part in RUN, round 1 open. -/
def running : State :=
  { config with
    rct :=
      { config.rct with
        opState := .run, phase := .opened, roundTimer := some 0, roundNumber := 1
        clockRuns := true }
    out := { config.out with svc := false } }

/-- RUN at a stage of the round evaluation. -/
def evaluating (stage : EvalStage) : State :=
  { running with
    rct := { running.rct with phase := .evaluating, closeTimer := some 0 }, stage := stage }

/-- `n` ms have passed since the opening of the round. -/
def sinceOpening (n : Nat) (s : State) : State :=
  s.setRct { s.rct with clock := n, roundTimer := some n }

/-- A round OPEN at its close deadline: 900 ms after its opening with P at 20 (R23). -/
def atDeadline (s : State) : State := sinceOpening 900 s

/-- RUN after the evaluation, with the round timer at its expiry: 1000 ms with P at 20 (R23). -/
def atExpiry (s : State) : State :=
  sinceOpening 1000 (s.setRct { s.rct with phase := .closed })

/-- `n` ms have passed since the PROBE. -/
def sinceProbe (n : Nat) (s : State) : State :=
  s.setRct
    { s.rct with probing := true, probeTimer := some n, clockRuns := true, clock := n }

/-- A request that arrived on the quay port. -/
def env : Envelope := { port := .quay, source := 200, tag := 7 }

/-- A request body. -/
def body (index : Word) (field : Byte) (data : Word) : Body :=
  { index := index, field := field, data := data }

/-- A body that a command does not read. -/
def noBody : Body := body 0 0 0

/-- Both ports are sending a frame. -/
def busy (s : State) : State :=
  (s.modPort .field fun p => { p with sending := some filler }).modPort .quay fun p =>
    { p with sending := some filler }

/-- The part with class `c` alone sending notices. -/
def enables (c : NoticeClass) (s : State) : State :=
  s.setNotices (s.mgu.notices.setFlags c { enable := true, mask := false, status := false })

/-- A part in which class `c` alone sends notices, with the quay port sending. -/
def speaks (c : NoticeClass) (s : State) : State := enables c (busy s)

/-- The field insertion queue holds `n` frames. -/
def fieldHolds (n : Nat) (s : State) : State :=
  s.modPort .field fun p => { p with queue := List.replicate n filler }

/-- Station `i` with its slot changed. -/
def onStation (i : Fin 48) (f : Station → Station) (s : State) : State :=
  s.setStation i (f (s.station i))

/-- Station `i` in a health state. -/
def inHealth (i : Fin 48) (h : Health) : State → State :=
  onStation i fun st => { st with health := { st.health with state := h } }

/-- Station `i` has a reading. -/
def hasReading (i : Fin 48) (r : Reading) (s : State) : State :=
  s.setIntake i { s.intake i with reading := some r }

/-- What a command answers, as a state; the state after reset where it answers none. -/
def after (c : Instr) (s : State) : State :=
  match exec c s with
  | .next t => t
  | .fault _ | .refused _ => State.reset

/-- The last frame of the quay insertion queue, or the frame being sent on the quay port. -/
def quayResponse (s : State) : Frame :=
  (s.tif.quayPort.queue.getLast?).getD (s.tif.quayPort.sending.getD [])

/-- The status and the data of that frame. -/
def statusData (s : State) : Byte × Word :=
  (payloadByte (quayResponse s) 1, payloadWord (quayResponse s) 6)

/-- A request on a port is taken at once, from conditions that can be decided. -/
theorem takes (p : Port) (s : State)
    (h : s.resetHeld = none ∧ s.mgu.requests = [] ∧ s.mgu.executing = none ∧
      s.rct.phase ≠ .evaluating ∧ 1 ≤ (s.tif.port p).room) : TakesAtOnce p s :=
  ⟨h.1, h.2.1, h.2.2.1, h.2.2.2.1, h.2.2.2.2⟩

/-! ### WellFormed refuses -/

theorem test_wf_short_unknown_frame :
    (Instr.frameArrival 0 .field [0xA6, 0x3D]).wellFormed = false := by decide

theorem test_wf_frame_without_sync :
    (Instr.frameArrival 0 .field [0xA6, 0xA6, 0x11]).wellFormed = false := by decide

theorem test_wf_counter_read_of_a_flag :
    (Instr.counterRead env 0 2 (body 0 12 0)).wellFormed = false := by decide

theorem test_wf_line_write_to_the_refresh_period :
    (Instr.lineConfigWrite env (body 8 0 3)).wellFormed = false := by decide

theorem test_wf_table_write_to_a_station :
    (Instr.tableWrite env 1 0 (body 3 0 1)).wellFormed = false := by decide

theorem test_wf_table_write_to_the_refresh_period :
    (Instr.tableWrite env 3 3 (body 8 0 3)).wellFormed = true := by decide

/-! ### Frames and arithmetic (the manual's own figures) -/

/-- R6: the nine bytes "123456789" give 0x29B1. -/
theorem test_crc_check_value :
    crc16 [0x31, 0x32, 0x33, 0x34, 0x35, 0x36, 0x37, 0x38, 0x39] = 0x29B1 := by
  decide +kernel

/-- R63: A = B = 1023 under SKEW_PLUS give v = 1446, clipped to 1023. -/
theorem test_rotation_clips : rotate .skewPlus 1023 1023 = (0, 1023) := by decide

/-- R64: the largest speed index is 1406. -/
theorem test_speed_index_top : speedIndex 1023 (-1023) = 1406 := by decide

/-- R65: with a calm threshold of 0 no motion is step 2. -/
theorem test_sector_of_no_motion : computedSector 0 0 0 = .dir 2 := by decide

/-- R104: a wet, worked, unshielded pile of weight 15 has e = 7. -/
theorem test_emission_of_a_wet_worked_pile :
    emissionFactor 15 { PileDyn.cleared with activity := .working, wet := 1 } = 7 := by decide

/-! ### Commands -/

theorem test_power_on_reset_forgets :
    after .powerOnReset (inHealth 3 .retired config) = State.reset := by decide +kernel

theorem test_pin_reset_keeps_three_faults :
    ((after .pinReset (onStation 3 (fun st =>
      { st with health := { st.health with state := .retired, faults := 3 } }) config)).station
        3).health.state = .retired := by decide +kernel

theorem test_release_latches :
    (after (.resetRelease 6) State.reset).tif.strap = 6 ∧
      (after (.resetRelease 6) State.reset).resetHeld = none := by decide +kernel

/-- R3: a byte other than 0x3D and 0xA6 after a held 0xA6 makes two stray bytes. -/
theorem test_stray_bytes :
    (after (.strayByte 0 .field (.byte 0x10))
      (after (.strayByte 0 .field (.byte 0xA6)) idle)).tif.fieldPort.strayBytes = 2 := by
  decide +kernel

/-- R9: a frame of a known class with no sample for SIN is forwarded; the idle quay port sends it.
R6: a short frame of known class is bad. -/
theorem test_mark_is_forwarded :
    (after (.frameArrival 0 .field (markFrame 2 1 20 false 0)) idle).tif.quayPort.sending =
        some (markFrame 2 1 20 false 0) ∧
      (after (.frameArrival 0 .quay [0xA6, 0x3D, 0x11, 1]) idle).tif.quayPort.crcErrors = 1 := by
  decide +kernel

/-- A part in RUN whose quay port is idle with last-taken mark `mark`, and whose round the reading of
monitor 4 completes, with a TRUNK notice to send at the close. -/
def closing (mark : Source) : State :=
  let s : State :=
    { running with
      rct := { running.rct with expected := [4], outstanding := 1 }
      tif := { running.tif with quayPort := { PortState.cleared with lastTaken := mark } } }
  enables .trunk (s.modPort .field fun p => { p with crcTally := 2 })

/-- The SAMPLE frame with that reading. -/
def lastSample : Instr := .frameArrival 0 .field (buildFrame .sample 0 4 1 [0, 0, 0, 9])

/-- R3: the 0xA6 of a frame makes a held 0xA6 a stray byte. R5: the sync pattern of a frame ends the
unknown-class frame before it. R14: of a SAMPLE and the notice of the close it makes, an idle quay
port that last took transit sends the notice, and one that last took insertion the SAMPLE. -/
theorem test_frame_meets_its_port :
    let held := fun (f : Framer) => idle.modPort .field fun p => { p with framer := f }
    let frame := Instr.frameArrival 0 .field (markFrame 2 1 20 false 0)
    (after frame (held .sawA6)).tif.fieldPort.strayBytes = 1 ∧
      (after frame (held (.unknown filler false))).tif.fieldPort.unexamined = 1 ∧
      (after frame (held (.unknown filler false))).tif.quayPort.sending = some filler ∧
      (after lastSample (closing .transit)).tif.quayPort.sending =
        some (noticeFrame 5 1 6 0 2 0 0) ∧
      (after lastSample (closing .insertion)).tif.quayPort.queue =
        [noticeFrame 5 1 6 0 2 0 0] := by decide +kernel

/-- R47: 16-bit 200 at scale 0 is the dust value 200, and R52 reports it. -/
theorem test_dust_sample_is_read :
    ((after (.sampleArrival 5
      { station := 4, round := 1, channel := 0, flags := 0, value := 200 }) running).intake
        4).reading = some (.dust 200) := by decide +kernel

/-- R43: a TEST sample with no drill running is dropped. -/
theorem test_test_sample_is_dropped :
    ((after (.sampleArrival 5
      { station := 4, round := 1, channel := 0, flags := 1, value := 200 }) running).intake
        4).testDropped = 1 := by decide +kernel

theorem test_yard_spray :
    ((after (.yardArrival { pile := 2, event := 3, duration := 40 }) config).pile 2).dyn.wet =
      40 := by decide +kernel

theorem test_yard_disabled_pile_is_rejected :
    (after (.yardArrival { pile := 9, event := 1, duration := 0 }) config).plu.yardRejects =
      1 := by decide +kernel

/-- R169: an op outside READ, WRITE and COMMAND is BADVALUE, code 3. -/
theorem test_unknown_op :
    statusData (after (.mreqArrival 2 env 9 0 noBody) idle) = (3, 0) := by decide +kernel

/-- R177: the vendor code. -/
theorem test_identity_read :
    statusData (after (.mreqArrival 0 env 1 4 noBody) idle) = (0, 0x2E41) := by decide +kernel

/-- R14: with both sources holding a frame and the mark at INSERTION the transit frame goes. -/
theorem test_transit_goes_after_insertion :
    (after (.frameSent .field []) ((busy idle).modPort .field fun p =>
      { p with transit := [[1]], queue := [[2]] })).tif.fieldPort.sending = some [1] := by
  decide +kernel

/-- R168, Head-of-Line Waiting: a SIGN leaves the full field queue, Q1 is taken, the round closes,
and Q2 waits behind it although the quay queue has room. -/
theorem test_head_of_line_waiting :
    let q1 := ownRequest 0 1 0 { port := .field, source := 200, tag := 1 } noBody running
    let q2 := ownRequest 0 3 4 env noBody running
    let s := atDeadline (withRequests [q1, q2] (fieldHolds 16 (busy running)))
    (after (.frameSent .field []) s).mgu.requests = [q2] ∧
      (after .closeDeadline (after (.frameSent .field []) s)).mgu.requests = [q2] := by
  decide +kernel

/-- R26: RoundMax 4 wraps to 1. -/
theorem test_round_number_wraps :
    (after .roundTimerExpiry (atExpiry
      { running with rct := { running.rct with roundNumber := 4 } })).rct.roundNumber = 1 := by
  decide +kernel

/-- R23: with P at 20 the deadline is 900 ms and the expiry 1000 ms after the opening; the commands
that say so do nothing one millisecond before. -/
theorem test_events_are_not_early :
    after .closeDeadline (sinceOpening 899 running) = sinceOpening 899 running ∧
      (after .closeDeadline (sinceOpening 900 running)).rct.phase = .evaluating ∧
      (let s := (atExpiry running).setRct { (atExpiry running).rct with roundTimer := some 999 }
       after .roundTimerExpiry s = s) ∧
      after .probeTimerExpiry (sinceProbe 999 config) = sinceProbe 999 config := by
  decide +kernel

/-- R23: as time passes the round closes at 900 ms, the evaluation is over 100 ms after the close, and
the round timer expires at 1000 ms; a probe ends after 1000 ms (R34). -/
theorem test_time_brings_the_events :
    ((sinceOpening 899 running).elapse 1).rct.phase = .opened ∧
      ((sinceOpening 899 running).elapse 2).rct.closeTimer = some 1 ∧
      (let late := (evaluating .projecting).setRct
        { (evaluating .projecting).rct with
          clock := 500, roundTimer := some 500, closeTimer := some 100 }
       (late.elapse 1).rct.phase = .closed ∧ (late.elapse 1).stage = .idle ∧
        (late.elapse 1).rct.roundTimer = some 501) ∧
      ((atExpiry running).elapse 1).rct.roundNumber = 2 ∧
      ((atExpiry running).elapse 1).rct.roundTimer = some 1 ∧
      ((sinceProbe 999 config).elapse 1).rct.probing = true ∧
      ((sinceProbe 999 config).elapse 2).rct.probing = false := by decide +kernel

/-- R119: a COPY is done at the latest when 2 ms have passed. -/
theorem test_copy_ends_in_time :
    ((after (.copy env noBody) config).elapse 2).mgu.executing.isSome = true ∧
      ((after (.copy env noBody) config).elapse 3).pju.bank1 = bankOf 1 := by decide +kernel

/-- R82: the first reading of a monitor makes it HEALTHY with a level of its reading. -/
theorem test_close_seeds_a_monitor :
    let t := after .closeDeadline (hasReading 4 (.dust 300) (atDeadline running))
    (t.station 4).health.state = .healthy ∧ (t.station 4).comp.dustLevel = 300 := by
  decide +kernel

/-- R102: eight rounds without a healthy head make a pile BLIND. -/
theorem test_pile_goes_blind :
    ((after .pileVisit
      { evaluating (.piles 2) with
        rct := { (evaluating (.piles 2)).rct with roundsSinceStart := 8 } }).pile
      2).dyn.source = .blind := by decide +kernel

/-- R123: 65 at 8 eighths posts 65 into the slot of lag 0. -/
theorem test_projection_posts :
    ((after .projection
      { evaluating .projecting with
        pju :=
          { running.pju with
            contributions := [{ pile := 2, sector := 4, amount := 65 }] } }).zone
      1).arrivals[0]'(by decide) = 65 := by decide +kernel

/-- R130, R132, R133: an arrival of 6 at r_up 16 gives exposure 6 and the level WARN. -/
theorem test_zone_rises_to_warn :
    let s := (evaluating (.zones 1)).setZone 1
      { Zone.cleared with arrivals := tableSet Zone.cleared.arrivals 0 6 }
    ((after .zoneEvaluation s).zone 1).level = .warn ∧
      ((after .zoneEvaluation s).zone 1).hold = 2 := by decide +kernel

/-- R156: at the pass of round 1 a refresh countdown of 1 makes a zone due. -/
theorem test_sign_goes_out_at_completion :
    (after (.evaluationComplete []) (evaluating .done)).tif.fieldPort.sending =
      some (signFrame 5 70 1 1 0 false false false) := by decide +kernel

/-- R156: a DRILL of zone 1 taken before OUT's visit to it is in the SIGN the pass sends. -/
theorem test_drill_before_the_visit :
    let s := withRequests [ownRequest 3 3 2 env (body 9 0 2) running] (evaluating .done)
    (after (.evaluationComplete [.mgu]) s).tif.fieldPort.sending =
        some (signFrame 5 70 1 1 0 true false false) ∧
      (after (.evaluationComplete [.out]) s).tif.fieldPort.sending =
        some (signFrame 5 70 1 1 0 false false false) := by decide +kernel

theorem test_probe_ends :
    (after .probeTimerExpiry (sinceProbe 1000 config)).rct.probing = false := by decide +kernel

/-- R163, R184: a degraded zone 0 displaying WATCH puts bits 1 and 3. -/
theorem test_panel_shows_zone_zero :
    (after .panelFrameCapture (running.setZone 0
      { Zone.cleared with degraded := true, effective := .watch })).out.panel =
      some 0b1010 := by decide +kernel

theorem test_start_enters_run :
    (after (.start env noBody) config).rct.opState = .run ∧
      statusData (after (.start env noBody) config) = (0, 0) := by decide +kernel

theorem test_start_refuses_a_dust_primary :
    statusData (after (.start env noBody) (onStation 3 (fun _ => dust) config)) = (3, 2) := by
  decide +kernel

theorem test_stop_returns_to_config :
    (after (.stop env noBody) running).rct.opState = .config ∧
      (after (.stop env noBody) running).tif.fieldPort.sending =
        some (signFrame 5 70 0 1 0 false false true) := by decide +kernel

theorem test_probe_starts :
    (after (.probe env noBody) config).tif.fieldPort.sending =
      some (markFrame 5 0 20 true 0) := by decide +kernel

theorem test_swap_exchanges_in_config :
    (after (.swap env noBody) config).pju.activeIs1 = true ∧
      statusData (after (.swap env noBody) config) = (0, 1) := by decide +kernel

theorem test_copy_copies_at_completion :
    (after .copyComplete (after (.copy env noBody) config)).pju.bank1 = bankOf 1 := by
  decide +kernel

theorem test_snap_in_config_is_refused :
    statusData (after (.snap env noBody) config) = (4, 0) := by decide +kernel

/-- R90: an ADMIT of a RETIRED station in service leaves it UNSEEN, code 1. -/
theorem test_admit_retired :
    statusData (after (.admitStation env (body 3 0 0)) (inHealth 3 .retired running)) = (0, 1) := by
  decide +kernel

theorem test_relax_lowers_a_hold :
    statusData (after (.relax env (body 1 0 0)) (running.setZone 1
      { Zone.cleared with level := .alert, effective := .alert, hold := 9 })) = (0, 2) := by
  decide +kernel

/-- R148: a duration of 0 is used as 1 and answered CLAMPED; zone 1 is bit 1. -/
theorem test_drill_clamps :
    statusData (after (.drill env (body 0 0 0xFFFF)) running) = (1, 2) := by decide +kernel

/-- R148: a duration of 256 is used as 255, and the notice of R149 enters the quay queue before the
response. -/
theorem test_drill_reports_before_it_answers :
    let t := after (.drill env (body 256 0 2)) (speaks .drill running)
    t.tif.quayPort.queue.map (fun f => frameByte f 2) =
        [FrameClass.notice.code, FrameClass.mrsp.code] ∧
      statusData t = (1, 2) ∧ (t.zone 1).drillTimer = 255 := by decide +kernel

/-- R14, R149: an idle quay port sends the notice of a DRILL at once, and the response waits behind it;
without a notice it sends the response at once. -/
theorem test_idle_port_sends_at_once :
    let t := after (.drill env (body 9 0 2)) (enables .drill running)
    t.tif.quayPort.sending.map (fun f => frameByte f 2) = some FrameClass.notice.code ∧
      t.tif.quayPort.queue.map (fun f => frameByte f 2) = [FrameClass.mrsp.code] ∧
      ((after (.drill env (body 9 0 2)) running).tif.quayPort.sending.map fun f =>
        frameByte f 2) = some FrameClass.mrsp.code := by decide +kernel

theorem test_end_drill_leaves_two :
    ((after (.endDrill env (body 0 0 2)) (running.setZone 1
      { Zone.cleared with drillTimer := 200 })).zone 1).drillTimer = 2 := by decide +kernel

/-- R62: a write of 2 to the gust coefficient stores 3. -/
theorem test_station_write_clamps :
    statusData (after (.stationConfigWrite env (body 3 9 2)) config) = (1, 3) := by
  decide +kernel

theorem test_pile_disable_resets :
    ((after (.pileConfigWrite env (body 2 0 0)) (config.setPile 2
      { pileRecord with dyn := { PileDyn.cleared with wet := 5 } })).pile 2).dyn.wet = 0 := by
  decide +kernel

theorem test_plume_write_clears_valid :
    let t := after (.standbyTableWrite env .plume (body 1535 2 9)) config
    (plumeRead t.pju.bank1.plume 1535).weight = 8 ∧ t.pju.bank1.valid = false := by
  decide +kernel

theorem test_zone_write_of_a_station :
    ((after (.standbyTableWrite env .zones (body 31 12 47)) config).pju.bank1.zones[31]'(by
      decide)).confirm3 = some 47 := by decide +kernel

theorem test_line_write_drives_the_line :
    (after (.lineConfigWrite env (body 0 0 2)) (running.setZone 1
      { Zone.cleared with level := .alert, effective := .alert, hold := 1 })).out.wl[0]'(by
        decide) = true := by decide +kernel

theorem test_counter_read_clears :
    let s := idle.modPort .field fun p => { p with crcErrors := 12 }
    statusData (after (.counterRead env 0 1 (body 0 1 0)) s) = (0, 12) ∧
      (after (.counterRead env 0 1 (body 0 1 0)) s).tif.fieldPort.crcErrors = 0 := by
  decide +kernel

theorem test_notice_status_read_clears :
    let n := { Notices.cleared with lostFlag := true }
    let s := { idle with mgu := { idle.mgu with notices := n } }
    statusData (after (.noticeStatusRead env 0) s) = (0, 64) ∧
      (after (.noticeStatusRead env 0) s).mgu.notices.lostFlag = false := by decide +kernel

/-- R19: P of 9 stores 10, CLAMPED. -/
theorem test_round_write_clamps :
    statusData (after (.tableWrite env 0 0 (body 0 0 9)) config) = (1, 10) := by decide +kernel

/-! ### Witnesses: for each statement with hypotheses, states and operands that meet them -/

/-- Good frames of the trunk. -/
def sampleFrame : Frame := buildFrame .sample 244 47 1 [0, 0, 0, 200]
/-- A good SAMPLE frame of a sensor that is no station. -/
def foreignFrame : Frame := buildFrame .sample 244 48 1 [0, 0, 0, 200]
/-- A good YARD frame. -/
def yardFrame : Frame := buildFrame .yard 244 201 1 [2, 3, 0, 40]
/-- A good MREQ for unit 3 at strap 5. -/
def requestFrame : Frame := buildFrame .mreq 247 200 0 [7, 9, 0, 0, 0, 0, 0, 0]
/-- A sample of monitor 4 for round 1. -/
def goodSample : SampleCopy := { station := 4, round := 1, channel := 0, flags := 0, value := 0 }
/-- A sample of head 3 for round 1. -/
def pathSample : SampleCopy := { goodSample with station := 3 }
/-- The transit FIFO of the quay port holds `n` frames. -/
def quayForwards (n : Nat) (s : State) : State :=
  s.modPort .quay fun p => { p with transit := List.replicate n filler }
/-- A framer state at the field port. -/
def framing (f : Framer) : State := idle.modPort .field fun p => { p with framer := f }

/-- A state without a pass of PLU whose rounds are sound, from conditions that can be decided. -/
theorem rounds_sound (s : State)
    (settings : 10 ≤ s.rct.period ∧ s.rct.period ≤ 160 ∧ s.rct.roundMax ≤ 250 ∧
      s.rct.clock ≤ 8191)
    (config : s.rct.opState = .config → NoRound s) (run : s.rct.opState = .run → InRun s)
    (timer : ∀ n, s.rct.roundTimer = some n →
      n ≤ s.rct.period * 50 ∧ (s.rct.phase = .opened → n + 100 ≤ s.rct.period * 50))
    (evaluation : if s.rct.phase = .evaluating then
        ∃ m n, s.rct.closeTimer = some m ∧ s.rct.roundTimer = some n ∧ m ≤ 100 ∧
          n + 100 ≤ s.rct.period * 50 + m
      else s.rct.closeTimer = none)
    (probe : if s.rct.probing = true then
        s.rct.opState = .config ∧ s.rct.clockRuns = true ∧ s.rct.probeTimer = some s.rct.clock ∧
          s.rct.clock ≤ s.rct.period * 50
      else s.rct.probeTimer = none)
    (chain : s.rct.phase = .evaluating ↔ s.stage ≠ .idle)
    (pass : (∀ p, s.stage ≠ .piles p) ∧ s.pju.contributions = []) : RoundsSound s :=
  ⟨⟨settings.1, settings.2.1⟩, settings.2.2.1, settings.2.2.2, config, run, timer, evaluation, probe,
    chain, fun p h => absurd h (pass.1 p), fun _ _ => pass.2⟩

/-- The rounds of a part in RUN after `n` ms, one OPEN at most at its deadline. -/
theorem opened_sound (n : Nat) (h : n ≤ 900) : RoundsSound (sinceOpening n running) :=
  rounds_sound _ ⟨Nat.le_of_ble_eq_true rfl, Nat.le_of_ble_eq_true rfl, Nat.le_of_ble_eq_true rfl, show n ≤ 8191 by omega⟩
    nofun
    (fun _ => ⟨nofun, ⟨rfl, rfl⟩, rfl,
      ⟨nofun, fun _ => ⟨Nat.le_of_ble_eq_true rfl, Nat.le_of_ble_eq_true rfl⟩, nofun⟩⟩)
    (fun m hm => by cases hm; exact ⟨show n ≤ 1000 by omega, fun _ => show n + 100 ≤ 1000 by omega⟩)
    rfl rfl ⟨nofun, fun h => absurd rfl h⟩ ⟨nofun, rfl⟩

/-- The rounds of a part at the expiry of its round timer. -/
theorem expiring_sound : RoundsSound (atExpiry running) :=
  rounds_sound _ (by decide) (fun h => absurd h (by decide))
    (fun _ => ⟨nofun, ⟨rfl, rfl⟩, rfl, ⟨nofun, fun _ => by decide, nofun⟩⟩)
    (fun m hm => by cases hm; exact ⟨by decide, nofun⟩)
    rfl rfl ⟨nofun, fun h => absurd rfl h⟩ ⟨nofun, rfl⟩

/-- An evaluation `m` ms after a close `n` ms after the opening. -/
def sinceClose (m n : Nat) (stage : EvalStage) : State :=
  let s := sinceOpening (n + m) (evaluating stage)
  s.setRct { s.rct with closeTimer := some m }

/-- The rounds of a part at the end of an evaluation's 100 ms. -/
theorem evaluating_sound (m : Nat) (h : m ≤ 100) : RoundsSound (sinceClose m 900 .projecting) :=
  rounds_sound _ ⟨Nat.le_of_ble_eq_true rfl, Nat.le_of_ble_eq_true rfl, Nat.le_of_ble_eq_true rfl, show 900 + m ≤ 8191 by omega⟩
    nofun
    (fun _ => ⟨nofun, ⟨rfl, rfl⟩, rfl,
      ⟨nofun, fun _ => ⟨Nat.le_of_ble_eq_true rfl, Nat.le_of_ble_eq_true rfl⟩, nofun⟩⟩)
    (fun k hk => by cases hk; exact ⟨show 900 + m ≤ 1000 by omega, nofun⟩)
    ⟨m, 900 + m, rfl, rfl, h, show 900 + m + 100 ≤ 1000 + m by omega⟩ rfl
    ⟨fun _ => nofun, fun _ => rfl⟩ ⟨nofun, rfl⟩

/-- The rounds of a part with a probe that has run `n` ms. -/
theorem probing_sound (n : Nat) (h : n ≤ 1000) : RoundsSound (sinceProbe n config) :=
  rounds_sound _ ⟨Nat.le_of_ble_eq_true rfl, Nat.le_of_ble_eq_true rfl, Nat.le_of_ble_eq_true rfl, show n ≤ 8191 by omega⟩
    (fun _ => ⟨rfl, rfl, rfl, rfl, rfl, rfl⟩) nofun
    nofun rfl ⟨rfl, rfl, rfl, show n ≤ 1000 from h⟩ ⟨nofun, fun h => absurd rfl h⟩ ⟨nofun, rfl⟩

/-- A round at its deadline, one at its expiry and a probe at its end. -/
theorem running_atDeadline : AtDeadline (atDeadline running) :=
  ⟨rfl, rfl, rfl, 900, rfl, by decide⟩

theorem running_atExpiry : AtExpiry (atExpiry running) := ⟨rfl, rfl, rfl, 1000, rfl, by decide⟩

theorem config_atProbeEnd : AtProbeEnd (sinceProbe 1000 config) :=
  ⟨rfl, rfl, 1000, rfl, by decide⟩

/-- A COPY in execution for `n` ms. -/
def sinceCopy (n : Nat) : State :=
  let s := after (.copy env noBody) config
  s.setMgu { s.mgu with copyTimer := some n }

theorem copying_atCopyEnd : AtCopyEnd (sinceCopy 2) := ⟨rfl, rfl, 2, rfl, by decide⟩

/-- The rounds of a part with a COPY in execution. -/
theorem copying_sound (n : Nat) : RoundsSound (sinceCopy n) :=
  rounds_sound _ ⟨Nat.le_of_ble_eq_true rfl, Nat.le_of_ble_eq_true rfl, Nat.le_of_ble_eq_true rfl,
      Nat.le_of_ble_eq_true rfl⟩
    (fun _ => ⟨rfl, rfl, rfl, rfl, rfl, rfl⟩) nofun nofun rfl rfl
    ⟨nofun, fun h => absurd rfl h⟩ ⟨nofun, rfl⟩

/-- One millisecond earlier nothing is due. -/
theorem nothing_due (c : Instr) :
    ¬ Due c (sinceOpening 899 running) ∧ ¬ Due c (sinceClose 99 900 .projecting) ∧
      ¬ Due c (sinceProbe 999 config) ∧ ¬ Due c (sinceCopy 1) := by
  refine ⟨?_, ?_, ?_, ?_⟩ <;> rintro (⟨-, h⟩ | ⟨-, ⟨-, h⟩ | ⟨-, h⟩ | ⟨-, h⟩ | h⟩)
  · cases h.executing
  · obtain ⟨n, hn, hl⟩ := h.timer; cases hn; exact absurd hl (by decide)
  · exact absurd h.phase (by decide)
  · exact absurd h.probing (by decide)
  · exact absurd h.phase (by decide)
  · cases h.executing
  · exact absurd h.phase (by decide)
  · exact absurd h.phase (by decide)
  · exact absurd h.probing (by decide)
  · obtain ⟨n, hn, hl⟩ := h.timer; cases hn; exact absurd hl (by decide)
  · cases h.executing
  · exact absurd h.run (by decide)
  · exact absurd h.run (by decide)
  · obtain ⟨n, hn, hl⟩ := h.timer; cases hn; exact absurd hl (by decide)
  · exact absurd h.phase (by decide)
  · obtain ⟨n, hn, hl⟩ := h.timer; cases hn; exact absurd hl (by decide)
  · cases h.run
  · cases h.run
  · cases h.probing
  · cases h.phase

theorem witness_StepRunsTheFrontCommand :
    ({ idle with pending := [.pileVisit] } : State).pending = .pileVisit :: [] ∧
      State.reset.pending = [] ∧ State.reset.resetHeld.isSome = true ∧
      (∀ s, s ∈ [sinceOpening 899 running, sinceClose 99 900 .projecting, sinceProbe 999 config,
          sinceCopy 1] →
        s.pending = [] ∧ s.resetHeld = none ∧ RoundsSound s ∧ s.mgu.requests = [] ∧
          ∀ c, ¬ Due c s) ∧
      (∀ row ∈ [(Instr.closeDeadline, atDeadline running), (.roundTimerExpiry, atExpiry running),
          (.projection, sinceClose 100 900 .projecting),
          (.probeTimerExpiry, sinceProbe 1000 config), (.copyComplete, sinceCopy 2)],
        row.2.pending = [] ∧ row.2.resetHeld = none ∧ RoundsSound row.2 ∧
          row.2.mgu.requests = [] ∧ Due row.1 row.2 ∧
          ∃ t, Sys2Proof.Machine.exec row.1 row.2 = .next t) := by
  refine ⟨rfl, rfl, rfl, ?_, ?_⟩
  · intro s hs
    simp only [List.mem_cons, List.not_mem_nil, or_false] at hs
    rcases hs with rfl | rfl | rfl | rfl
    · exact ⟨rfl, rfl, opened_sound _ (by decide), rfl, fun c => (nothing_due c).1⟩
    · exact ⟨rfl, rfl, evaluating_sound _ (by decide), rfl, fun c => (nothing_due c).2.1⟩
    · exact ⟨rfl, rfl, probing_sound _ (by decide), rfl, fun c => (nothing_due c).2.2.1⟩
    · exact ⟨rfl, rfl, copying_sound _, rfl, fun c => (nothing_due c).2.2.2⟩
  · intro row hr
    simp only [List.mem_cons, List.not_mem_nil, or_false] at hr
    have quiet : ∀ {s : State}, s.mgu.executing = none → ¬ AtCopyEnd s := by
      intro s hs h; have := h.executing; rw [hs] at this; cases this
    rcases hr with rfl | rfl | rfl | rfl | rfl
    · exact ⟨rfl, rfl, opened_sound _ (by decide), rfl, .inr ⟨quiet rfl, .inl ⟨rfl, running_atDeadline⟩⟩,
        _, rfl⟩
    · exact ⟨rfl, rfl, expiring_sound, rfl, .inr ⟨quiet rfl, .inr (.inl ⟨rfl, running_atExpiry⟩)⟩,
        _, rfl⟩
    · exact ⟨rfl, rfl, evaluating_sound _ (by decide), rfl,
        .inr ⟨quiet rfl, .inr (.inr (.inr ⟨rfl, rfl, ⟨100, rfl, by decide⟩, rfl⟩))⟩, _, rfl⟩
    · exact ⟨rfl, rfl, probing_sound _ (by decide), rfl,
        .inr ⟨quiet rfl, .inr (.inr (.inl ⟨rfl, config_atProbeEnd⟩))⟩, _, rfl⟩
    · exact ⟨rfl, rfl, copying_sound _, rfl, .inl ⟨rfl, copying_atCopyEnd⟩, _, rfl⟩

theorem witness_HeldResetHoldsUntilItsRelease :
    State.reset.resetHeld.isSome = true ∧ State.reset.resetHeld = some .powerOn ∧
      (after .pinReset idle).resetHeld = some .pin ∧ idle.resetHeld = none ∧
      Instr.panelFrameCapture ≠ .powerOnReset ∧ Instr.panelFrameCapture ≠ .pinReset ∧
      ∀ a, Instr.panelFrameCapture ≠ .resetRelease a := by
  refine ⟨by decide, by decide, by decide +kernel, by decide, by decide, by decide, ?_⟩
  intro a h; cases h

theorem witness_EveryCommandCompletes :
    Instr.pileVisit ≠ .powerOnReset ∧ Instr.pileVisit ≠ .pinReset ∧
      ∀ a, Instr.pileVisit ≠ .resetRelease a := by
  refine ⟨by decide, by decide, ?_⟩
  intro a h; cases h

theorem witness_ResetValuesOfEveryBlock :
    (Instr.pinReset = .powerOnReset ∨ Instr.pinReset = .pinReset) ∧
      (Instr.powerOnReset = .powerOnReset ∨ Instr.powerOnReset = .pinReset) := by decide

theorem witness_FramerFollowsTheSyncTable :
    (framing .hunt).resetHeld = none ∧ ((framing .hunt).tif.port .field).framer = .hunt ∧
      ((framing .sawA6).tif.port .field).framer = .sawA6 ∧
      ((framing .header).tif.port .field).framer = .header ∧
      (0x3C : Byte) ≠ 0x3D ∧ (0x3C : Byte) ≠ 0xA6 ∧ ∀ c : FrameClass, (0x77 : Byte) ≠ c.code := by
  refine ⟨by decide +kernel, by decide +kernel, by decide +kernel, by decide +kernel, by decide,
    by decide, ?_⟩
  intro c; cases c <;> decide

/-- The bytes a framer holds, for the clauses about a frame in reception. -/
theorem witness_FramerFollowsTheSyncTable_inside :
    let longest := filler ++ List.replicate 59 1
    (framing (.known sampleFrame.dropLast 12)).tif.fieldPort.framer =
        .known sampleFrame.dropLast 12 ∧
      12 ≤ sampleFrame.dropLast.length + 1 ∧ (sampleFrame.take 10).length + 1 < 12 ∧
      (∃ b, arrivable (sampleFrame.dropLast ++ [b]) = true ∧
        frameClass (sampleFrame.dropLast ++ [b]) = some .sample) ∧
      arrivable (sampleFrame.take 3) = true ∧ frameClass (sampleFrame.take 3) = some .sample ∧
      longest.length + 1 = 64 ∧ arrivable (longest ++ [0xA6]) = true ∧
      frameClass (longest ++ [0xA6]) = none ∧ (longest.drop 2).length + 1 < 64 ∧
      (filler ++ List.replicate 58 1 ++ [0xA6]).length < 64 ∧
      arrivable (filler ++ List.replicate 58 1 ++ [0xA6]).dropLast = true ∧
      frameClass (filler ++ List.replicate 58 1 ++ [0xA6]).dropLast = none := by
  refine ⟨by decide +kernel, by decide +kernel, by decide +kernel,
    ⟨0, by decide +kernel, by decide +kernel⟩, ?_⟩
  decide +kernel

theorem witness_KnownFramesAreFramedWhole :
    idle.resetHeld = none ∧ (idle.tif.port .quay).framer.opens = true ∧
      (idle.tif.port .quay).framer ≠ .header ∧
      (Framer.unknown (filler ++ List.replicate 58 1) false).opens = true ∧
      (((framing .sawA6).elapse 9).tif.port .field).framer.opens = true ∧
      (((framing .sawA6).elapse 9).tif.port .field).framer ≠ .header ∧
      arrivable yardFrame = true ∧ frameByte yardFrame 0 = 0xA6 ∧
      frameByte yardFrame 1 = 0x3D ∧ frameByte yardFrame 2 = FrameClass.yard.code ∧
      yardFrame.length = 8 + FrameClass.yard.payloadBytes := by decide +kernel

theorem witness_OriginatedFramesAreGood :
    ([1, 2, 3, 4] : List Byte).length = FrameClass.sign.payloadBytes ∧
      ([1, 2, 3, 4, 5, 6, 7, 8] : List Byte).length = FrameClass.mrsp.payloadBytes ∧
      ([1, 2, 3, 4, 5, 6] : List Byte).length = FrameClass.notice.payloadBytes := by decide

/-- A busy quay port with room for one frame and with none, and one with nothing to send; the TRUNK
class off, and on in RUN. -/
theorem witness_BadFramesAreCountedAndForwarded :
    arrivable yardFrame.dropLast = true ∧
      frameClass yardFrame.dropLast = some .yard ∧ isGood .yard yardFrame.dropLast = false ∧
      (∀ n : Fin 2,
        let u := (busy (quayForwards (7 + n) idle)).elapse 9
        (busy (quayForwards (7 + n) idle)).resetHeld = none ∧
          (u.tif.port .field).framer.between = true ∧
          (u.tif.port (otherPort .field)).transit.length = 7 + n ∧
          (u.tif.port (otherPort .field)).sending.isSome = true ∧
          u.mgu.notices.trunk.enable = false) ∧
      NothingToSend (idle.elapse 9).tif (otherPort .field) ∧
      NothingToSend (idle.elapse 9).tif (otherPort .quay) ∧
      (let u := (speaks .trunk running).elapse 9
       u.mgu.notices.trunk.enable = true ∧ u.rct.opState = .run ∧
        (u.tif.port (otherPort .field)).sending.isSome = true) := by
  refine ⟨by decide +kernel, by decide +kernel, by decide +kernel, by decide +kernel, ?_, ?_,
    by decide +kernel⟩ <;> refine ⟨?_, ?_, ?_, ?_⟩ <;> decide +kernel

theorem witness_TransitFifoTakesOrDrops :
    arrivable filler = true ∧ frameClass filler = none ∧
      arrivable (markFrame 5 1 20 false 0) = true ∧
      frameClass (markFrame 5 1 20 false 0) = some .mark ∧
      isGood .mark (markFrame 5 1 20 false 0) = true ∧
      arrivable sampleFrame = true ∧ isGood .sample sampleFrame = true ∧
      frameClass sampleFrame = some .sample ∧ (frameSource sampleFrame).toNat < 48 ∧
      isGood .sample foreignFrame = true ∧ frameClass foreignFrame = some .sample ∧
      48 ≤ (frameSource foreignFrame).toNat ∧ arrivable foreignFrame = true ∧
      frameClass requestFrame = some .mreq ∧ isGood .mreq requestFrame = true ∧
      (∀ unit : Fin 4, (frameDest requestFrame).toNat ≠ 224 + 4 * (4 : BitVec 3).toNat + unit.val) ∧
      ¬ (frameSource foreignFrame).toNat < 48 ∧
      ((busy (quayForwards 7 idle)).tif.port .field).framer.between = true ∧
      (busy (quayForwards 7 idle)).elapse 0 = busy (quayForwards 7 idle) ∧
      ((busy (quayForwards 7 idle)).tif.port (otherPort .field)).transit.length < 8 ∧
      8 ≤ ((busy (quayForwards 8 idle)).tif.port (otherPort .field)).transit.length ∧
      ((busy (quayForwards 8 idle)).tif.port (otherPort .field)).sending.isSome = true := by
  decide +kernel

/-- Whether a port has nothing to send can be decided. -/
theorem nothingToSend (t : Tif) (p : Port)
    (h : (t.port p).sending = none ∧ (t.port p).transit = [] ∧ (t.port p).queue = [] ∧
      t.markSlot = none) : NothingToSend t p :=
  ⟨h.1, h.2.1, h.2.2.1, fun _ => h.2.2.2⟩

/-- Both ports of a configured part have nothing to send, in CONFIG, in RUN, at every stage of the
evaluation, and where a class of notices is enabled. -/
theorem idle_ports (p : Port) :
    NothingToSend config.tif p ∧ NothingToSend running.tif p ∧
      (∀ stage, NothingToSend (evaluating stage).tif p) ∧
      (∀ c, NothingToSend (enables c running).tif p) ∧
      (∀ c stage, NothingToSend (enables c (evaluating stage)).tif p) := by
  cases p <;>
    refine ⟨nothingToSend _ _ ?_, nothingToSend _ _ ?_, fun _ => nothingToSend _ _ ?_,
      fun _ => nothingToSend _ _ ?_, fun _ _ => nothingToSend _ _ ?_⟩ <;>
    exact ⟨rfl, rfl, rfl, rfl⟩

/-- A station SAMPLE at an idle quay port: one whose copy makes no close, and one whose copy makes a
close with a notice, at either last-taken mark; and one at an idle field port. -/
theorem witness_TransitFifoTakesOrDrops_sampled :
    let f := buildFrame .sample 0 4 1 [0, 0, 0, 9]
    frameClass f = some .sample ∧ (frameSource f).toNat < 48 ∧ isGood .sample f = true ∧
      arrivable f = true ∧ running.elapse 0 = running ∧
      (running.tif.port .field).framer.between = true ∧
      (after lastSample running).rct.phase = running.rct.phase ∧
      (∀ mark, mark = Source.transit ∨ mark = .insertion →
        (closing mark).resetHeld = none ∧ (closing mark).elapse 0 = closing mark ∧
          ((closing mark).tif.port .field).framer.between = true ∧
          NothingToSend (closing mark).tif .quay ∧
          ((closing mark).tif.port .quay).lastTaken = mark ∧
          (after lastSample (closing mark)).rct.phase ≠ (closing mark).rct.phase) := by
  refine ⟨by decide +kernel, by decide +kernel, by decide +kernel, by decide +kernel, rfl,
    by decide +kernel, by decide +kernel, fun mark h => ?_⟩
  rcases h with rfl | rfl <;>
    exact ⟨rfl, rfl, by decide +kernel, nothingToSend _ _ ⟨rfl, rfl, rfl, rfl⟩, rfl,
      by decide +kernel⟩

/-- Both ports of an idle part have nothing to send, whatever time has passed. -/
theorem witness_TransitFifoTakesOrDrops_idle :
    idle.resetHeld = none ∧ ((idle.elapse 9).tif.port .field).framer.between = true ∧
      NothingToSend (idle.elapse 9).tif (otherPort .field) ∧
      NothingToSend (idle.elapse 9).tif (otherPort .quay) := by
  refine ⟨rfl, by decide +kernel, ?_, ?_⟩ <;> refine ⟨?_, ?_, ?_, ?_⟩ <;> decide +kernel

theorem witness_CopiesDoNotDependOnForwarding :
    idle.resetHeld = none ∧ ((idle.elapse 9).tif.port .quay).framer.opens = true ∧
      frameClass sampleFrame = some .sample ∧
      isGood .sample sampleFrame = true ∧ frameByte sampleFrame 0 = 0xA6 ∧
      frameByte sampleFrame 1 = 0x3D ∧ (frameSource sampleFrame).toNat = (47 : Fin 48).val ∧
      frameClass yardFrame = some .yard ∧ isGood .yard yardFrame = true ∧
      frameByte yardFrame 0 = 0xA6 ∧ frameByte yardFrame 1 = 0x3D := by decide +kernel

theorem witness_OwnRequestsAreConsumed :
    idle.resetHeld = none ∧ ((idle.elapse 9).tif.port .quay).framer.between = true ∧
      ((idle.elapse 9).tif.port .quay).strayBytes ≤ 65535 ∧
      (idle.elapse 9).tif.strap = idle.tif.strap ∧ frameByte requestFrame 0 = 0xA6 ∧
      frameByte requestFrame 1 = 0x3D ∧
      frameClass requestFrame = some .mreq ∧ isGood .mreq requestFrame = true ∧
      (frameDest requestFrame).toNat = 224 + 4 * idle.tif.strap.toNat + (3 : Fin 4).val := by
  decide +kernel

theorem witness_OutboundPortSelects :
    let s := busy idle
    s.resetHeld = none ∧ s.mgu.requests = [] ∧ (∀ z, (s.zone z).signPending = false) ∧
      (s.tif.port .field).sending.isSome = true ∧ s.tif.markSlot = none ∧
      (s.tif.port .field).transit = [] ∧ (s.tif.port .field).queue = [] ∧
      (fieldHolds 1 s).tif.fieldPort.queue = filler :: [] ∧
      (fieldHolds 1 s).tif.fieldPort.transit = [] ∧
      (quayForwards 1 s).tif.quayPort.transit = filler :: [] ∧
      (quayForwards 1 s).tif.quayPort.lastTaken = .insertion ∧
      (after (.probe env noBody) s).tif.markSlot = some (markFrame 5 0 20 true 0) := by
  decide +kernel

theorem witness_StartOpensRoundOne :
    (∀ p, TakesAtOnce p config ∧ NothingToSend config.tif p ∧ TakesAtOnce p (busy config) ∧
        ((busy config).tif.port p).sending.isSome = true) ∧ config.rct.opState = .config ∧ config.rct.probing = false ∧
      config.pju.active.valid = true ∧ CrossValid config := by
  refine ⟨fun p => ⟨takes _ _ ?_, (idle_ports p).1, takes _ _ ?_, ?_⟩, by decide, by decide,
    by decide, ⟨?_, ?_, ?_⟩⟩
  · cases p <;> decide +kernel
  · cases p <;> decide +kernel
  · cases p <;> rfl
  all_goals decide +kernel

/-- A part whose START the cross-validation refuses: zone 1 confirmed by head 3, or pile 2 with a
dust monitor as primary or as fallback. -/
def headConfirms (slot : Fin 3) : State :=
  let c : ZoneCfg := match slot with
    | 0 => { zoneRecord with confirm1 := some 3 }
    | 1 => { zoneRecord with confirm2 := some 3 }
    | 2 => { zoneRecord with confirm3 := some 3 }
  { config with
    pju :=
      { config.pju with
        bank0 := { bankOf 1 with zones := tableSet (bankOf 1).zones 1 c } } }

/-- A pile whose heads START refuses. -/
def pileHeads (primary fallback : Fin 48) : State :=
  let other := fun (p : Pile) =>
    { p with cfg := { p.cfg with primary := primary, fallback := some fallback } }
  { config with
    plu :=
      { config.plu with
        piles := tableSet (tableSet config.plu.piles 1 pileRecord) 2 (other pileRecord) } }

theorem witness_RefusedStartChangesNothing :
    TakesAtOnce env.port running ∧ running.rct.opState = .run ∧
      idle.pju.active.valid = false ∧ TakesAtOnce env.port idle ∧
      (∀ slot, TakesAtOnce env.port (headConfirms slot) ∧
        (headConfirms slot).rct.opState = .config ∧ (headConfirms slot).rct.probing = false ∧
        (headConfirms slot).pju.active.valid = true ∧
        (∀ y : Fin 32, y < 1 → (headConfirms slot).zoneEnabled y = false) ∧
        (headConfirms slot).zoneEnabled 1 = true ∧
        ((headConfirms slot).zoneCfg 1).confirmSlots[slot] = some 3 ∧
        ((headConfirms slot).station 3).cfg.kind ≠ .dust ∧
        ((headConfirms slot).station 4).cfg.kind = .dust) ∧
      (∀ heads, heads ∈ [((4 : Fin 48), (3 : Fin 48)), (3, 4)] →
        let s := pileHeads heads.1 heads.2
        TakesAtOnce env.port s ∧ s.rct.opState = .config ∧ s.rct.probing = false ∧
          s.pju.active.valid = true ∧
          (∀ z i, s.zoneEnabled z = true → some i ∈ (s.zoneCfg z).confirmSlots →
            (s.station i).cfg.kind = .dust) ∧
          (s.pile 1).cfg.enable = true ∧ (s.station (s.pile 1).cfg.primary).cfg.kind = .anemo ∧
          (s.pile 1).cfg.fallback = none ∧ (s.pile 2).cfg.enable = true ∧
          (s.pile 2).cfg.primary = heads.1 ∧ (s.pile 2).cfg.fallback = some heads.2) := by
  refine ⟨takes _ _ (by decide +kernel), by decide, by decide, takes _ _ (by decide +kernel), ?_, ?_⟩
  · intro slot
    refine ⟨takes _ _ ?_, ?_⟩ <;> revert slot <;> decide +kernel
  · intro heads hh
    refine ⟨takes _ _ ?_, ?_⟩ <;> revert heads <;> decide +kernel

theorem witness_StopReturnsToConfig :
    TakesAtOnce env.port config ∧ config.rct.opState = .config ∧ TakesAtOnce env.port running ∧
      running.rct.opState = .run ∧ (busy running).tif.fieldPort.sending.isSome = true ∧
      TakesAtOnce env.port (busy running) ∧
      ∀ p, TakesAtOnce p running ∧ NothingToSend running.tif p := by
  refine ⟨takes _ _ ?_, ?_, takes _ _ ?_, ?_, ?_, takes _ _ ?_,
    fun p => ⟨takes _ _ ?_, (idle_ports p).2.1⟩⟩
  case refine_7 => cases p <;> decide +kernel
  all_goals decide +kernel

theorem witness_ProbeStartsAndExpires :
    TakesAtOnce env.port running ∧ running.rct.opState = .run ∧ TakesAtOnce env.port config ∧
      config.rct.opState = .config ∧ config.rct.probing = false ∧
      (after (.probe env noBody) config).rct.probing = true ∧
      TakesAtOnce env.port (after (.probe env noBody) config) ∧
      (sinceProbe 999 config).rct.probeTimer = some 999 ∧
      999 < (sinceProbe 999 config).rct.period * 50 ∧ AtProbeEnd (sinceProbe 1000 config) ∧
      AtProbeEnd (sinceProbe 1000 (speaks .round config)) ∧
      config.mgu.notices.round.enable = false ∧ config.mgu.notices.round.mask = true ∧
      (speaks .round config).mgu.notices.round.enable = true := by
  refine ⟨takes _ _ ?_, ?_, takes _ _ ?_, ?_, ?_, ?_, takes _ _ ?_, ?_, ?_, config_atProbeEnd,
    ⟨?_, ?_, 1000, ?_, ?_⟩, ?_, ?_, ?_⟩ <;> decide +kernel

theorem witness_ExpiryOpensTheNextRound :
    (∀ number roundMax, AtExpiry (atExpiry
      { running with
        rct := { running.rct with roundNumber := number, roundMax := roundMax } })) ∧
      (let s := (atExpiry running).setRct { (atExpiry running).rct with roundTimer := some 999 }
       s.rct.roundTimer = some 999 ∧ 999 < s.rct.period * 50) :=
  ⟨fun _ _ => ⟨rfl, rfl, rfl, 1000, rfl, (by decide : 20 * 50 ≤ 1000)⟩, rfl, by decide⟩

theorem witness_DeadlineClosesTheRound :
    (sinceOpening 899 running).rct.roundTimer = some 899 ∧
      899 + 100 < (sinceOpening 899 running).rct.period * 50 ∧ AtDeadline (atDeadline running) ∧
      (let r := { running.rct with outstanding := 1, completeSeen := true }
       r.outstanding ≠ 0 ∧ r.completeSeen = true) ∧
      (∀ c, AtDeadline (atDeadline (speaks c running)) ∧
        ((speaks c running).mgu.notices.flags c).enable = true ∧
        ((speaks c running).mgu.notices.flags c).mask = false ∧
        (∀ k, k ≠ c → ((speaks c running).mgu.notices.flags k).mask = true) ∧
        (speaks c running).tif.quayPort.sending.isSome = true ∧
        (speaks c running).tif.quayPort.room = 16 ∧
        AtDeadline (atDeadline (enables c running)) ∧
        NothingToSend (atDeadline (enables c running)).tif .quay ∧
        placesFor .quay 0 (speaks c running).tif = 16 ∧
        placesFor .quay 0 (enables c running).tif = 17) := by
  refine ⟨rfl, by decide, running_atDeadline, ?_, fun c => ?_⟩
  · decide
  · refine ⟨⟨rfl, rfl, rfl, 900, rfl, (by decide : 20 * 50 ≤ 900 + 100)⟩, ?_, ?_, fun k hk => ?_,
      ?_, ?_, ⟨rfl, rfl, rfl, 900, rfl, (by decide : 20 * 50 ≤ 900 + 100)⟩,
      (idle_ports .quay).2.2.2.1 c, rfl, rfl⟩
    · cases c <;> decide +kernel
    · cases c <;> decide +kernel
    · cases c <;> cases k <;> first | exact absurd rfl hk | decide +kernel
    · cases c <;> decide +kernel
    · cases c <;> decide +kernel

/-- A RUN sample for each condition of R39, and one that meets none; time that passes changes none of
it. -/
theorem witness_SamplesAreJudgedInOrder :
    running.resetHeld = none ∧ (running.elapse 9).rct.opState = .run ∧
      ((running.elapse 9).station 0).health.state = .off ∧
      ((running.elapse 9).station 4).health.state = .unseen ∧
      ((evaluating .projecting).elapse 9).rct.phase ≠ .opened ∧
      ({ running.rct with prevRound := some 1, roundNumber := 2 }).prevRound = some 1 ∧
      running.rct.roundMax ≠ 0 ∧ (2 : Byte).toNat ≠ running.rct.roundNumber ∧
      goodSample.round.toNat = (running.elapse 9).rct.roundNumber ∧
      (1 : Byte).getLsbD 0 = true ∧ (∀ z, ((running.elapse 9).zone z).drillTimer = 0) ∧
      (running.station 4).cfg.kind = .dust ∧
      ((after (.probe env noBody) config).elapse 9).rct.probing = true ∧
      (after (.probe env noBody) config).rct.opState = .config ∧ config.rct.probing = false := by
  decide +kernel

/-- A part whose station 4 reads for the round, among the `n` expected ones still missing. -/
def expecting (l : List (Fin 48)) (n : Nat) (mode : CloseMode) : State :=
  { running with
    rct := { running.rct with expected := l, outstanding := n, closeMode := mode } }

/-- The sample of monitor 4 is accepted, whatever time has passed before it. -/
theorem goodSample_accepted (l : List (Fin 48)) (n : Nat) (mode : CloseMode) :
    Accepted goodSample (expecting l n mode) :=
  have kind : (running.station 4).cfg.kind = .dust := by decide +kernel
  have state : (running.station 4).health.state ≠ .off ∧
      (running.station 4).health.state ≠ .retired := by decide +kernel
  { run := rfl, state := state, phase := rfl
    round := .inr ⟨nofun, by show goodSample.round.toNat = 1; decide⟩
    test := fun h => absurd h (by decide), channel := .inr ⟨kind, rfl⟩ }

theorem witness_DustSamplesBecomeReadings :
    (∀ l n mode, Accepted goodSample ((expecting l n mode).elapse 0)) ∧
      Accepted goodSample (running.elapse 9) ∧
      (running.station goodSample.station).cfg.kind = .dust ∧
      (running.station goodSample.station).cfg.lo ≤ 0 ∧
      65280 ≤ (0xFF00 : Word).toNat ∧
      (let s := onStation 4 (fun st =>
        { st with cfg := { st.cfg with statusCodes := true, lo := 1 } }) running
       Accepted goodSample (s.elapse 0) ∧ (s.station 4).cfg.statusCodes = true ∧
        min 4095 (goodSample.value.toNat / 2 ^ (s.station 4).cfg.shift) <
          (s.station 4).cfg.lo) ∧
      (running.intake 4).reading = none ∧
      ((hasReading 4 (.dust 0) running).intake 4).reading ≠ none ∧
      4 ∉ (expecting [3] 1 .allIn).rct.expected ∧ 4 ∈ (expecting [3, 4] 2 .allIn).rct.expected ∧
      2 ≤ (expecting [3, 4] 2 .allIn).rct.outstanding ∧
      (expecting [4] 1 .allIn).rct.outstanding ≤ 1 := by
  refine ⟨goodSample_accepted,
    ⟨by decide +kernel, by decide +kernel, by decide +kernel, .inr (by decide +kernel),
      fun h => absurd h (by decide), .inr ⟨by decide +kernel, rfl⟩⟩,
    by decide +kernel, by decide +kernel, by decide,
    ⟨⟨rfl, by decide +kernel, rfl, .inr (by decide +kernel), fun h => absurd h (by decide),
      .inr ⟨by decide +kernel, rfl⟩⟩, by decide +kernel, by decide +kernel⟩, ?_⟩
  decide +kernel

theorem witness_AnemometerPathsPair :
    let waits := running.setIntake 3
      { running.intake 3 with pendingA := some { value := 0, offset := 0 } }
    (∀ channel : Byte, channel = 0 ∨ channel = 1 →
      Accepted { pathSample with channel := channel } (running.elapse 0) ∧
        ∀ n, n = 40 ∨ n = 41 →
          Accepted { pathSample with channel := channel } (waits.elapse n)) ∧
      (running.station 3).cfg.kind = .anemo ∧ (running.station 3).cfg.statusCodes = false ∧
      (running.intake 3).pendingA = none ∧ ((waits.elapse 40).intake 3).pendingA.isSome = true ∧
      (waits.elapse 40).rct.clock - 0 ≤ (waits.station 3).cfg.window ∧
      (waits.station 3).cfg.window < (waits.elapse 41).rct.clock - 0 ∧
      ((waits.elapse 40).intake 3).reading = none ∧
      ((hasReading 3 (.pair 0 0) waits).intake 3).reading ≠ none ∧
      32512 ≤ (0x7F00 : Word).toInt.natAbs := by
  intro waits
  refine ⟨?_, ?_, ?_, ?_, ?_, ?_, ?_, ?_, ?_, ?_⟩
  · intro channel h
    have state : (running.station 3).health.state ≠ .off ∧
        (running.station 3).health.state ≠ .retired := by decide +kernel
    have round : running.rct.prevRound ≠ some 1 ∧ 1 = running.rct.roundNumber := by decide
    have kind : (running.station 3).cfg.kind = .anemo := by decide +kernel
    have test : ¬ (0 : Byte).getLsbD 0 = true := by decide
    refine ⟨⟨rfl, state, rfl, .inr round, fun h => absurd h test, .inl ⟨kind, h⟩⟩,
      fun n hn => ?_⟩
    have hold : (waits.elapse n).rct = { running.rct with clock := n, roundTimer := some n } ∧
        (waits.elapse n).stu = running.stu := by
      rcases hn with rfl | rfl <;> decide +kernel
    have slot : (waits.elapse n).station 3 = running.station 3 := by
      unfold State.station; rw [hold.2]
    exact
      { run := by rw [hold.1]; rfl, state := slot ▸ state
        phase := by rw [hold.1]; rfl, round := .inr (by rw [hold.1]; exact round)
        test := fun h => absurd h test
        channel := .inl ⟨slot ▸ kind, h⟩ }
  all_goals decide +kernel

/-- The values of the clauses, those of R65's tests at the ends of their ranges. -/
theorem witness_SectorsFollowTheTests :
    (1023 : Int).natAbs ≤ 1023 ∧ (-1023 : Int).natAbs ≤ 1023 ∧ ((0 : Int) ≠ 0 ∨ (1 : Int) ≠ 0) ∧
      max (3 : Int).natAbs (4 : Int).natAbs + 3 * min (3 : Int).natAbs (4 : Int).natAbs / 8 = 5 ∧
      (∀ row ∈ [(50, 256, 0), (51, 256, 1), (170, 256, 1), (171, 256, 2), (256, 171, 2),
          (256, 170, 3), (256, 51, 3), (256, 50, 4)],
        let ax := ((row.1 : Nat) : Int).natAbs
        let ay := ((row.2.1 : Nat) : Int).natAbs
        5 ≤ max ax ay + 3 * min ax ay / 8 ∧
          (256 * ax < 51 * ay ∧ row.2.2 = 0 ∨
            51 * ay ≤ 256 * ax ∧ 256 * ax < 171 * ay ∧ row.2.2 = 1 ∨
            171 * ay ≤ 256 * ax ∧ 171 * ax ≤ 256 * ay ∧ row.2.2 = 2 ∨
            171 * ay ≤ 256 * ax ∧ 256 * ay < 171 * ax ∧ 51 * ax ≤ 256 * ay ∧ row.2.2 = 3 ∨
            171 * ay ≤ 256 * ax ∧ 256 * ay < 51 * ax ∧ row.2.2 = 4)) := by
  decide

theorem witness_SeedingRoundsStartTheFilters :
    let s := hasReading 3 (.pair 1023 (-1023)) (hasReading 4 (.dust 4095) (atDeadline running))
    AtDeadline s ∧
      (s.station 3).health.state = .unseen ∧ (s.station 3).cfg.kind = .anemo ∧
      (s.intake 3).reading = some (.pair 1023 (-1023)) ∧ (s.station 4).cfg.kind = .dust ∧
      (s.intake 4).reading = some (.dust 4095) ∧
      ((inHealth 4 .stale s).station 4).health.state = .stale ∧
      ((inHealth 4 .stale s).intake 4).reading ≠ none ∧
      AtDeadline (speaks .station (inHealth 4 .stale s)) ∧
      (speaks .station (inHealth 4 .stale s)).mgu.notices.station.enable = true := by
  refine ⟨⟨rfl, rfl, rfl, 900, rfl, by decide⟩, ?_, ?_, ?_, ?_, ?_, ?_, ?_,
    ⟨rfl, rfl, rfl, 900, rfl, by decide⟩, ?_⟩ <;> decide +kernel

/-- The default configuration is sound, whatever the kind and enable. -/
theorem cfg_sound (k : Kind) (e : Bool) :
    StationCfg.Sound { StationCfg.default with kind := k, enable := e } := by
  cases k <;> cases e <;> constructor <;> decide

theorem comp_sound : Computation.cleared.Sound := by constructor <;> decide

theorem witness_UpdateRoundsStepTheFilters :
    let s := inHealth 3 .healthy (inHealth 4 .healthy
      (hasReading 3 (.pair 1023 (-1023)) (hasReading 4 (.dust 4095) (atDeadline running))))
    AtDeadline s ∧
      (s.station 3).cfg.Sound ∧ (s.station 3).comp.Sound ∧
      (s.station 3).health.state = .healthy ∧ (s.station 3).health.reseed = false ∧
      (s.station 3).cfg.kind = .anemo ∧ (1023 : Int).natAbs ≤ 1023 ∧
      (-1023 : Int).natAbs ≤ 1023 ∧ (s.intake 3).reading = some (.pair 1023 (-1023)) ∧
      (s.station 4).cfg.kind = .dust ∧ (s.intake 4).reading = some (.dust 4095) := by
  intro s
  have h3 : s.station 3 = { anemo with health := { anemo.health with state := .healthy } } := by
    decide +kernel
  refine ⟨⟨rfl, rfl, rfl, 900, rfl, by decide⟩, ?_, ?_, ?_, ?_, ?_, ?_, ?_, ?_, ?_, ?_⟩
  · rw [h3]; exact cfg_sound .anemo true
  · rw [h3]; exact comp_sound
  all_goals decide +kernel

theorem witness_SectorsPersist :
    let s := inHealth 3 .healthy (hasReading 3 (.pair 0 100) (atDeadline running))
    AtDeadline s ∧
      (s.station 3).health.state = .healthy ∧ (s.station 3).health.reseed = false ∧
      (s.station 3).cfg.kind = .anemo ∧ 1 ≤ (s.station 3).cfg.persistence ∧
      (s.intake 3).reading = some (.pair 0 100) ∧
      computedSector (s.station 3).cfg.calmThreshold 0 100 ≠ (s.station 3).comp.sector ∧
      (s.station 3).comp.candidate ≠ some (computedSector 5 0 100) ∧
      1 < (s.station 3).cfg.persistence := by
  refine ⟨⟨rfl, rfl, rfl, 900, rfl, by decide⟩, ?_⟩
  decide +kernel

theorem witness_MissedRoundsWearAStation :
    let s := fun (missed since faults : Nat) => onStation 3 (fun st =>
      { st with
        health := { st.health with
          state := .healthy, missed := missed, since := since, faults := faults } })
      (atDeadline running)
    (∀ missed since faults, AtDeadline (s missed since faults)) ∧
      ((s 0 0 0).station 0).health.state = .off ∧
      ((s 0 0 0).station 4).health.state = .unseen ∧ ((s 0 0 0).intake 3).reading = none ∧
      ((s 0 0 0).station 3).health.state = .healthy ∧
      min 255 (1 + 1) < ((s 1 0 0).station 3).cfg.staleLimit ∧
      ((s 2 14 2).station 3).cfg.staleLimit ≤ min 255 (2 + 1) ∧
      min 65535 (14 + 1) < ((s 2 14 2).station 3).cfg.settleRounds ∧
      ((s 2 15 1).station 3).cfg.settleRounds ≤ min 65535 (15 + 1) ∧
      ((s 2 15 1).station 3).health.faults < 2 ∧ ((s 2 15 2).station 3).health.faults = 2 := by
  refine ⟨fun _ _ _ => ⟨rfl, rfl, rfl, 900, rfl, (by decide : 20 * 50 ≤ 900 + 100)⟩, ?_⟩
  decide +kernel

theorem witness_AdmitBringsAStationBack :
    TakesAtOnce env.port running ∧ 48 ≤ (body 48 0 0).index.toNat ∧
      (body 47 0 0).index.toNat = (47 : Fin 48).val ∧
      ((inHealth 3 .retired running).station 3).health.state = .retired ∧
      (running.station 3).cfg.kind ≠ .absent ∧ (running.station 3).cfg.enable = true ∧
      ((inHealth 0 .retired running).station 0).cfg.kind = .absent ∧
      (running.station 3).health.state ≠ .retired ∧
      (running.station 3).health.state ≠ .stale := by
  refine ⟨takes _ _ ?_, ?_, ?_, ?_, ?_, ?_, ?_, ?_, ?_⟩ <;> decide +kernel

theorem witness_KindAndEnableWritesMoveHealth :
    TakesAtOnce env.port config ∧ TakesAtOnce env.port running ∧
      (body 3 0 2).index.toNat = (3 : Fin 48).val ∧ (body 3 0 2).field = 0 ∧
      running.rct.opState = .run ∧ config.rct.opState = .config ∧ 3 ≤ (body 3 0 3).data.toNat ∧
      (body 3 0 2).data.toNat = Kind.dust.code ∧ Kind.dust ≠ (config.station 3).cfg.kind ∧
      (body 3 1 0).data.toNat = flagCode false ∧ (body 3 1 1).data.toNat = flagCode true ∧
      (config.station 3).health.state ≠ .retired ∧ (config.station 0).health.state = .off ∧
      ((inHealth 3 .retired config).station 3).health.state = .retired := by
  refine ⟨takes _ _ ?_, takes _ _ ?_, ?_⟩ <;> decide +kernel

theorem witness_StationWritesStoreTheirFields :
    TakesAtOnce env.port config ∧ config.rct.opState = .config ∧ TakesAtOnce env.port running ∧
      running.rct.opState = .run ∧ 48 ≤ (body 48 0 0).index.toNat ∧
      18 ≤ (body 0 18 0).field.toNat ∧ (body 47 17 0xFFFF).index.toNat = (47 : Fin 48).val ∧
      (body 47 17 0xFFFF).field.toNat = 17 ∧ (body 47 3 1).data.toNat ≤ 1 ∧
      2 ≤ (body 47 3 2).data.toNat ∧ (body 47 7 2).data.toNat ≤ 2 ∧
      3 ≤ (body 47 7 3).data.toNat := by
  refine ⟨takes _ _ ?_, ?_, takes _ _ ?_, ?_⟩ <;> decide +kernel

theorem witness_YardEventsApplyAtOnce :
    config.resetHeld = none ∧ (2 : Byte).toNat = (2 : Fin 24).val ∧
      (config.pile 2).cfg.enable = true ∧ 24 ≤ (24 : Byte).toNat ∧
      (config.pile 23).cfg.enable = false ∧ (23 : Byte).toNat = (23 : Fin 24).val ∧
      6 ≤ (6 : Byte).toNat := by decide +kernel

/-- A part in which class `c` alone sends notices, with room for them in the quay queue, the quay
port sending or idle. -/
theorem speaks_notified (c : NoticeClass) (stage : EvalStage) :
    let s := speaks c (evaluating stage)
    let i := enables c (evaluating stage)
    (s.mgu.notices.flags c).enable = true ∧ (s.mgu.notices.flags c).mask = false ∧
      (∀ k, k ≠ c → (s.mgu.notices.flags k).mask = true) ∧
      s.tif.quayPort.sending.isSome = true ∧ s.tif.quayPort.room = 16 ∧ s.stage = stage ∧
      i.mgu.notices = s.mgu.notices ∧ i.stage = stage ∧ NothingToSend i.tif .quay := by
  refine ⟨?_, ?_, fun k hk => ?_, ?_, ?_, ?_, rfl, rfl, (idle_ports .quay).2.2.2.2 c stage⟩
  · cases c <;> rfl
  · cases c <;> rfl
  · cases c <;> cases k <;> first | exact absurd rfl hk | rfl
  · cases c <;> rfl
  · cases c <;> rfl
  · cases c <;> rfl

theorem witness_PileVisitsFollowTheWind :
    let s := evaluating (.piles 2)
    let healthy := fun i => (s.station i).health.state = Health.healthy
    s.resetHeld = none ∧ s.stage = .piles 2 ∧
      ((inHealth 3 .healthy s).station (s.pile 2).cfg.primary).health.state = .healthy ∧
      ¬ healthy (s.pile 2).cfg.primary ∧ (s.pile 2).cfg.fallback = none ∧
      s.rct.roundsSinceStart < 8 ∧ (s.pile 2).dyn.source ≠ .blind ∧
      (let f := s.setPile 2
        { pileRecord with cfg := { pileRecord.cfg with primary := 9, fallback := some 3 } }
       (f.pile 2).cfg.fallback = some 3 ∧ ((inHealth 3 .healthy f).station 3).health.state =
        .healthy ∧ (f.station 9).health.state ≠ .healthy) ∧
      (speaks .pile s).stage = .piles 2 ∧ (speaks .pile s).mgu.notices.pile.enable = true := by
  decide +kernel

theorem witness_PileWritesKeepOrResetThePile :
    TakesAtOnce env.port config ∧ TakesAtOnce env.port running ∧
      (body 2 3 0).index.toNat = (2 : Fin 24).val ∧ (body 2 3 0).field.toNat ≤ 3 ∧
      4 ≤ (body 2 4 0).field.toNat ∧ 24 ≤ (body 24 0 0).index.toNat ∧
      running.rct.opState = .run ∧
      config.rct.opState = .config ∧ (body 2 0 1).data.toNat = flagCode true ∧
      2 ≤ (body 2 0 2).data.toNat ∧
      (body 2 2 47).data.toNat = (47 : Fin 48).val ∧ 48 ≤ (body 2 2 48).data.toNat ∧
      (body 2 3 47).data.toNat = (47 : Fin 48).val ∧ (body 2 3 255).data.toNat = 255 ∧
      48 ≤ (body 2 3 256).data.toNat ∧ (body 2 3 256).data.toNat ≠ 255 := by
  refine ⟨takes _ _ ?_, takes _ _ ?_, ?_⟩ <;> decide +kernel

theorem witness_StandbyWritesReadBack :
    TakesAtOnce env.port config ∧ config.pju.swapPending = false ∧
      1536 ≤ (body 1536 0 0).index.toNat ∧ (body 1535 0 32).index.toNat < 1536 ∧
      32 ≤ (body 1535 0 32).data.toNat ∧ (body 1535 0 31).data.toNat = (31 : Fin 32).val ∧
      (body 31 16 255).index.toNat = (31 : Fin 32).val ∧ (255 : Nat) ≤ 255 ∧
      max 1 (min 4095 0) ≠ 0 ∧ 32 ≤ (body 32 0 0).index.toNat ∧
      17 ≤ (body 31 17 0).field.toNat ∧ 3 ≤ (body 1535 3 0).field.toNat := by
  refine ⟨takes _ _ ?_, ?_⟩ <;> decide +kernel

/-- A part whose exchange waits. -/
def swapWaits : State := { running with pju := { running.pju with swapPending := true } }

theorem witness_PendingSwapLocksTheStandby :
    TakesAtOnce env.port swapWaits ∧ swapWaits.pju.swapPending = true ∧
      (body 31 16 0).index.toNat < 32 ∧ (body 31 16 0).field.toNat ≤ 16 ∧
      (body 1535 2 0).index.toNat < 1536 ∧ (body 1535 2 0).field.toNat ≤ 2 := by
  refine ⟨takes _ _ ?_, ?_⟩ <;> decide +kernel

/-- The test zone record passes validation. -/
theorem zoneRecord_validated : zoneRecord.Validated :=
  ⟨by decide, fun _ => ⟨4, by decide⟩, by decide⟩

theorem config_swapValid : SwapValid config := by
  intro z hz
  have h : z = 6 := by revert z; decide +kernel
  subst h
  have hr : config.pju.standby.zones[(6 : Fin 32)] = zoneRecord := by decide +kernel
  rw [hr]
  exact ⟨zoneRecord_validated, fun h => absurd h (by decide)⟩

theorem running_swapValid : SwapValid running := by
  intro z hz
  have h : z = 6 := by revert z; decide +kernel
  subst h
  have hr : running.pju.standby.zones[(6 : Fin 32)] = zoneRecord := by decide +kernel
  rw [hr]
  exact ⟨zoneRecord_validated, fun _ => by decide +kernel⟩

/-- No zone of the configured part runs a drill. -/
theorem quiet : ∀ z, (config.zone z).drillTimer = 0 := by decide +kernel

theorem witness_ValidSwapsExchangeOrWait :
    TakesAtOnce env.port config ∧ config.rct.opState = .config ∧
      config.pju.swapPending = false ∧ SwapValid config ∧
      (∀ z, ExchangeDisables config z → (config.zone z).drillTimer = 0) ∧
      ExchangeDisables config 1 ∧ TakesAtOnce env.port running ∧ running.rct.opState = .run ∧
      SwapValid running :=
  ⟨takes _ _ (by decide +kernel), rfl, rfl, config_swapValid,
    fun z _ => quiet z, ⟨by decide +kernel, by decide +kernel⟩,
    takes _ _ (by decide +kernel), rfl, running_swapValid⟩

/-- A standby bank whose zone 6 holds the record `c`. -/
def standbyHolds (c : ZoneCfg) : State :=
  { running with
    pju :=
      { running.pju with
        bank1 := { bankOf 6 with zones := tableSet (bankOf 6).zones 6 c, valid := false } } }

theorem witness_SwapNamesTheFailingField :
    (∀ c, c ∈ [{ zoneRecord with warn := 3 }, { zoneRecord with confirm1 := none },
        { zoneRecord with confirm1 := some 3 }, { zoneRecord with confirm2 := some 3 },
        { zoneRecord with confirm3 := some 3 }, { zoneRecord with sign1 := some 63 },
        { zoneRecord with sign2 := some 192 }] →
      TakesAtOnce env.port (standbyHolds c) ∧ (standbyHolds c).pju.swapPending = false ∧
        (standbyHolds c).rct.opState = .run ∧
        (standbyHolds c).pju.standby.zones[(6 : Fin 32)] = c ∧ c.enable = true ∧
        ∀ y : Fin 32, y < 6 → (standbyHolds c).pju.standby.zones[y].enable = false) := by
  intro c hc
  refine ⟨takes _ _ ?_, ?_⟩ <;> revert c <;> decide +kernel

theorem witness_CopyRunsAndAnswers :
    TakesAtOnce env.port config ∧ config.pju.swapPending = false ∧
      (let s := after (.copy env noBody) config
       s.resetHeld = none ∧ s.mgu.executing.isSome = true ∧ s.mgu.requests = []) := by
  refine ⟨takes _ _ ?_, ?_⟩ <;> decide +kernel

/-- PJU's turn, with a contribution to project and the zones' slots full. -/
def projecting (s : State) : State :=
  { s with
    stage := .projecting
    pju := { s.pju with contributions := [{ pile := 2, sector := 4, amount := 65 }] }
    znu := { s.znu with
      zones := Vector.replicate 32 { Zone.cleared with arrivals := Vector.replicate 16 4095 } } }

theorem witness_ProjectionPostsEveryShare :
    let s := projecting (evaluating .projecting)
    s.resetHeld = none ∧ s.stage = .projecting ∧ s.pju.swapPending = false ∧
      ∀ (z : Fin 32) (k : Fin 16), (s.zone z).arrivals[k] ≤ 4095 := by decide +kernel

theorem witness_PendingSwapIsMadeAtProjection :
    let s := projecting swapWaits
    s.resetHeld = none ∧ s.stage = .projecting ∧ s.pju.swapPending = true ∧
      (∀ (z : Fin 32) (k : Fin 16), (s.zone z).arrivals[k] ≤ 4095) ∧
      ExchangeDisables s 1 ∧ ¬ ExchangeDisables s 6 ∧
      s.pju.standby.zones[(6 : Fin 32)].enable = true ∧ s.pju.contributions ≠ [] ∧
      (speaks .drill s).stage = .projecting ∧
      (speaks .drill s).mgu.notices.drill.enable = true := by
  refine ⟨rfl, rfl, rfl, ?_, ⟨?_, ?_⟩, fun h => ?_, ?_, ?_, ?_, ?_⟩
  · decide +kernel
  · decide +kernel
  · decide +kernel
  · exact absurd h.1 (by decide +kernel)
  · decide +kernel
  · decide
  · rfl
  · rfl

theorem witness_ZoneEvaluationFollowsTheSteps :
    let s := evaluating (.zones 1)
    s.resetHeld = none ∧ s.stage = .zones 1 ∧ (s.zoneCfg 1).Sound ∧
      (s.zone 1).drillTimer ≠ 1 ∧
      ((s.setZone 1 { Zone.cleared with drillTimer := 1 }).zone 1).drillTimer = 1 ∧
      (speaks .zone s).mgu.notices.zone.enable = true ∧
      (speaks .drill s).mgu.notices.drill.enable = true := by
  intro s
  have hc : s.zoneCfg 1 = zoneRecord := by decide +kernel
  refine ⟨rfl, rfl, ?_, ?_, ?_, rfl, rfl⟩
  · rw [hc]; constructor <;> decide
  all_goals decide +kernel

theorem witness_RelaxShortensAHold :
    TakesAtOnce env.port running ∧ 32 ≤ (body 32 0 0).index.toNat ∧
      (body 1 0 0).index.toNat = (1 : Fin 32).val ∧ running.rct.opState = .run ∧
      (running.zoneCfg 1).relaxAllowed = true ∧ (running.zoneCfg 31).relaxAllowed = false ∧
      (running.zone 1).level = .clear ∧
      ((running.setZone 1 { Zone.cleared with level := .watch }).zone 1).level ≠ .clear := by
  refine ⟨takes _ _ ?_, ?_⟩ <;> decide +kernel

theorem witness_DrillCommandsSetTheTimers :
    TakesAtOnce env.port running ∧ running.rct.opState = .run ∧
      TakesAtOnce env.port config ∧ config.rct.opState = .config ∧
      1 < (body 1 2 0).field.toNat ∧ (body 1 1 0).field.toNat ≤ 1 ∧
      (body 1 0 2).field.toNat = (1 : Fin 32).val / 16 ∧ (2 : Word).getLsbD 1 = true ∧
      running.zoneEnabled 1 = true ∧ (running.zone 1).drillTimer = 0 ∧
      TakesAtOnce .field (speaks .drill running) ∧
      (speaks .drill running).mgu.notices.drill.enable = true ∧
      TakesAtOnce env.port (speaks .drill running) ∧
      (∀ class', class' ≠ NoticeClass.drill →
        ((speaks .drill running).mgu.notices.flags class').mask = true) ∧
      (speaks .drill running).tif.quayPort.sending.isSome = true ∧
      2 ≤ (speaks .drill running).tif.quayPort.room ∧
      NothingToSend (enables .drill running).tif .quay ∧
      TakesAtOnce env.port (enables .drill running) ∧
      (∀ row ∈ [(0, 1), (1, 1), (255, 255), (256, 255)],
        max 1 (min 255 (body row.1 0 2).index.toNat) = row.2) := by
  refine ⟨takes _ _ ?_, ?_, takes _ _ ?_, ?_, ?_, ?_, ?_, ?_, ?_, ?_, takes _ _ ?_, ?_,
    takes _ _ ?_, fun c h => ?_, ?_, ?_, (idle_ports .quay).2.2.2.1 _, takes _ _ ?_, ?_⟩
  case refine_14 => cases c <;> first | exact absurd rfl h | decide +kernel
  all_goals decide +kernel

theorem witness_EvaluationEndsClosed :
    (evaluating .done).resetHeld = none ∧ (evaluating .done).stage = .done ∧
      (evaluating .done).mgu.requests = [] ∧ (evaluating .done).mgu.snapshot.armed = false ∧
      (after (.snap env noBody) running).mgu.snapshot.armed = true ∧
      running.rct.opState = .run ∧ config.rct.opState = .config ∧
      TakesAtOnce env.port running ∧ TakesAtOnce env.port config := by
  refine ⟨?_, ?_, ?_, ?_, ?_, ?_, ?_, takes _ _ ?_, takes _ _ ?_⟩ <;> decide +kernel

/-- A part in RUN whose zone 1 has two sign addresses and whose zone 2 has one. -/
def twoZones (s : State) : State :=
  let zones := tableSet (bankOf 1).zones 1 { zoneRecord with sign2 := some 71 }
  { s with
    pju := { s.pju with bank0 := { bankOf 1 with zones := tableSet zones 2 zoneRecord } } }

/-- R12, R156: where one place is left the group of zone 1 is refused and that of zone 2, the smaller
one, taken. -/
theorem test_smaller_group_is_taken :
    let s := fieldHolds 15 (busy (twoZones (evaluating .done)))
    (after (.evaluationComplete []) s).tif.fieldPort.queue =
        List.replicate 15 filler ++ [signFrame 5 70 1 2 0 false false false] ∧
      ((after (.evaluationComplete []) s).zone 1).signPending = true ∧
      ((after (.evaluationComplete []) s).zone 2).signPending = false := by decide +kernel

/-- Room for one group, though not for the group before it. -/
theorem witness_SignPassOffersDueZones_some :
    let s := fieldHolds 15 (busy (twoZones (evaluating .done)))
    s.resetHeld = none ∧ s.stage = .done ∧ s.mgu.requests = [] ∧
      s.tif.fieldPort.sending.isSome = true ∧ s.zoneEnabled 1 = true ∧ s.zoneEnabled 2 = true ∧
      DueAt s 1 ∧ DueAt s 2 ∧
      groupsTaken false s.tif.fieldPort.room [(1, signsOf s 1), (2, signsOf s 2)] =
        [(2, signsOf s 2)] := by decide +kernel

/-- An idle field port with two places kept: the first frame of zone 1's group frees its place for
zone 2's. -/
theorem witness_SignPassOffersDueZones_idle :
    let s := (twoZones (evaluating .done)).modPort .field fun p => { p with reserved := 14 }
    NothingToSend s.tif .field ∧ s.tif.fieldPort.sending.isNone = true ∧
      s.tif.fieldPort.room = 2 ∧ DueAt s 1 ∧ DueAt s 2 ∧
      groupsTaken true s.tif.fieldPort.room [(1, signsOf s 1), (2, signsOf s 2)] =
        [(1, signsOf s 1), (2, signsOf s 2)] := by
  refine ⟨nothingToSend _ _ ⟨rfl, rfl, rfl, rfl⟩, ?_⟩
  decide +kernel

theorem witness_SignPassOffersDueZones :
    let s := busy (evaluating .done)
    s.resetHeld = none ∧ s.stage = .done ∧ s.mgu.requests = [] ∧
      s.tif.fieldPort.sending.isSome = true ∧ s.zoneEnabled 1 = true ∧ DueAt s 1 ∧
      1 ≤ s.tif.fieldPort.room ∧ (fieldHolds 16 s).tif.fieldPort.room = 0 ∧
      (s.zoneCfg 1).signAddresses ≠ [] ∧ s.zoneEnabled 6 = false ∧
      (∀ q ∈ [((0 : Fin 4), (2 : Byte)), (3, 2)],
        let r := ownRequest q.1.val 3 q.2 env (body 9 0 2) s
        let w := withRequests [r] s
        w.stage = .done ∧ w.mgu.requests = [r] ∧ w.mgu.executing = none ∧
          1 ≤ (w.tif.port r.port).room ∧ r.op = 3 ∧ r.unit = q.1.val ∧ r.table = q.2 ∧
          w.zoneEnabled 1 = true ∧ w.rct.opState = .run ∧ w.znu.drillAtClose = false ∧
          w.mgu.snapshot.armed = false) := by decide +kernel

theorem witness_ServiceSignsGoOutAtStop :
    let s := busy running
    TakesAtOnce env.port s ∧ s.rct.opState = .run ∧ s.tif.fieldPort.sending.isSome = true ∧
      1 ≤ s.tif.fieldPort.room ∧ TakesAtOnce env.port (fieldHolds 16 s) ∧
      (fieldHolds 16 s).tif.fieldPort.room = 0 ∧
      (let d := after (.stop env noBody) (fieldHolds 16 s)
       d.resetHeld = none ∧ d.rct.opState = .config ∧ d.mgu.requests = [] ∧
        d.tif.fieldPort.sending.isSome = true ∧ d.tif.markSlot = none ∧
        d.tif.fieldPort.transit = [] ∧
        d.tif.fieldPort.queue = filler :: List.replicate 15 filler ∧
        (d.zone 1).signPending = true ∧ d.tif.fieldPort.reserved = 0) := by
  refine ⟨takes _ _ ?_, ?_, ?_, ?_, takes _ _ ?_, ?_⟩ <;> decide +kernel

/-- A STOP from either port with room for one group beside the response, though not for the group
before it; and then a transit frame and a MARK that leave the field port. -/
theorem witness_ServiceSignsGoOutAtStop_some :
    let s := busy (twoZones running)
    let groups := fun s : State =>
      [((1 : Fin 32), serviceSignsOf s 1 [70, 71]), (2, serviceSignsOf s 2 [70])]
    TakesAtOnce .field (fieldHolds 14 s) ∧ TakesAtOnce .quay (fieldHolds 15 s) ∧
      groupsTaken false ((fieldHolds 14 s).tif.fieldPort.room - 1) (groups s) =
        [(2, serviceSignsOf s 2 [70])] ∧
      (s.zoneCfg 1).signAddresses = [70, 71] ∧ (s.zoneCfg 2).signAddresses = [70] ∧
      (twoZones running).tif.fieldPort.sending = none ∧
      (twoZones running).tif.fieldPort.transit = [] ∧
      (twoZones running).tif.fieldPort.queue = [] ∧ (twoZones running).tif.markSlot = none ∧
      (let d := (after (.stop env noBody) (fieldHolds 15 s)).modPort .field fun p =>
        { p with transit := [filler], lastTaken := .transit }
       d.resetHeld = none ∧ d.rct.opState = .config ∧ d.mgu.requests = [] ∧
        d.tif.fieldPort.sending.isSome = true ∧ d.tif.markSlot = none ∧
        d.tif.fieldPort.queue.length = 16 ∧ d.tif.fieldPort.lastTaken = .transit ∧
        d.tif.fieldPort.transit ≠ [] ∧ (d.zone 1).signPending = true ∧
        (d.zone 2).signPending = false ∧ d.out.service[(1 : Fin 32)] = [70, 71] ∧
        (let i := d.modPort .field fun p => { p with lastTaken := .insertion }
         i.tif.fieldPort.lastTaken = .insertion ∧ i.tif.fieldPort.transit ≠ []) ∧
        ({ d.tif with markSlot := some (markFrame 5 0 20 true 0) }).markSlot ≠ none) := by
  refine ⟨takes _ _ ?_, takes _ _ ?_, ?_⟩ <;> decide +kernel

theorem witness_LineWritesTakeEffectAtOnce :
    TakesAtOnce env.port running ∧ 9 ≤ (body 9 0 0).index.toNat ∧ (body 7 2 0).data = 0 ∧
      4 ≤ (body 7 4 0).field.toNat ∧ (body 8 1 0).field ≠ 0 ∧ 4 ≤ (body 7 2 4).data.toNat ∧
      2 ≤ (body 7 3 2).data.toNat ∧ (body 7 1 0).field = 1 ∧
      (body 7 0 0).index.toNat = (7 : Fin 8).val ∧ (body 7 2 3).data.toNat = Level.alert.code ∧
      (body 7 3 1).data.toNat = flagCode true ∧ (body 8 0 0).index.toNat = 8 := by
  refine ⟨takes _ _ ?_, ?_⟩ <;> decide +kernel

theorem witness_PanelFramesShowTheState :
    running.resetHeld = none ∧ running.rct.opState = .run ∧ running.out.panelMode = .zones ∧
      config.rct.opState = .config ∧
      (after (.tableWrite env 3 4 (body 0 0 1)) running).out.panelMode = .stations := by
  decide +kernel

theorem witness_CounterAndStatusReadsClear :
    TakesAtOnce env.port running ∧
      (Instr.counterRead env 0 1 (body 2 1 0)).wellFormed = true ∧
      (Instr.counterRead env 2 1 (body 23 6 0)).wellFormed = true ∧
      (Instr.counterRead env 2 1 (body 0 6 0)).wellFormed = true ∧
      (Instr.counterRead env 1 1 (body 47 29 0)).wellFormed = true := by
  refine ⟨takes _ _ ?_, ?_⟩ <;> decide +kernel

theorem witness_TableWritesStoreTheirSettings :
    TakesAtOnce env.port config ∧ config.rct.opState = .config ∧ config.rct.probing = false ∧
      running.rct.opState = .run ∧ TakesAtOnce env.port running ∧ (body 0 2 251).index = 0 ∧
      3 ≤ (body 0 3 0).field.toNat ∧
      (body 0 11 1).field.toNat = NoticeClass.trunk.code + 5 ∧
      (body 0 0 1).field.toNat + 1 = NoticeClass.zone.code ∧
      (body 0 0 1).data.toNat = flagCode true ∧ 2 ≤ (body 0 0 2).data.toNat ∧
      (body 0 0 1).data.toNat = PanelMode.stations.code ∧
      (∀ row ∈ [(0, 0, 0, 3), (0, 2, 0, 12), (0, 2, 0, 14), (0, 1, 0, 0), (1, 0, 47, 18),
          (1, 0, 48, 0), (1, 1, 0, 0), (2, 1, 23, 6), (2, 3, 1536, 3), (3, 2, 31, 0),
          (3, 3, 8, 1), (3, 5, 0, 0)],
        writableCount row.1 row.2.1 row.2.2.1 ≤ row.2.2.2) := by
  refine ⟨takes _ _ ?_, ?_, ?_, ?_, takes _ _ ?_, ?_⟩ <;> decide +kernel

theorem witness_RequestsWaitOrAreDropped :
    let r := ownRequest 0 3 2 env noBody running
    let waiting := fun (n : Nat) => withRequests (List.replicate n r) (evaluating .projecting)
    running.resetHeld = none ∧ (waiting 4).resetHeld = none ∧
      4 ≤ (waiting 4).mgu.requests.length ∧ (waiting 3).mgu.requests.length < 4 ∧
      (waiting 3).rct.phase = .evaluating ∧ running.mgu.requests = [] ∧
      ((fieldHolds 16 running).tif.port .field).room = 0 ∧
      (let full := withRequests [{ r with port := .field }, r, r] (fieldHolds 16 running)
       full.mgu.requests = { r with port := .field } :: [r, r] ∧ [r, r].length < 3 ∧
        (full.tif.port .field).room = 0) ∧
      TakesAtOnce env.port running ∧
      (9 : Byte) ≠ 1 ∧ (9 : Byte) ≠ 2 ∧ (9 : Byte) ≠ 3 ∧ (body 0 5 0).field.toNat = 5 ∧
      (∀ row ∈ [(0, 0, 0, 11), (0, 0, 1, 0), (0, 5, 0, 0), (2, 4, 0, 0), (3, 1, 32, 0)],
        fieldCount row.1 row.2.1 row.2.2.1 ≤ row.2.2.2) ∧
      (∀ row ∈ [(0, 0), (0, 7), (1, 2), (2, 1), (3, 4)], row.2 ∉ commandCodes row.1) ∧
      0 < fieldCount 2 3 1536 ∧ isCounterField 2 3 1536 0 = false := by
  refine ⟨?_, ?_, ?_, ?_, ?_, ?_, ?_, ?_, takes _ _ ?_, ?_⟩ <;> decide +kernel

/-- Whether a head may be taken can be decided. -/
theorem mayTake_iff (r : Request) (s : State) : MayTake r s ↔ canTake r s = true := by
  constructor
  · rintro ⟨he, hp, hr⟩
    simp [canTake, he, hp, hr]
  · intro h
    simp only [canTake, Bool.and_eq_true, Option.isNone_iff_eq_none, bne_iff_ne, ne_eq,
      decide_eq_true_eq] at h
    exact ⟨h.1.1, h.1.2, h.2⟩

/-- A head that may be taken, and one that waits for room, after each event that makes MGU look, with
turns of the events that leave it in the queue until the last one. -/
theorem witness_RequestsWaitOrAreDropped_heads :
    let r := ownRequest 0 3 6 env noBody running
    let copies := after (.copy env noBody) config
    let full := fun s : State => s.modPort .quay fun p =>
      { p with queue := List.replicate 16 filler }
    ((busy running).tif.port .field).sending.isSome = true ∧ running.rct.opState = .run ∧
      Turn.mgu ∉ [Turn.out, .out] ∧ [Turn.out, .mgu].count .mgu = 1 ∧
      (∀ turns ∈ [[], [Turn.out, .out], [.out, .mgu]],
        MayTake r (after (.frameSent .field turns) (withRequests [] (busy running))) ∧
          ¬ MayTake r (after (.frameSent .field turns) (withRequests [] (full (busy running))))) ∧
      (evaluating .done).stage = .done ∧
      (∀ turns ∈ [[], [Turn.out, .out]],
        MayTake r (after (.evaluationComplete turns) (withRequests [] (evaluating .done))) ∧
          ¬ MayTake r
            (after (.evaluationComplete turns)
              (withRequests [] (full (busy (evaluating .done)))))) ∧
      copies.mgu.executing.isSome = true ∧
      MayTake r (after .copyComplete (withRequests [] copies)) ∧
      ¬ MayTake { r with port := .field }
        (after .copyComplete (withRequests [] (fieldHolds 16 (busy copies)))) ∧
      running.pending = [] ∧ MayTake r (withRequests [r] running) := by
  simp only [mayTake_iff]
  refine ⟨?_, ?_, ?_, ?_, ?_, ?_, ?_, ?_, ?_, ?_, rfl, ?_⟩ <;> decide +kernel

/-- A head that no turn and no arrival makes MGU take, and a head that a command which asks nothing
leaves. -/
theorem witness_RequestsWaitOrAreDropped_blocked :
    let r := ownRequest 0 3 6 env noBody running
    let copies := withRequests [r] (after (.copy env noBody) config)
    let full := withRequests [r] (busy running |>.modPort .quay fun p =>
      { p with queue := List.replicate 16 filler })
    copies.mgu.requests = [r] ∧ copies.mgu.executing.isSome = true ∧
      full.mgu.requests = [r] ∧ (full.tif.port r.port).room = 0 ∧
      (full.tif.port r.port).sending.isSome = true ∧
      (∀ turns, Instr.evaluationComplete turns ≠ .frameSent r.port turns) ∧
      (∀ turns, Instr.frameSent .field turns ≠ .frameSent r.port turns) ∧
      full.resetHeld = none ∧ TrunkSound (full.elapse 0) ∧
      (full.elapse 0).mgu.requests = [r] ∧ ¬ MayTake r (full.elapse 0) ∧
      AsksNothing .zoneEvaluation ∧
      (∃ v, Sys2Proof.Machine.exec .zoneEvaluation (withRequests [] full) = .next v) ∧
      full.mgu.requests ≠ [] := by
  refine ⟨rfl, rfl, rfl, by decide +kernel, rfl, nofun, nofun, rfl, ⟨fun p => ?_, by decide, rfl⟩, rfl,
    fun h => absurd h.room (by decide +kernel), ?_, ⟨_, rfl⟩, nofun⟩
  · cases p <;> refine ⟨trivial, ?_, ?_, ?_, nofun⟩ <;> decide +kernel
  · simp [AsksNothing]

theorem witness_NoticesFollowTheFlags :
    let s := sinceProbe 1000 config
    let flags := fun (f : ClassFlags) =>
      { s with mgu := { s.mgu with notices := { s.mgu.notices with round := f } } }
    (∀ f, AtProbeEnd (flags f)) ∧ s.mgu.notices.round.enable = false ∧
      (flags { enable := true, mask := true, status := false }).mgu.notices.round.mask = true ∧
      (flags { enable := true, mask := false, status := false }).mgu.notices.round.mask = false ∧
      1 ≤ s.tif.quayPort.room ∧
      (s.modPort .quay fun p => { p with queue := List.replicate 16 filler }).tif.quayPort.room =
        0 ∧
      ∀ c, (running.mgu.notices.flags c).enable = false ∧
        ((speaks c running).mgu.notices.flags c).enable = true ∧
        ((speaks c running).mgu.notices.flags c).mask = false := by
  refine ⟨fun _ => ⟨rfl, rfl, 1000, rfl, (by decide : 20 * 50 ≤ 1000)⟩, ?_, ?_, ?_, ?_, ?_,
    fun c => ?_⟩
  case refine_6 => cases c <;> decide +kernel
  all_goals decide +kernel

/-! ### Witnesses: a sound state that steps -/

/-- The idle part's time passes. -/
theorem idle_steps : step idle = .next idle.passTime :=
  congrArg (fun s : State => Host.Outcome.next s.passTime)
    (settle_quiet idle nofun (by decide) (by decide) (by decide) (by decide) (by decide))

/-- Every slot of the idle part is at its reset value. -/
theorem idle_station (i : Fin 48) : idle.station i = .cleared := by
  revert i; decide +kernel

theorem idle_intake (i : Fin 48) : idle.intake i = .cleared := by
  revert i; decide +kernel

theorem idle_zone (z : Fin 32) : idle.zone z = .cleared := by
  revert z; decide +kernel

theorem witness_EveryStepKeepsTheTrunkSound :
    TrunkSound idle ∧ ∃ t, step idle = .next t := by
  refine ⟨⟨fun p => ?_, by decide, rfl⟩, _, idle_steps⟩
  cases p <;> exact ⟨trivial, by decide, by decide, by decide, fun _ => by decide⟩

theorem witness_EveryStepKeepsTheRoundsSound :
    RoundsSound idle ∧ ∃ t, step idle = .next t :=
  ⟨rounds_sound _ (by decide) (fun _ => ⟨rfl, rfl, rfl, rfl, rfl, rfl⟩) nofun nofun rfl rfl
    ⟨nofun, fun h => absurd rfl h⟩ ⟨nofun, rfl⟩, _, idle_steps⟩

theorem witness_EveryStepKeepsTheOutstandingCount :
    RoundsSound idle ∧ OutstandingSound idle ∧ ∃ t, step idle = .next t :=
  ⟨witness_EveryStepKeepsTheRoundsSound.1,
    ⟨by decide, fun h => absurd h (by decide), fun h => absurd h (by decide)⟩, _, idle_steps⟩

theorem witness_EveryStepKeepsTheStationsSound :
    StationsSound idle ∧ ∃ t, step idle = .next t := by
  refine ⟨fun i => ?_, _, idle_steps⟩
  have hs := idle_station i
  have hi := idle_intake i
  constructor
  · rw [hs]; exact cfg_sound .absent false
  · rw [hs]; exact comp_sound
  · rw [hs]; decide
  · rw [hs]; decide
  · rw [hs]; decide
  · rw [hs]; decide
  · rw [hs]; decide
  · intro x h; rw [hi] at h; cases h
  · intro _; rw [hi]; exact ⟨rfl, rfl⟩
  · intro x h; rw [hi] at h; cases h

/-- A bank after reset is sound. -/
theorem bank_sound : Bank.cleared.Sound := by
  refine ⟨by decide, fun _ => ⟨by simp [Bank.cleared, plumeRead, PlumeEntry.cleared],
    by simp [Bank.cleared, plumeRead, PlumeEntry.cleared]⟩, fun z => ?_,
    fun h => absurd h (by decide)⟩
  have h : Bank.cleared.zones[z] = ZoneCfg.cleared := by revert z; decide +kernel
  rw [h]
  constructor <;> decide

theorem witness_EveryStepKeepsTheBanksSound :
    BanksSound idle ∧ ∃ t, step idle = .next t :=
  ⟨⟨bank_sound, bank_sound, fun h => absurd h (by decide), fun h => absurd h (by decide),
    by decide +kernel⟩, _, idle_steps⟩

theorem witness_EveryStepKeepsTheZonesSound :
    RoundsSound idle ∧ BanksSound idle ∧ ZonesSound idle ∧ ∃ t, step idle = .next t := by
  refine ⟨witness_EveryStepKeepsTheRoundsSound.1, witness_EveryStepKeepsTheBanksSound.1,
    ⟨fun z => ?_, fun z _ => ?_, fun _ z => ?_, fun z h => absurd h (by decide +revert),
      by decide, fun h => absurd h (by decide), fun _ z => ?_⟩, _, idle_steps⟩
  · rw [idle_zone]; constructor <;> decide +kernel
  · rw [idle_zone]; constructor <;> decide +kernel
  · rw [idle_zone]; constructor <;> decide +kernel
  · revert z; decide +kernel

theorem witness_EveryStepKeepsTheLinesSound :
    LinesSound idle ∧ ∃ t, step idle = .next t :=
  ⟨⟨by decide +kernel, by decide +kernel⟩, _, idle_steps⟩

end Sys2Proof.Tests
end

section
/-! Proofs about PLU's YARD frames (chapter 6): what an event does to a pile's record, which frames are
rejected, and the one state change a YARD copy makes. -/

namespace Sys2Proof.Machine

/-! ### Table indices -/

/-- An index inside the table names its slot. -/
theorem indexOf_val {n k : Nat} {i : Fin n} (h : k = i.val) : indexOf n k = some i := by
  subst h
  simp [indexOf]

theorem indexOf_beyond {n k : Nat} (h : n ≤ k) : indexOf n k = none := by
  simp [indexOf, Nat.not_lt.mpr h]

/-! ### The five events (R98) -/

section
variable (n : Nat) (d : PileDyn)

@[simp] theorem applyYard_start : applyYard 1 n d = some { d with activity := .working } := rfl

@[simp] theorem applyYard_stop : applyYard 2 n d = some { d with activity := .idle } := rfl

@[simp] theorem applyYard_dry : applyYard 3 0 d = some { d with wet := 0 } := rfl

theorem applyYard_wet (h : n ≠ 0) : applyYard 3 n d = some { d with wet := max d.wet n } := by
  simp [applyYard, h]

@[simp] theorem applyYard_shieldOn : applyYard 4 n d = some { d with shielded := true } := rfl

@[simp] theorem applyYard_shieldOff : applyYard 5 n d = some { d with shielded := false } := rfl

/-- A code outside 1..5 has no event, whatever the pile's record. -/
theorem applyYard_unknown {event : Byte} (h : event = 0 ∨ 6 ≤ event.toNat) :
    applyYard event n d = none := by
  have differs : ∀ k : Byte, 1 ≤ k.toNat → k.toNat ≤ 5 → event ≠ k := by
    rintro _ hlow hhigh rfl
    rcases h with rfl | hcode
    · exact absurd hlow (by decide)
    · omega
  simp [applyYard, differs]

end

/-! ### Accepted and rejected frames (R97) -/

/-- A frame that names an enabled pile gives what its event makes of that pile's record. -/
theorem yardResult_enabled {y : YardCopy} {s : State} {p : Fin 24} (hp : y.pile.toNat = p.val)
    (hen : (s.pile p).cfg.enable = true) :
    yardResult y s =
      (applyYard y.event y.duration.toNat (s.pile p).dyn).map fun d => (p, d) := by
  simp [yardResult, indexOf_val hp, hen]

theorem yardResult_disabled {y : YardCopy} {s : State} {p : Fin 24} (hp : y.pile.toNat = p.val)
    (hen : (s.pile p).cfg.enable = false) : yardResult y s = none := by
  simp [yardResult, indexOf_val hp, hen]

theorem yardResult_beyond {y : YardCopy} {s : State} (h : 24 ≤ y.pile.toNat) :
    yardResult y s = none := by
  simp [yardResult, indexOf_beyond h]

/-- A frame with a code outside 1..5 is rejected, whichever pile it names. -/
theorem yardResult_unknown {y : YardCopy} {s : State} (h : y.event = 0 ∨ 6 ≤ y.event.toNat) :
    yardResult y s = none := by
  unfold yardResult
  split
  · simp [applyYard_unknown _ _ h]
  · rfl

/-! ### The command -/

/-- With no reset held, PLU takes the copy. -/
theorem exec_yardArrival {y : YardCopy} {s : State} (hr : s.resetHeld = none) :
    exec (.yardArrival y) s = .next (takeYard y s) := by
  have harm : exec (.yardArrival y) s = whenReleased (takeYard y) s := rfl
  simp [harm, whenReleased, hr]

/-- An accepted frame changes the named pile's dynamic record and nothing else. -/
theorem exec_yardArrival_accepted {y : YardCopy} {s : State} {p : Fin 24} {x : PileDyn}
    (hr : s.resetHeld = none) (hp : y.pile.toNat = p.val) (hen : (s.pile p).cfg.enable = true)
    (hx : applyYard y.event y.duration.toNat (s.pile p).dyn = some x) :
    exec (.yardArrival y) s = .next (s.setPile p { s.pile p with dyn := x }) := by
  have hres : yardResult y s = some (p, x) := by simp [yardResult_enabled hp hen, hx]
  simp [exec_yardArrival hr, takeYard, hres]

/-- A rejected frame changes the yard rejects counter and nothing else. -/
theorem exec_yardArrival_rejected {y : YardCopy} {s : State} (hr : s.resetHeld = none)
    (hres : yardResult y s = none) :
    exec (.yardArrival y) s =
      .next (s.setPlu { s.plu with yardRejects := bump s.plu.yardRejects }) := by
  simp [exec_yardArrival hr, takeYard, hres]

/-- Settles O35: an accepted frame by what its event does to the record, a rejected one by each of the
grounds of R97. -/
theorem yardEventsApplyAtOnce : Obligations.YardEventsApplyAtOnce := by
  intro y s hr
  refine ⟨fun p hp hen => ?accepted, fun h => exec_yardArrival_rejected hr ?rejected⟩
  case accepted =>
    intro d gives
    have applies {x : PileDyn} (hx : applyYard y.event y.duration.toNat d = some x) : gives x :=
      exec_yardArrival_accepted hr hp hen hx
    refine ⟨fun he => applies ?start, fun he => applies ?stop, fun he hn => applies ?dry,
      fun he hn => applies ?wet, fun he => applies ?shieldOn, fun he => applies ?shieldOff⟩
    case start => rw [he, applyYard_start]
    case stop => rw [he, applyYard_stop]
    case dry => rw [he, hn]; exact applyYard_dry d
    case wet => rw [he]; exact applyYard_wet _ d fun h0 => hn (BitVec.eq_of_toNat_eq h0)
    case shieldOn => rw [he, applyYard_shieldOn]
    case shieldOff => rw [he, applyYard_shieldOff]
  case rejected =>
    rcases h with hpile | ⟨p, hp, hdis⟩ | hevent
    · exact yardResult_beyond hpile
    · exact yardResult_disabled hp hdis
    · exact yardResult_unknown hevent

end Sys2Proof.Machine
end

section
/-! Proofs about the warning lines and SVC (R161, R162): what their levels are read from, which
operations leave all of that as it is and which end in OUT's re-evaluation, and from the two that
every step keeps the pins at their levels. -/

namespace Sys2Proof.Machine

/-! ### The pins and their levels -/

section
variable (s : State)

theorem running_iff : s.running = true ↔ s.rct.opState = .run := by
  simp [State.running]

theorem not_running_iff : s.running = false ↔ s.rct.opState = .config := by
  cases h : s.rct.opState <;> simp [State.running, h]

theorem lineDrivenBy_iff (l : LineCfg) (z : Fin 32) (enabled : Bool) (t : Tuple) :
    lineDrivenBy l z enabled t = true ↔
      l.mask.getLsbD z.val = true ∧ enabled = true ∧ l.minLevel.code ≤ t.level.code ∧
        (t.drill = false ∨ l.drillPass = true) := by
  simp [lineDrivenBy, and_assoc]

theorem tuple_drill_iff (z : Zone) : z.tuple.drill = false ↔ z.drillTimer = 0 := by
  simp [Zone.tuple]

/-- A line's level is the one of R161. -/
theorem lineLevel_iff (n : Fin 8) :
    lineLevel s n = true ↔
      s.rct.opState = .run ∧ ∃ z : Fin 32,
        s.out.lines[n].mask.getLsbD z.val = true ∧ s.zoneEnabled z = true ∧
        s.out.lines[n].minLevel.code ≤ (s.zone z).effective.code ∧
        ((s.zone z).drillTimer = 0 ∨ s.out.lines[n].drillPass = true) := by
  simp only [lineLevel, Bool.and_eq_true, running_iff, List.any_eq_true, mem_indices, true_and,
    lineDrivenBy_iff, tuple_drill_iff]
  rfl

/-- SVC's level is the one of R162. -/
theorem svcLevel_iff :
    svcLevel s = true ↔
      s.rct.opState = .config ∨ (∃ z, (s.zone z).degraded = true) ∨
        ∃ i, (s.station i).health.state = .retired := by
  simp [svcLevel, not_running_iff, anyDegraded, anyRetired, or_assoc]

/-- The pins are sound exactly when they show the levels OUT would give them now. -/
theorem linesSound_iff :
    LinesSound s ↔ (∀ n : Fin 8, s.out.wl[n] = lineLevel s n) ∧ s.out.svc = svcLevel s := by
  constructor
  · rintro ⟨lines, svc⟩
    exact ⟨fun n => Bool.eq_iff_iff.mpr ((lines n).trans (lineLevel_iff s n).symm),
      Bool.eq_iff_iff.mpr (svc.trans (svcLevel_iff s).symm)⟩
  · rintro ⟨lines, svc⟩
    exact ⟨fun n => by rw [lines n, lineLevel_iff], by rw [svc, svcLevel_iff]⟩

end

/-! ### States with the same lines -/

/-- `t` agrees with `s` on the pins and on everything their levels are read from: the operating
state, the line records, the zones enabled, the display tuples, and which stations are RETIRED. -/
structure SameLines (s t : State) : Prop where
  wl : t.out.wl = s.out.wl
  svc : t.out.svc = s.out.svc
  lines : t.out.lines = s.out.lines
  opState : t.rct.opState = s.rct.opState
  enabled : ∀ z, t.zoneEnabled z = s.zoneEnabled z
  tuple : ∀ z, (t.zone z).tuple = (s.zone z).tuple
  retired : ∀ i, (t.station i).health.state = .retired ↔ (s.station i).health.state = .retired

section
variable {s t : State}

theorem SameLines.lineLevel_eq (h : SameLines s t) : lineLevel t = lineLevel s := by
  funext n
  simp only [lineLevel, State.running, h.opState, h.lines, h.enabled, h.tuple]

theorem SameLines.svcLevel_eq (h : SameLines s t) : svcLevel t = svcLevel s := by
  have degraded (z : Fin 32) : (t.zone z).degraded = (s.zone z).degraded :=
    congrArg Tuple.degraded (h.tuple z)
  rw [Bool.eq_iff_iff]
  simp only [svcLevel_iff, h.opState, h.retired, degraded]

theorem SameLines.linesSound_iff (h : SameLines s t) : LinesSound t ↔ LinesSound s := by
  rw [Machine.linesSound_iff, Machine.linesSound_iff, h.lineLevel_eq, h.svcLevel_eq, h.wl, h.svc]

theorem LinesSound.of_same (h : LinesSound s) (same : SameLines s t) : LinesSound t :=
  same.linesSound_iff.mpr h

/-- Which zones are enabled is read from PJU alone. -/
theorem zoneEnabled_congr (h : t.pju = s.pju) (z : Fin 32) : t.zoneEnabled z = s.zoneEnabled z := by
  simp only [State.zoneEnabled, State.zoneCfg, h]

/-- TIF, SIN, PLU, MGU, the stage and the queue of commands are not read. -/
theorem linesSound_congr (hrct : t.rct = s.rct) (hstu : t.stu = s.stu) (hpju : t.pju = s.pju)
    (hznu : t.znu = s.znu) (hout : t.out = s.out) : LinesSound t ↔ LinesSound s := by
  have tuple (z : Fin 32) : (t.zone z).tuple = (s.zone z).tuple := by rw [State.zone_congr hznu]
  have retired (i : Fin 48) :
      (t.station i).health.state = .retired ↔ (s.station i).health.state = .retired := by
    rw [State.station_congr hstu]
  exact SameLines.linesSound_iff ⟨congrArg Out.wl hout, congrArg Out.svc hout,
    congrArg Out.lines hout, congrArg Rct.opState hrct, zoneEnabled_congr hpju, tuple, retired⟩

/-- RCT is read for the operating state alone. -/
theorem LinesSound.after_setRct {x : Rct} (h : LinesSound s) (hx : x.opState = s.rct.opState) :
    LinesSound (s.setRct x) :=
  h.of_same ⟨rfl, rfl, rfl, hx, fun _ => rfl, fun _ => rfl, fun _ => Iff.rfl⟩

/-- PJU is read for the active zone table alone. -/
theorem LinesSound.after_setPju {x : Pju} (h : LinesSound s)
    (hx : x.active.zones = s.pju.active.zones) : LinesSound (s.setPju x) := by
  have enabled (z : Fin 32) : (s.setPju x).zoneEnabled z = s.zoneEnabled z := by
    simp only [State.zoneEnabled, State.zoneCfg, State.setPju_pju, hx]
  exact h.of_same ⟨rfl, rfl, rfl, rfl, enabled, fun _ => rfl, fun _ => Iff.rfl⟩

/-- OUT is read for the pins and the line records alone. -/
theorem LinesSound.after_setOut {x : Out} (h : LinesSound s) (hwl : x.wl = s.out.wl)
    (hsvc : x.svc = s.out.svc) (hlines : x.lines = s.out.lines) : LinesSound (s.setOut x) :=
  h.of_same ⟨hwl, hsvc, hlines, rfl, fun _ => rfl, fun _ => rfl, fun _ => Iff.rfl⟩

/-- ZNU is read for its zone records alone. -/
theorem LinesSound.after_setZnu {x : Znu} (h : LinesSound s) (hx : x.zones = s.znu.zones) :
    LinesSound (s.setZnu x) := by
  have tuple (z : Fin 32) : ((s.setZnu x).zone z).tuple = (s.zone z).tuple := by
    simp only [State.zone, State.setZnu_znu, hx]
  exact h.of_same ⟨rfl, rfl, rfl, rfl, fun _ => rfl, tuple, fun _ => Iff.rfl⟩

/-- A zone record is read for its display tuple alone. -/
theorem LinesSound.after_setZone {z : Fin 32} {x : Zone} (h : LinesSound s)
    (hx : x.tuple = (s.zone z).tuple) : LinesSound (s.setZone z x) := by
  have tuple (j : Fin 32) : ((s.setZone z x).zone j).tuple = (s.zone j).tuple := by
    rw [State.zone_setZone]
    split
    next hj => rw [hj, hx]
    next => rfl
  exact h.of_same ⟨rfl, rfl, rfl, rfl, fun _ => rfl, tuple, fun _ => Iff.rfl⟩

theorem LinesSound.after_mapZones {f : Fin 32 → Zone → Zone} (h : LinesSound s)
    (hf : ∀ z x, (f z x).tuple = x.tuple) : LinesSound (s.mapZones f) := by
  have tuple (z : Fin 32) : ((s.mapZones f).zone z).tuple = (s.zone z).tuple := by
    rw [State.zone_mapZones, hf]
  exact h.of_same ⟨by simp, by simp, by simp, by simp, zoneEnabled_congr (by simp), tuple,
    fun i => by rw [State.station_congr (State.mapZones_stu s f)]⟩

/-- A station slot is read for whether it is RETIRED alone. -/
theorem LinesSound.after_setStation {i : Fin 48} {x : Station} (h : LinesSound s)
    (hx : x.health.state = .retired ↔ (s.station i).health.state = .retired) :
    LinesSound (s.setStation i x) := by
  have retired (j : Fin 48) :
      ((s.setStation i x).station j).health.state = .retired ↔
        (s.station j).health.state = .retired := by
    rw [State.station_setStation]
    split
    next hj => rw [hj, hx]
    next => rfl
  exact h.of_same ⟨rfl, rfl, rfl, rfl, fun _ => rfl, fun _ => rfl, retired⟩

theorem LinesSound.after_mapStations {f : Fin 48 → Station → Station} (h : LinesSound s)
    (hf : ∀ i x, (f i x).health.state = .retired ↔ x.health.state = .retired) :
    LinesSound (s.mapStations f) := by
  have retired (i : Fin 48) :
      ((s.mapStations f).station i).health.state = .retired ↔
        (s.station i).health.state = .retired := by
    rw [State.station_mapStations, hf]
  exact h.of_same ⟨by simp, by simp, by simp, by simp, zoneEnabled_congr (by simp),
    fun z => by rw [State.zone_congr (State.mapStations_znu s f)], retired⟩

/-- What raising events changes is not read. -/
theorem SameButNotices.linesSound_iff (h : SameButNotices s t) : LinesSound t ↔ LinesSound s :=
  linesSound_congr h.rct h.stu h.pju h.znu h.out

end

section
variable (s : State)

@[simp] theorem linesSound_setTif (x : Tif) : LinesSound (s.setTif x) ↔ LinesSound s :=
  linesSound_congr rfl rfl rfl rfl rfl

@[simp] theorem linesSound_setSin (x : Vector Intake 48) : LinesSound (s.setSin x) ↔ LinesSound s :=
  linesSound_congr rfl rfl rfl rfl rfl

@[simp] theorem linesSound_setPlu (x : Plu) : LinesSound (s.setPlu x) ↔ LinesSound s :=
  linesSound_congr rfl rfl rfl rfl rfl

@[simp] theorem linesSound_setMgu (x : Mgu) : LinesSound (s.setMgu x) ↔ LinesSound s :=
  linesSound_congr rfl rfl rfl rfl rfl

@[simp] theorem linesSound_setStage (x : EvalStage) : LinesSound (s.setStage x) ↔ LinesSound s :=
  linesSound_congr rfl rfl rfl rfl rfl

@[simp] theorem linesSound_setPending (x : List Instr) :
    LinesSound (s.setPending x) ↔ LinesSound s :=
  linesSound_congr rfl rfl rfl rfl rfl

@[simp] theorem linesSound_setResetHeld (x : Option ResetCause) :
    LinesSound (s.setResetHeld x) ↔ LinesSound s :=
  linesSound_congr rfl rfl rfl rfl rfl

@[simp] theorem linesSound_modPort (p : Port) (f : PortState → PortState) :
    LinesSound (s.modPort p f) ↔ LinesSound s := linesSound_setTif s _

@[simp] theorem linesSound_setNotices (n : Notices) : LinesSound (s.setNotices n) ↔ LinesSound s :=
  linesSound_setMgu s _

@[simp] theorem linesSound_setIntake (i : Fin 48) (x : Intake) :
    LinesSound (s.setIntake i x) ↔ LinesSound s := linesSound_setSin s _

@[simp] theorem linesSound_mapIntakes (f : Fin 48 → Intake → Intake) :
    LinesSound (s.mapIntakes f) ↔ LinesSound s := linesSound_setSin s _

@[simp] theorem linesSound_setPile (i : Fin 24) (x : Pile) :
    LinesSound (s.setPile i x) ↔ LinesSound s := linesSound_setPlu s _

@[simp] theorem linesSound_raise (c : NoticeClass) (r : Report) :
    LinesSound (raise c r s) ↔ LinesSound s := (raise_same c r s).linesSound_iff

@[simp] theorem linesSound_raiseAll (events : List (NoticeClass × Report)) :
    LinesSound (raiseAll events s) ↔ LinesSound s := (raiseAll_same events s).linesSound_iff

@[simp] theorem linesSound_clearTallies : LinesSound (clearTallies s) ↔ LinesSound s :=
  (clearTallies_same s).linesSound_iff

@[simp] theorem linesSound_trunkError (p : Port) (e : TrunkError) :
    LinesSound (trunkError p e s) ↔ LinesSound s := (trunkError_same p e s).linesSound_iff

end

/-! ### OUT's re-evaluation -/

/-- OUT's re-evaluation makes the pins sound, whatever they were. -/
theorem linesSound_reevaluate (s : State) : LinesSound (reevaluate s) := by
  have lines : lineLevel (reevaluate s) = lineLevel s := rfl
  have svc : svcLevel (reevaluate s) = svcLevel s := rfl
  rw [linesSound_iff, lines, svc]
  exact ⟨fun n => by simp [reevaluate], rfl⟩

/-- In CONFIG the pins are sound with every line inactive and SVC active. -/
theorem linesSound_of_config {s : State} (hc : s.rct.opState = .config)
    (hwl : s.out.wl = Vector.replicate 8 false) (hsvc : s.out.svc = true) : LinesSound s := by
  constructor
  · intro n
    simp [hwl, hc]
  · simp [hsvc, hc]

/-! ### Choices and folds -/

/-- What is done on a condition, and otherwise nothing. -/
theorem LinesSound.after_ite {c : Prop} [Decidable c] {s t : State} (h : LinesSound s)
    (ht : LinesSound t) : LinesSound (if c then t else s) := by
  split
  next => exact ht
  next => exact h

/-- Visits that each keep the pins sound keep them sound together. -/
theorem LinesSound.after_foldl {α : Type} {visit : State → α → State}
    (hv : ∀ s a, LinesSound s → LinesSound (visit s a)) (l : List α) {s : State}
    (h : LinesSound s) : LinesSound (l.foldl visit s) :=
  List.foldlRecOn l visit h fun s hs a _ => hv s a hs

/-! ### TIF (chapter 1) -/

section
variable {s : State} (p : Port) (f : Frame)

@[simp] theorem linesSound_wakeOutbound : LinesSound (wakeOutbound p s) ↔ LinesSound s :=
  linesSound_setTif s _

@[simp] theorem linesSound_offerTransit : LinesSound (offerTransit p f s) ↔ LinesSound s := by
  unfold offerTransit
  split
  next => exact linesSound_setTif s _
  next => exact linesSound_trunkError s p .drop

@[simp] theorem linesSound_forwardFrame : LinesSound (forwardFrame p f s) ↔ LinesSound s := by
  simp [forwardFrame]

end

/-! ### Rounds and stations (chapters 2 to 5) -/

section
variable {s : State}

theorem LinesSound.after_openRound (h : LinesSound s) : LinesSound (openRound s) := by
  simp only [openRound, linesSound_setTif, linesSound_mapIntakes]
  exact h.after_setRct rfl

/-- A close ends in OUT's re-evaluation (R162). -/
theorem linesSound_closeRound (s : State) : LinesSound (closeRound s) := by
  simp only [closeRound, linesSound_setStage]
  exact linesSound_reevaluate _

theorem LinesSound.after_reportReading (i : Fin 48) (h : LinesSound s) :
    LinesSound (reportReading i s) := by
  unfold reportReading
  dsimp only
  split
  next =>
    split
    next => exact linesSound_closeRound _
    next => exact h.after_setRct rfl
  next => exact h

theorem LinesSound.after_probeSample (c : SampleCopy) (h : LinesSound s) :
    LinesSound (probeSample c s) :=
  h.after_ite (h.after_setRct rfl)

theorem markTest_retired (test : Bool) (st : Station) :
    (st.markTest test).health.state = .retired ↔ st.health.state = .retired := by
  cases test <;> rfl

theorem drillEnded_retired (st : Station) :
    st.drillEnded.health.state = .retired ↔ st.health.state = .retired := by
  unfold Station.drillEnded
  split <;> rfl

/-- A write to kind or enable neither retires a station nor ends a retirement (R91). -/
theorem writeService_retired (st : Station) (c : StationCfg) :
    (st.writeService c).health.state = .retired ↔ st.health.state = .retired := by
  by_cases h : st.health.state = .retired
  case pos => simp [Station.writeService, HealthRecord.afterWrite, h]
  case neg =>
    simp only [Station.writeService, HealthRecord.afterWrite, h, if_false, iff_false]
    split
    next => simp
    next =>
      split
      next => simp
      next => exact h

theorem LinesSound.after_moveTookTest (h : LinesSound s) : LinesSound (moveTookTest s) :=
  h.after_mapStations fun _ => drillEnded_retired

/-! ### Sample intake (chapter 3) -/

theorem LinesSound.after_acceptSample (c : SampleCopy) (h : LinesSound s) :
    LinesSound (acceptSample c s) := by
  have marked (it : Intake) :
      LinesSound ((s.setIntake c.station it).setStation c.station
        ((s.station c.station).markTest (sampleTest c))) :=
    ((linesSound_setIntake s _ it).mpr h).after_setStation (markTest_retired _ _)
  unfold acceptSample
  dsimp only
  split
  next => exact (marked _).after_reportReading _
  next => exact marked _

theorem LinesSound.after_takeSample (c : SampleCopy) (h : LinesSound s) :
    LinesSound (takeSample c s) := by
  unfold takeSample runSample
  split
  next =>
    split
    next => exact h.after_acceptSample c
    next => exact (linesSound_setIntake s _ _).mpr h
  next =>
    split
    next => exact h.after_probeSample c
    next => exact h

/-! ### Stockpiles (chapter 6) -/

theorem LinesSound.after_takeYard (y : YardCopy) (h : LinesSound s) :
    LinesSound (takeYard y s) := by
  unfold takeYard
  split
  next => exact (linesSound_setPile s _ _).mpr h
  next => exact (linesSound_setPlu s _).mpr h

theorem LinesSound.after_visitPile (p : Fin 24) (h : LinesSound s) :
    LinesSound (visitPile p s) := by
  simp only [visitPile, linesSound_setStage]
  refine LinesSound.after_setPju ?_ rfl
  simpa using h

/-! ### Banks and projection (chapter 7) -/

/-- The standby bank is not the active one. -/
@[simp] theorem Pju.active_setStandby (p : Pju) (b : Bank) :
    (p.setStandby b).active = p.active := by
  cases h : p.activeIs1 <;> simp [Pju.setStandby, Pju.active, h]

/-- An exchange ends in OUT's re-evaluation (R161, R162). -/
theorem linesSound_exchange (s : State) : LinesSound (exchange s) := linesSound_reevaluate _

theorem LinesSound.after_postEntry (amount : Nat) (e : PlumeEntry) (h : LinesSound s) :
    LinesSound (postEntry amount e s) :=
  h.after_ite (h.after_setZone rfl)

theorem LinesSound.after_postContribution (c : Contribution) (h : LinesSound s) :
    LinesSound (postContribution s c) :=
  h.after_foldl (fun _ _ hs => hs.after_postEntry _ _) _

theorem LinesSound.after_project (h : LinesSound s) : LinesSound (project s) := by
  have exchanged : LinesSound (if s.pju.swapPending then exchange s else s) := by
    split
    next => exact linesSound_exchange s
    next => exact h
  simp only [project, linesSound_setStage]
  exact (exchanged.after_foldl (fun _ c hs => hs.after_postContribution c) _).after_setPju rfl

/-! ### Zones and drills (chapters 8 and 9) -/

/-- A zone's evaluation ends in OUT's re-evaluation (R161). -/
theorem linesSound_evaluateZone (z : Fin 32) (s : State) : LinesSound (evaluateZone z s) := by
  simp only [evaluateZone, linesSound_setStage]
  exact linesSound_reevaluate _

/-- A timer lowered to at most 2 stands at 0 exactly when it stood there: no zone leaves its drill
(R149). -/
theorem LinesSound.after_endDrillZones (half : Nat) (mask : Word) (h : LinesSound s) :
    LinesSound (endDrillZones half mask s) := by
  refine h.after_mapZones fun z x => ?_
  split
  next => simp [Zone.tuple]
  next => rfl

theorem LinesSound.after_lastDrillEnd (h : LinesSound s) : LinesSound (lastDrillEnd s) :=
  h.after_ite h.after_moveTookTest

/-! ### Signs (chapter 10) -/

theorem LinesSound.after_signVisit (z : Fin 32) (h : LinesSound s) :
    LinesSound (signVisit s z) := by
  unfold signVisit
  dsimp only
  split
  next =>
    split
    next =>
      split
      next => exact ((linesSound_setTif s _).mpr h).after_setZone rfl
      next => exact h.after_setZone rfl
    next => exact h.after_setZone rfl
  next => exact h

theorem LinesSound.after_drainVisit (z : Fin 32) (h : LinesSound s) :
    LinesSound (drainVisit s z) := by
  unfold drainVisit
  split
  next =>
    split
    next =>
      refine LinesSound.after_setOut ?_ rfl rfl rfl
      exact ((linesSound_setTif s _).mpr h).after_setZone rfl
    next => exact h
  next => exact h

/-! ### READ and WRITE (chapter 11) -/

theorem LinesSound.after_clearOnRead (u t i f : Nat) (h : LinesSound s) :
    LinesSound (clearOnRead u t i f s) := by
  have status : LinesSound (clearNoticeStatus s) :=
    ((linesSound_setNotices s _).mpr h).after_setRct rfl
  unfold clearOnRead
  split
  case h_1 => split_ifs <;> simpa using h
  case h_2 =>
    split_ifs
    · exact status
    all_goals simpa using h
  case h_3 => split <;> simpa using h
  case h_4 => split_ifs <;> simpa using h
  case h_5 => exact h

/-- `x` is what a judged value stores, as it was written or at the nearer bound (R169). -/
def Judged.Stores {α : Type} (j : Judged α) (x : α) : Prop := j = .stored x ∨ j = .clamped x

theorem Judged.stores_into {α β : Type} {store : α → β} {j : Judged α} {y : β}
    (h : (j.into store).Stores y) : ∃ x, y = store x := by
  cases j with
  | stored x | clamped x => exact ⟨x, by simpa [Judged.Stores, Judged.into, eq_comm] using h⟩
  | bad => simp [Judged.Stores, Judged.into] at h

/-- A WRITE that is done has stored a value its field's judgement gives. -/
theorem storeJudged_done {α : Type} {permitted : Bool} {j : Option (Judged α)} {store : α → State}
    {status : Status} (h : storeJudged permitted j store = .done t status) :
    ∃ v x, j = some v ∧ v.Stores x ∧ t = store x := by
  unfold storeJudged at h
  split at h
  next => cases h
  next v =>
    split at h
    next =>
      split at h
      next x => cases h; exact ⟨_, x, rfl, .inl rfl, rfl⟩
      next x => cases h; exact ⟨_, x, rfl, .inr rfl, rfl⟩
      next => cases h
    next => cases h

/-- No field of the round configuration is the operating state. -/
theorem Rct.write_opState {r x : Rct} {f : Nat} {w : Word} {v : Judged Rct}
    (h : r.write f w = some v) (hx : v.Stores x) : x.opState = r.opState := by
  unfold Rct.write at h
  split at h
  case h_4 => cases h
  all_goals
    cases h
    obtain ⟨_, rfl⟩ := Judged.stores_into hx
    rfl

theorem LinesSound.after_writeRound {i f : Nat} {w : Word} {status : Status} (h : LinesSound s)
    (hw : writeRound i f w s = .done t status) : LinesSound t := by
  unfold writeRound at hw
  split at hw
  next =>
    obtain ⟨v, r, hv, hr, rfl⟩ := storeJudged_done hw
    exact h.after_setRct (Rct.write_opState hv hr)
  next => cases hw

theorem LinesSound.after_writeNotices {i f : Nat} {w : Word} {status : Status} (h : LinesSound s)
    (hw : writeNotices i f w s = .done t status) : LinesSound t := by
  unfold writeNotices at hw
  split at hw
  next =>
    obtain ⟨v, n, -, -, rfl⟩ := storeJudged_done hw
    dsimp only
    split
    next => exact (linesSound_setNotices s n).mpr h
    next => simpa using h
  next => cases hw

/-- A write moves no station into or out of RETIRED (R91). -/
theorem LinesSound.after_writeStation {i f : Nat} {w : Word} {status : Status} (h : LinesSound s)
    (hw : writeStation i f w s = .done t status) : LinesSound t := by
  unfold writeStation at hw
  split at hw
  next =>
    obtain ⟨v, c, -, -, rfl⟩ := storeJudged_done hw
    refine h.after_setStation ?_
    split
    next => exact writeService_retired _ c
    next => rfl
  next => cases hw

theorem LinesSound.after_writePile {i f : Nat} {w : Word} {status : Status} (h : LinesSound s)
    (hw : writePile i f w s = .done t status) : LinesSound t := by
  unfold writePile at hw
  split at hw
  next =>
    obtain ⟨v, c, -, -, rfl⟩ := storeJudged_done hw
    exact (linesSound_setPile s _ _).mpr h
  next => cases hw

theorem LinesSound.after_storeStandby (b : Bank) (h : LinesSound s) :
    LinesSound (storeStandby b s) := h.after_setPju (by simp)

theorem LinesSound.after_writePlume {i f : Nat} {w : Word} {status : Status} (h : LinesSound s)
    (hw : writePlume i f w s = .done t status) : LinesSound t := by
  unfold writePlume at hw
  split at hw
  next =>
    obtain ⟨v, e, -, -, rfl⟩ := storeJudged_done hw
    exact h.after_storeStandby _
  next => cases hw

theorem LinesSound.after_writeZoneCfg {i f : Nat} {w : Word} {status : Status} (h : LinesSound s)
    (hw : writeZoneCfg i f w s = .done t status) : LinesSound t := by
  unfold writeZoneCfg at hw
  split at hw
  next =>
    obtain ⟨v, c, -, -, rfl⟩ := storeJudged_done hw
    exact h.after_storeStandby _
  next => cases hw

/-- A line's record is stored and the pins re-evaluated at once (R160, R161). -/
theorem LinesSound.after_writeLineTable {i f : Nat} {w : Word} {status : Status}
    (h : LinesSound s) (hw : writeLineTable i f w s = .done t status) : LinesSound t := by
  unfold writeLineTable at hw
  split at hw
  next =>
    obtain ⟨v, r, -, -, rfl⟩ := storeJudged_done hw
    exact h.after_setOut rfl rfl rfl
  next =>
    split at hw
    next =>
      obtain ⟨v, c, -, -, rfl⟩ := storeJudged_done hw
      exact linesSound_reevaluate _
    next => cases hw

theorem LinesSound.after_writePanelMode {i f : Nat} {w : Word} {status : Status}
    (h : LinesSound s) (hw : writePanelMode i f w s = .done t status) : LinesSound t := by
  unfold writePanelMode at hw
  split at hw
  next =>
    obtain ⟨v, m, -, -, rfl⟩ := storeJudged_done hw
    exact h.after_setOut rfl rfl rfl
  next => cases hw

theorem LinesSound.after_writeField {u n i f : Nat} {w : Word} {status : Status} (h : LinesSound s)
    (hw : writeField u n i f w s = .done t status) : LinesSound t := by
  unfold writeField at hw
  split at hw
  case h_1 => exact h.after_writeRound hw
  case h_2 => exact h.after_writeNotices hw
  case h_3 => exact h.after_writeStation hw
  case h_4 => exact h.after_writePile hw
  case h_5 => exact h.after_writePlume hw
  case h_6 => exact h.after_writeZoneCfg hw
  case h_7 => exact h.after_writeLineTable hw
  case h_8 => exact h.after_writePanelMode hw
  case h_9 => cases hw

theorem LinesSound.after_runRead (r : Request) (h : LinesSound s) :
    LinesSound (runRead r s).1 := by
  unfold runRead
  dsimp only
  split
  next => exact h.after_clearOnRead _ _ _ _
  next => exact h

theorem LinesSound.after_runWrite (r : Request) (h : LinesSound s) :
    LinesSound (runWrite r s).1 := by
  unfold runWrite
  dsimp only
  split
  case h_4 _ _ hw => exact h.after_writeField hw
  all_goals exact h

/-! ### Commands to the units (chapter 11) -/

theorem LinesSound.after_runStart (r : Request) (h : LinesSound s) :
    LinesSound (runStart r s).1 := by
  unfold runStart
  split
  next => exact h
  next => exact linesSound_reevaluate _

theorem LinesSound.after_runStop (r : Request) (h : LinesSound s) :
    LinesSound (runStop r s).1 := by
  unfold runStop
  split
  next => exact linesSound_reevaluate _
  next => exact h

theorem LinesSound.after_runProbe (r : Request) (h : LinesSound s) :
    LinesSound (runProbe r s).1 := by
  unfold runProbe
  split
  next => exact h
  next => exact (linesSound_setTif _ _).mpr (h.after_setRct rfl)

theorem LinesSound.after_runSwap (r : Request) (h : LinesSound s) :
    LinesSound (runSwap r s).1 := by
  have validated : LinesSound (s.setPju s.pju.validated) :=
    h.after_setPju (by simp [Pju.validated])
  unfold runSwap
  dsimp only
  split
  next => exact h
  next =>
    split
    next => exact h
    next =>
      split
      next => exact validated.after_setPju rfl
      next => exact linesSound_exchange _

theorem LinesSound.after_runSnap (r : Request) (h : LinesSound s) :
    LinesSound (runSnap r s).1 := by
  unfold runSnap
  split
  next => exact (linesSound_setMgu s _).mpr h
  next => exact h

theorem LinesSound.after_runAdmit (r : Request) (h : LinesSound s) :
    LinesSound (runAdmit r s).1 := by
  unfold runAdmit
  split
  next => exact linesSound_reevaluate _
  next => exact h

/-- RELAX shortens a hold, which no line is read from (R142). -/
theorem LinesSound.after_runRelax (r : Request) (h : LinesSound s) :
    LinesSound (runRelax r s).1 := by
  unfold runRelax
  dsimp only
  split
  next =>
    split
    next =>
      refine h.after_setZone ?_
      split <;> rfl
    next => exact h
  next => exact h

theorem LinesSound.after_runDrill (r : Request) (h : LinesSound s) :
    LinesSound (runDrill r s).1 := by
  unfold runDrill
  dsimp only
  split
  next => exact h
  next =>
    split
    next => exact linesSound_reevaluate _
    next => exact h

theorem LinesSound.after_runEndDrill (r : Request) (h : LinesSound s) :
    LinesSound (runEndDrill r s).1 := by
  unfold runEndDrill
  dsimp only
  split
  next => exact h
  next =>
    split
    next => exact h.after_endDrillZones _ _
    next => exact h

theorem LinesSound.after_runCommand (r : Request) (h : LinesSound s) :
    LinesSound (runCommand r s).1 := by
  unfold runCommand
  split
  case h_1 => exact h.after_runStart r
  case h_2 => exact h.after_runStop r
  case h_3 => exact h.after_runProbe r
  case h_4 => exact h.after_runSwap r
  case h_5 => exact h.after_runSnap r
  case h_6 => exact h.after_runAdmit r
  case h_7 => exact h.after_runRelax r
  case h_8 => exact h.after_runDrill r
  case h_9 => exact h.after_runEndDrill r
  case h_10 => exact h

theorem LinesSound.after_runRequest (r : Request) (h : LinesSound s) :
    LinesSound (runRequest r s).1 := by
  unfold runRequest
  split_ifs
  · exact h
  · exact h.after_runRead r
  · exact h.after_runWrite r
  · exact h.after_runCommand r
  · exact h

/-! ### MGU's looks (R167, R168) -/

theorem LinesSound.after_takeRequest (r : Request) (h : LinesSound s) :
    LinesSound (takeRequest r s) := by
  have reserved : LinesSound (s.setTif (s.tif.reserve r.port)) := (linesSound_setTif s _).mpr h
  unfold takeRequest
  dsimp only
  split
  next => exact (linesSound_setMgu _ _).mpr reserved
  next => exact (linesSound_setTif _ _).mpr (reserved.after_runRequest r)

theorem LinesSound.after_look (h : LinesSound s) : LinesSound (look s) := by
  unfold look
  split
  next => exact h
  next =>
    split
    next => exact ((linesSound_setMgu s _).mpr h).after_takeRequest _
    next => exact h

theorem LinesSound.after_serve (n : Nat) (h : LinesSound s) : LinesSound (serve n s) := by
  induction n generalizing s with
  | zero => exact h
  | succ n ih => exact ih h.after_look

theorem LinesSound.after_serveQueue (h : LinesSound s) : LinesSound (serveQueue s) :=
  h.after_serve _

theorem LinesSound.after_interleave {visit : State → Fin 32 → State}
    (hv : ∀ s z, LinesSound s → LinesSound (visit s z)) (turns : List Turn) (begun : Bool)
    (todo : List (Fin 32)) (h : LinesSound s) :
    LinesSound (interleave visit turns begun todo s) := by
  induction turns generalizing begun todo s with
  | nil => exact h.after_foldl hv todo
  | cons turn turns ih =>
    cases turn with
    | out =>
      cases todo with
      | nil => exact ih begun [] h
      | cons z todo => exact ih true todo (hv s z h)
    | mgu =>
      simp only [interleave]
      split_ifs
      · exact ih begun todo h.after_look
      · exact ih begun [] (h.after_foldl hv todo).after_look
      · exact ih begun [] h.after_look

theorem LinesSound.after_contend {visit : State → Fin 32 → State}
    (hv : ∀ s z, LinesSound s → LinesSound (visit s z)) (turns : List Turn)
    (todo : List (Fin 32)) (h : LinesSound s) : LinesSound (contend visit turns todo s) := by
  have interleaved := h.after_interleave hv turns false todo
  unfold contend
  dsimp only
  split
  next => exact interleaved
  next => exact interleaved.after_look

theorem LinesSound.after_requestArrives (r : Request) (h : LinesSound s) :
    LinesSound (requestArrives r s) := by
  unfold requestArrives
  dsimp only
  split
  next => exact ((linesSound_setMgu s _).mpr h).after_serveQueue
  next => exact (linesSound_setMgu s _).mpr h

theorem LinesSound.after_ask (unit : Nat) (op table : Byte) (e : Envelope) (b : Body)
    (h : LinesSound s) : LinesSound (ask unit op table e b s) := h.after_requestArrives _

theorem LinesSound.after_copyDone (h : LinesSound s) : LinesSound (copyDone s) := by
  refine LinesSound.after_look ?_
  unfold finishCopy
  split
  next =>
    refine (linesSound_setTif _ _).mpr ((linesSound_setMgu _ _).mpr (h.after_setPju ?_))
    simp [Pju.copied]
  next => exact h

/-! ### Time and the events of the round cycle -/

theorem LinesSound.after_timerExpires (h : LinesSound s) : LinesSound (timerExpires s) :=
  h.after_ite ((h.after_setRct (x := s.rct.advance) rfl).after_openRound)

theorem LinesSound.after_deadlineFalls (h : LinesSound s) : LinesSound (deadlineFalls s) :=
  h.after_ite (linesSound_closeRound s)

theorem LinesSound.after_captureSnapshot (h : LinesSound s) : LinesSound (captureSnapshot s) :=
  h.after_ite ((linesSound_setMgu s _).mpr h)

/-- What a completion does before OUT's sign pass is read by no line, and neither is a sign visit
(R139, R151, R156). -/
theorem LinesSound.after_evaluationEnds (turns : List Turn) (h : LinesSound s) :
    LinesSound (evaluationEnds turns s) := by
  refine LinesSound.after_contend (fun _ z hs => hs.after_signVisit z) turns _ ?_
  refine LinesSound.after_captureSnapshot ((linesSound_setStage _ _).mpr ?_)
  exact LinesSound.after_setZnu (h.after_lastDrillEnd.after_setRct (by rfl)) rfl

theorem LinesSound.after_probeExpires (h : LinesSound s) : LinesSound (probeExpires s) :=
  h.after_ite ((linesSound_raise _ _ _).mpr (h.after_setRct rfl))

theorem LinesSound.after_evaluationStep (h : LinesSound s) : LinesSound (evaluationStep s) := by
  unfold evaluationStep
  split
  next => exact h
  next p _ => exact h.after_visitPile p
  next => exact h.after_project
  next z _ => exact linesSound_evaluateZone z s
  next => exact h.after_evaluationEnds []

theorem LinesSound.after_evaluationSteps (n : Nat) (h : LinesSound s) :
    LinesSound (evaluationSteps n s) := by
  induction n generalizing s with
  | zero => exact h
  | succ n ih => exact ih h.after_evaluationStep

theorem LinesSound.after_evaluationOverdue (h : LinesSound s) :
    LinesSound (evaluationOverdue s) :=
  h.after_ite ((h.after_evaluationSteps _).after_serveQueue)

theorem LinesSound.after_copyOverdue (h : LinesSound s) : LinesSound (copyOverdue s) :=
  h.after_ite h.after_copyDone.after_serveQueue

theorem LinesSound.after_settle (h : LinesSound s) : LinesSound (settle s) :=
  h.after_serveQueue.after_copyOverdue.after_deadlineFalls.after_evaluationOverdue
    |>.after_timerExpires.after_probeExpires.after_serveQueue

theorem LinesSound.after_passTime (h : LinesSound s) : LinesSound s.passTime :=
  (linesSound_setMgu _ _).mpr (h.after_setRct rfl)

theorem LinesSound.after_elapse (n : Nat) (h : LinesSound s) : LinesSound (s.elapse n) := by
  induction n generalizing s with
  | zero => exact h
  | succ n ih => exact ih h.after_settle.after_passTime

theorem LinesSound.after_pileTurn (h : LinesSound s) : LinesSound (pileTurn s) := by
  unfold pileTurn
  split
  case h_1 p _ => exact h.after_visitPile p
  all_goals exact h

theorem LinesSound.after_projectionTurn (h : LinesSound s) : LinesSound (projectionTurn s) := by
  unfold projectionTurn
  split
  case h_1 => exact h.after_project
  all_goals exact h

theorem LinesSound.after_zoneTurn (h : LinesSound s) : LinesSound (zoneTurn s) := by
  unfold zoneTurn
  split
  case h_1 z _ => exact linesSound_evaluateZone z s
  all_goals exact h

theorem LinesSound.after_completionTurn (turns : List Turn) (h : LinesSound s) :
    LinesSound (completionTurn turns s) := by
  unfold completionTurn
  split
  case h_1 => exact h.after_evaluationEnds turns
  all_goals exact h

theorem LinesSound.after_capturePanel (h : LinesSound s) : LinesSound (capturePanel s) :=
  h.after_setOut rfl rfl rfl

/-! ### Arriving bytes and frames (chapter 1) -/

theorem LinesSound.after_disposeSample (p : Port) (f : Frame) (h : LinesSound s) :
    LinesSound (disposeSample p f s) := by
  have offered : LinesSound (offerTransit p f s) := (linesSound_offerTransit p f).mpr h
  unfold disposeSample
  dsimp only
  split
  next => exact (linesSound_wakeOutbound p).mpr (offered.after_takeSample _)
  next => exact (linesSound_wakeOutbound p).mpr ((linesSound_modPort _ _ _).mpr offered)

theorem LinesSound.after_disposeRequest (p : Port) (f : Frame) (h : LinesSound s) :
    LinesSound (disposeRequest p f s) := by
  unfold disposeRequest
  split
  next => exact h.after_requestArrives _
  next => exact (linesSound_forwardFrame p f).mpr h

theorem LinesSound.after_disposeGood (p : Port) (c : FrameClass) (f : Frame) (h : LinesSound s) :
    LinesSound (disposeGood p c f s) := by
  have counted (g : PortState → PortState) : LinesSound (s.modPort p g) :=
    (linesSound_modPort s p g).mpr h
  cases c with
  | sample => exact (counted _).after_disposeSample p f
  | yard => exact ((linesSound_forwardFrame p f).mpr (counted _)).after_takeYard _
  | mreq => exact (counted _).after_disposeRequest p f
  | mark | sign | mrsp | notice => exact (linesSound_forwardFrame p f).mpr (counted _)

theorem LinesSound.after_disposeFrame (p : Port) (f : Frame) (h : LinesSound s) :
    LinesSound (disposeFrame p f s) := by
  unfold disposeFrame
  split
  next =>
    split
    next => exact h.after_disposeGood p _ f
    next => simpa using h
  next => simpa using h

theorem LinesSound.after_receive (p : Port) (rx : Line) (h : LinesSound s) :
    LinesSound (receive p rx s) := by
  unfold receive
  dsimp only
  split
  next => exact ((linesSound_modPort s p _).mpr h).after_disposeFrame p _
  next => exact (linesSound_modPort s p _).mpr h

theorem LinesSound.after_receiveAll (p : Port) (bytes : Frame) (h : LinesSound s) :
    LinesSound (receiveAll p bytes s) :=
  h.after_foldl (fun _ b hs => hs.after_receive p (.byte b)) bytes

theorem LinesSound.after_syncArrives (p : Port) (h : LinesSound s) :
    LinesSound (syncArrives p s) := by
  unfold syncArrives
  split
  next => exact h
  next => exact h.after_receiveAll p _

theorem LinesSound.after_frameArrives (p : Port) (f : Frame) (h : LinesSound s) :
    LinesSound (frameArrives p f s) := by
  unfold frameArrives
  dsimp only
  split
  next => exact ((linesSound_modPort _ p _).mpr (h.after_syncArrives p)).after_disposeFrame p f
  next => exact h.after_receiveAll p f

theorem LinesSound.after_frameLeft (p : Port) (turns : List Turn) (h : LinesSound s) :
    LinesSound (frameLeft p turns s) := by
  unfold frameLeft
  split
  next =>
    have selected : LinesSound (s.setTif (s.tif.select p)) := (linesSound_setTif s _).mpr h
    exact selected.after_contend (fun _ z hs => hs.after_drainVisit z) turns _
  next => exact h

/-! ### Resets -/

theorem LinesSound.after_releaseReset (cause : ResetCause) (addr : BitVec 3) (h : LinesSound s) :
    LinesSound (releaseReset cause addr s) := by
  refine (linesSound_setResetHeld _ _).mpr (LinesSound.after_setOut ?_ rfl rfl rfl)
  simpa using h

/-! ### Every command and every step -/

/-- What keeps the pins sound keeps them so where it waits for the release of a reset. -/
theorem LinesSound.after_whenReleased {f : State → State}
    (h : LinesSound s) (hf : LinesSound (f s)) (hstep : whenReleased f s = .next t) :
    LinesSound t := by
  unfold whenReleased at hstep
  cases hstep
  split
  next => exact h
  next => exact hf

theorem LinesSound.after_exec (c : Instr) (h : LinesSound s) (hstep : exec c s = .next t) :
    LinesSound t := by
  cases c with
  | powerOnReset | pinReset => cases hstep; exact linesSound_of_config rfl rfl rfl
  | resetRelease addr =>
    replace hstep : execResetRelease addr s = .next t := hstep
    unfold execResetRelease at hstep
    split at hstep
    next cause _ => cases hstep; exact h.after_releaseReset cause addr
    next => cases hstep; exact h
  | strayByte after p rx =>
    exact h.after_whenReleased (f := fun s => receive p rx (s.elapse after))
      ((h.after_elapse after).after_receive p rx) hstep
  | frameArrival after p bytes =>
    exact h.after_whenReleased (f := fun s => frameArrives p bytes (s.elapse after))
      ((h.after_elapse after).after_frameArrives p bytes) hstep
  | sampleArrival after c =>
    exact h.after_whenReleased (f := fun s => takeSample c (s.elapse after))
      ((h.after_elapse after).after_takeSample c) hstep
  | yardArrival y => exact h.after_whenReleased (h.after_takeYard y) hstep
  | frameSent p turns => exact h.after_whenReleased (h.after_frameLeft p turns) hstep
  | roundTimerExpiry => exact h.after_whenReleased h.after_timerExpires hstep
  | closeDeadline => exact h.after_whenReleased h.after_deadlineFalls hstep
  | pileVisit => exact h.after_whenReleased h.after_pileTurn hstep
  | projection => exact h.after_whenReleased h.after_projectionTurn hstep
  | zoneEvaluation => exact h.after_whenReleased h.after_zoneTurn hstep
  | evaluationComplete turns =>
    exact h.after_whenReleased (h.after_completionTurn turns) hstep
  | probeTimerExpiry => exact h.after_whenReleased h.after_probeExpires hstep
  | panelFrameCapture => exact h.after_whenReleased h.after_capturePanel hstep
  | copyComplete => exact h.after_whenReleased h.after_copyDone hstep
  | mreqArrival unit e op table b =>
    exact h.after_whenReleased (h.after_ask unit.val op table e b) hstep
  | start e b | stop e b | probe e b | swap e b | copy e b | snap e b | admitStation e b
  | relax e b | drill e b | endDrill e b | stationConfigWrite e b | pileConfigWrite e b
  | lineConfigWrite e b | counterRead e unit table b | noticeStatusRead e data
  | tableWrite e unit table b =>
    exact h.after_whenReleased (h.after_ask _ _ _ _ _) hstep
  | standbyTableWrite e which b =>
    cases which <;> exact h.after_whenReleased (h.after_ask _ _ _ _ _) hstep

/-- Settles O53: a command is executed from sound pins with the queue's rest, and an empty queue is a
millisecond of idling. -/
theorem everyStepKeepsTheLinesSound : Obligations.EveryStepKeepsTheLinesSound := by
  intro s t h hstep
  unfold step at hstep
  split at hstep
  next c rest _ => exact ((linesSound_setPending s rest).mpr h).after_exec c hstep
  next => exact h.after_whenReleased (h.after_elapse 1) hstep

end
end Sys2Proof.Machine
end

section
/-! Proofs about what the composed events of the part do, block by block: each is the blocks' own
changes, said once, and beside them only notices, the lines and what the trunk sends. -/

namespace Sys2Proof.Machine

/-! ### Notices, tallies and the lines leave the other blocks -/

section
variable (s : State) (events : List (NoticeClass × Report)) (c : NoticeClass) (r : Report)

@[simp] theorem raise_rct : (raise c r s).rct = s.rct := (raise_same c r s).rct
@[simp] theorem raise_sin : (raise c r s).sin = s.sin := (raise_same c r s).sin
@[simp] theorem raise_stu : (raise c r s).stu = s.stu := (raise_same c r s).stu
@[simp] theorem raise_plu : (raise c r s).plu = s.plu := (raise_same c r s).plu
@[simp] theorem raise_pju : (raise c r s).pju = s.pju := (raise_same c r s).pju
@[simp] theorem raise_znu : (raise c r s).znu = s.znu := (raise_same c r s).znu
@[simp] theorem raise_out : (raise c r s).out = s.out := (raise_same c r s).out
@[simp] theorem raise_stage : (raise c r s).stage = s.stage := (raise_same c r s).stage

@[simp] theorem raiseAll_pending : (raiseAll events s).pending = s.pending :=
  (raiseAll_same events s).pending
@[simp] theorem raiseAll_resetHeld : (raiseAll events s).resetHeld = s.resetHeld :=
  (raiseAll_same events s).resetHeld
@[simp] theorem raiseAll_rct : (raiseAll events s).rct = s.rct := (raiseAll_same events s).rct
@[simp] theorem raiseAll_sin : (raiseAll events s).sin = s.sin := (raiseAll_same events s).sin
@[simp] theorem raiseAll_stu : (raiseAll events s).stu = s.stu := (raiseAll_same events s).stu
@[simp] theorem raiseAll_plu : (raiseAll events s).plu = s.plu := (raiseAll_same events s).plu
@[simp] theorem raiseAll_pju : (raiseAll events s).pju = s.pju := (raiseAll_same events s).pju
@[simp] theorem raiseAll_znu : (raiseAll events s).znu = s.znu := (raiseAll_same events s).znu
@[simp] theorem raiseAll_out : (raiseAll events s).out = s.out := (raiseAll_same events s).out
@[simp] theorem raiseAll_stage : (raiseAll events s).stage = s.stage :=
  (raiseAll_same events s).stage

@[simp] theorem trunkNotices_pending : (trunkNotices s).pending = s.pending :=
  (trunkNotices_same s).pending
@[simp] theorem trunkNotices_resetHeld : (trunkNotices s).resetHeld = s.resetHeld :=
  (trunkNotices_same s).resetHeld
@[simp] theorem trunkNotices_rct : (trunkNotices s).rct = s.rct := (trunkNotices_same s).rct
@[simp] theorem trunkNotices_sin : (trunkNotices s).sin = s.sin := (trunkNotices_same s).sin
@[simp] theorem trunkNotices_stu : (trunkNotices s).stu = s.stu := (trunkNotices_same s).stu
@[simp] theorem trunkNotices_plu : (trunkNotices s).plu = s.plu := (trunkNotices_same s).plu
@[simp] theorem trunkNotices_pju : (trunkNotices s).pju = s.pju := (trunkNotices_same s).pju
@[simp] theorem trunkNotices_znu : (trunkNotices s).znu = s.znu := (trunkNotices_same s).znu
@[simp] theorem trunkNotices_out : (trunkNotices s).out = s.out := (trunkNotices_same s).out
@[simp] theorem trunkNotices_stage : (trunkNotices s).stage = s.stage := (trunkNotices_same s).stage

@[simp] theorem reevaluate_pending : (reevaluate s).pending = s.pending := rfl
@[simp] theorem reevaluate_resetHeld : (reevaluate s).resetHeld = s.resetHeld := rfl
@[simp] theorem reevaluate_tif : (reevaluate s).tif = s.tif := rfl
@[simp] theorem reevaluate_rct : (reevaluate s).rct = s.rct := rfl
@[simp] theorem reevaluate_sin : (reevaluate s).sin = s.sin := rfl
@[simp] theorem reevaluate_stu : (reevaluate s).stu = s.stu := rfl
@[simp] theorem reevaluate_plu : (reevaluate s).plu = s.plu := rfl
@[simp] theorem reevaluate_pju : (reevaluate s).pju = s.pju := rfl
@[simp] theorem reevaluate_znu : (reevaluate s).znu = s.znu := rfl
@[simp] theorem reevaluate_mgu : (reevaluate s).mgu = s.mgu := rfl
@[simp] theorem reevaluate_stage : (reevaluate s).stage = s.stage := rfl

end

/-! ### The same but notices and lines -/

/-- `t` differs from `s` at most in TIF, the notice control, the pins and the panel frame. -/
structure SameButSignals (s t : State) : Prop where
  pending : t.pending = s.pending
  resetHeld : t.resetHeld = s.resetHeld
  rct : t.rct = s.rct
  sin : t.sin = s.sin
  stu : t.stu = s.stu
  plu : t.plu = s.plu
  pju : t.pju = s.pju
  znu : t.znu = s.znu
  stage : t.stage = s.stage
  out : t.out = { s.out with wl := t.out.wl, svc := t.out.svc }
  mgu : t.mgu = { s.mgu with notices := t.mgu.notices }

theorem SameButSignals.refl (s : State) : SameButSignals s s := by constructor <;> rfl

theorem SameButSignals.trans {s t u : State} (h : SameButSignals s t) (k : SameButSignals t u) :
    SameButSignals s u := by
  constructor
  case out => rw [k.out, h.out]
  case mgu => rw [k.mgu, h.mgu]
  case pending => exact k.pending.trans h.pending
  case resetHeld => exact k.resetHeld.trans h.resetHeld
  case rct => exact k.rct.trans h.rct
  case sin => exact k.sin.trans h.sin
  case stu => exact k.stu.trans h.stu
  case plu => exact k.plu.trans h.plu
  case pju => exact k.pju.trans h.pju
  case znu => exact k.znu.trans h.znu
  case stage => exact k.stage.trans h.stage

theorem SameButNotices.signals {s t : State} (h : SameButNotices s t) : SameButSignals s t :=
  ⟨h.pending, h.resetHeld, h.rct, h.sin, h.stu, h.plu, h.pju, h.znu, h.stage, by rw [h.out],
    h.mgu⟩

/-- Raising events differs in nothing else of MGU but the notice control. -/
theorem raiseAll_mgu (events : List (NoticeClass × Report)) (s : State) :
    (raiseAll events s).mgu = { s.mgu with notices := (raiseAll events s).mgu.notices } :=
  (raiseAll_same events s).mgu

theorem trunkNotices_mgu (s : State) :
    (trunkNotices s).mgu = { s.mgu with notices := (trunkNotices s).mgu.notices } :=
  (trunkNotices_same s).mgu

theorem reevaluate_same (s : State) : SameButSignals s (reevaluate s) := by constructor <;> rfl

/-! ### The round cycle -/

/-- The blocks at a close: RCT's judgement, the pending paths discarded, the stations' pass, and
whether a drill runs (R25, R54, R59, R151). -/
def closedBlocks (s : State) : State :=
  { s with
    rct := s.rct.close, sin := tableMap (fun _ it => it.closed) s.sin
    stu := tableMap (fun i st => closeStation (s.intake i).reading st) s.stu
    znu := { s.znu with drillAtClose := s.drillRunning }, stage := pileStage s 0 }

theorem drillRunning_congr {s t : State} (h : t.znu = s.znu) : t.drillRunning = s.drillRunning := by
  simp only [State.drillRunning, State.zone_congr h]

theorem pileStage_congr {s t : State} (h : t.plu = s.plu) (k : Nat) :
    pileStage t k = pileStage s k := by
  simp only [pileStage, nextPile, State.pile, h]

theorem zoneStage_congr {s t : State} (h : t.pju = s.pju) (k : Nat) :
    zoneStage t k = zoneStage s k := by
  simp only [zoneStage, nextZone, State.zoneEnabled, State.zoneCfg, h]

@[simp] theorem closed_reading (it : Intake) : it.closed.reading = it.reading := by
  unfold Intake.closed
  split <;> rfl

theorem closeRound_same (s : State) : SameButSignals (closedBlocks s) (closeRound s) := by
  have readings (t : State) (h : t.sin = tableMap (fun _ it => it.closed) s.sin) (i : Fin 48) :
      (t.intake i).reading = (s.intake i).reading := by
    simp only [State.intake, h, tableMap_get, closed_reading]
  constructor
  all_goals simp only [closeRound, closedBlocks, closePass, State.setStage_pending,
    State.setStage_resetHeld, State.setStage_rct, State.setStage_sin, State.setStage_stu,
    State.setStage_plu, State.setStage_pju, State.setStage_znu, State.setStage_stage,
    State.setStage_out, State.setStage_mgu]
  case stu =>
    simp [State.mapStations, State.mapIntakes, State.intake]
  case znu => simp [drillRunning_congr (s := s)]
  case stage => exact pileStage_congr (by simp) 0
  case out => simp [reevaluate]
  case mgu =>
    rw [reevaluate_mgu, raiseAll_mgu, State.mapStations_mgu, State.setZnu_mgu, trunkNotices_mgu,
      State.mapIntakes_mgu, raiseAll_mgu, State.setRct_mgu]
  case sin => simp [State.mapIntakes]
  all_goals simp

end Sys2Proof.Machine
end

section
/-! Proofs about openings, exchanges, projections, evaluations, signs, START and STOP: the blocks each
of them changes (chapters 2, 6 to 10). -/

namespace Sys2Proof.Machine

/-! ### An opening (R22, R24) -/

/-- RCT right after an opening. -/
def openedRct (s : State) : Rct :=
  { s.rct with
    clock := 0, clockRuns := true, expected := healthyStations s
    outstanding := (healthyStations s).length, roundTimer := some 0, phase := .opened }

/-- An opening changes RCT, empties SIN's slots and places the MARK. -/
theorem openRound_eq (s : State) :
    openRound s =
      { s with
        rct := openedRct s, sin := tableMap (fun _ it => it.emptied) s.sin
        tif := s.tif.placeMark
          (markFrame s.tif.strap s.rct.roundNumber s.rct.period false s.rct.seq.val) } := rfl

/-! ### An exchange (R117) -/

/-- The blocks after an exchange. -/
def exchangedBlocks (s : State) : State :=
  { s with
    znu :=
      { s.znu with
        zones := tableMap (fun z r => if disabledByExchange s.pju z then r.stopped else r)
          s.znu.zones }
    out :=
      { s.out with
        service := tableMap (fun z l => if disabledByExchange s.pju z then [] else l)
          s.out.service }
    pju := s.pju.exchanged }

theorem exchange_eq (s : State) :
    exchange s = reevaluate (raiseAll (exchangeDrillEnds s) (exchangedBlocks s)) := by
  simp only [exchange, exchangedBlocks, State.mapZones, State.setOut, State.setPju, State.setZnu]

theorem exchange_same (s : State) : SameButSignals (exchangedBlocks s) (exchange s) := by
  rw [exchange_eq]
  exact ((raiseAll_same _ (exchangedBlocks s)).signals).trans (reevaluate_same _)

@[simp] theorem exchanged_active (p : Pju) : p.exchanged.active = p.standby := by
  cases h : p.activeIs1 <;> simp [Pju.exchanged, Pju.active, Pju.standby, h]

@[simp] theorem exchanged_standby (p : Pju) : p.exchanged.standby = p.active := by
  cases h : p.activeIs1 <;> simp [Pju.exchanged, Pju.active, Pju.standby, h]

@[simp] theorem exchanged_swapPending (p : Pju) : p.exchanged.swapPending = false := rfl

@[simp] theorem exchanged_contributions (p : Pju) :
    p.exchanged.contributions = p.contributions := rfl

theorem exchanged_feeders (p : Pju) : p.exchanged.feeders = feederMasks p.standby.plume := by
  have active := exchanged_active p
  simp only [Pju.exchanged, Pju.active] at active ⊢
  rw [active]

/-! ### Posting shares (R123, R124) -/

/-- The share of one entry that reaches slot `k` of zone `z`, counted from round sequence `t`. -/
def entryShare (t : Fin 16) (z : Fin 32) (k : Fin 16) (amount : Nat) (e : PlumeEntry) : Nat :=
  if e.zone = z ∧ lagSlot t e.lag = k then amount * e.weight / 8 else 0

/-- `t` is `s` with the shares `sum` posted: each reaches its slot of an enabled zone, which stops at
4095, and nothing else changes. -/
structure Posted (sum : Fin 32 → Fin 16 → Nat) (s t : State) : Prop where
  same : t = s.setZnu t.znu
  drillAtClose : t.znu.drillAtClose = s.znu.drillAtClose
  zone : ∀ z, t.zone z = { s.zone z with arrivals := (t.zone z).arrivals }
  disabled : ∀ z, s.zoneEnabled z = false → t.zone z = s.zone z
  slots : (∀ (z : Fin 32) (k : Fin 16), (s.zone z).arrivals[k] ≤ 4095) →
    ∀ (z : Fin 32) (k : Fin 16), s.zoneEnabled z = true →
      (t.zone z).arrivals[k] = min 4095 ((s.zone z).arrivals[k] + sum z k)

theorem Posted.zoneEnabled {sum : Fin 32 → Fin 16 → Nat} {s t : State} (h : Posted sum s t)
    (z : Fin 32) : t.zoneEnabled z = s.zoneEnabled z := by rw [h.same]; rfl

theorem Posted.rct {sum : Fin 32 → Fin 16 → Nat} {s t : State} (h : Posted sum s t) :
    t.rct = s.rct := by rw [h.same]; rfl

theorem Posted.pju {sum : Fin 32 → Fin 16 → Nat} {s t : State} (h : Posted sum s t) :
    t.pju = s.pju := by rw [h.same]; rfl

/-- Slots that stop at 4095 stay within it. -/
theorem Posted.bounded {sum : Fin 32 → Fin 16 → Nat} {s t : State} (h : Posted sum s t)
    (hs : ∀ (z : Fin 32) (k : Fin 16), (s.zone z).arrivals[k] ≤ 4095) (z : Fin 32) (k : Fin 16) :
    (t.zone z).arrivals[k] ≤ 4095 := by
  cases hen : s.zoneEnabled z with
  | true => rw [h.slots hs z k hen]; exact Nat.min_le_left _ _
  | false => rw [h.disabled z hen]; exact hs z k

theorem Posted.refl (s : State) : Posted (fun _ _ => 0) s s := by
  refine ⟨rfl, rfl, fun _ => rfl, fun _ _ => rfl, fun hs z k _ => ?_⟩
  have := hs z k
  omega

theorem Posted.trans {a b : Fin 32 → Fin 16 → Nat} {s t u : State} (h : Posted a s t)
    (k : Posted b t u) : Posted (fun z i => a z i + b z i) s u := by
  constructor
  case same => rw [k.same, h.same]; rfl
  case drillAtClose => exact k.drillAtClose.trans h.drillAtClose
  case zone => intro z; rw [k.zone z, h.zone z]
  case disabled =>
    intro z hz
    rw [k.disabled z (by rw [h.zoneEnabled, hz]), h.disabled z hz]
  case slots =>
    intro hs z i hen
    rw [k.slots (h.bounded hs) z i (by rw [h.zoneEnabled, hen]), h.slots hs z i hen]
    omega

theorem addShare_arrivals (slot k : Fin 16) (q : Nat) (z : Zone) :
    (addShare slot q z).arrivals[k] =
      if k = slot then min 4095 (z.arrivals[slot] + q) else z.arrivals[k] :=
  tableSet_get _ _ _ _

theorem postEntry_posted (amount : Nat) (e : PlumeEntry) (s : State) :
    Posted (fun z k => entryShare s.rct.seq z k amount e) s (postEntry amount e s) := by
  unfold postEntry
  split
  next hposts =>
    obtain ⟨hw, hen⟩ := hposts
    refine ⟨rfl, rfl, fun z => ?_, fun z hz => ?_, fun hs z k hz => ?_⟩
    · by_cases hzone : z = e.zone
      · rw [State.zone_setZone, if_pos hzone, hzone]; rfl
      · rw [State.zone_setZone, if_neg hzone]
    · rw [State.zone_setZone, if_neg]
      rintro rfl
      rw [hen] at hz
      cases hz
    · have := hs z k
      by_cases hzone : z = e.zone
      · subst hzone
        rw [State.zone_setZone, if_pos rfl, addShare_arrivals]
        by_cases hk : k = lagSlot s.rct.seq e.lag
        · simp [entryShare, hk]
        · simp only [entryShare, hk, Ne.symm hk, if_false, and_false]
          omega
      · rw [State.zone_setZone, if_neg hzone]
        simp only [entryShare, Ne.symm hzone, if_false, false_and]
        omega
  next hposts =>
    refine ⟨rfl, rfl, fun _ => rfl, fun _ _ => rfl, fun hs z k hz => ?_⟩
    have := hs z k
    have none : entryShare s.rct.seq z k amount e = 0 := by
      unfold entryShare
      split
      next hslot =>
        have hw : e.weight = 0 := by
          by_contra hw
          exact hposts ⟨hw, by rw [hslot.1, hz]⟩
        simp [hw]
      next => rfl
    rw [none]
    omega

/-- The shares of a list of posts, posted one after another. -/
theorem posted_foldl {α : Type} {post : State → α → State} {share : α → Fin 32 → Fin 16 → Nat}
    (t : Fin 16) (p : Pju)
    (hpost : ∀ s a, s.rct.seq = t → s.pju = p → Posted (share a) s (post s a)) (l : List α)
    (s : State) (hseq : s.rct.seq = t) (hpju : s.pju = p) :
    Posted (fun z k => (l.map fun a => share a z k).sum) s (l.foldl post s) := by
  induction l generalizing s with
  | nil => exact Posted.refl s
  | cons a l ih =>
    have first := hpost s a hseq hpju
    have rest := ih (post s a) (by rw [first.rct, hseq]) (by rw [first.pju, hpju])
    simpa using first.trans rest

/-- The shares of one contribution that reach slot `k` of zone `z` (R123). -/
def contributionShare (t : Fin 16) (table : Plume) (z : Fin 32) (k : Fin 16) (c : Contribution) :
    Nat :=
  ((indices 4).map fun pos =>
    entryShare t z k c.amount (plumeRead table (plumeIndex c.pile c.sector pos))).sum

theorem postContribution_posted (s : State) (c : Contribution) :
    Posted (fun z k => contributionShare s.rct.seq s.pju.active.plume z k c) s
      (postContribution s c) := by
  refine posted_foldl s.rct.seq s.pju (fun u pos hseq hpju => ?_) (indices 4) s rfl rfl
  rw [← hseq, ← hpju]
  exact postEntry_posted _ _ u

theorem postContributions_posted (l : List Contribution) (s : State) :
    Posted (fun z k => (l.map (contributionShare s.rct.seq s.pju.active.plume z k)).sum) s
      (l.foldl postContribution s) :=
  posted_foldl s.rct.seq s.pju
    (fun u c hseq hpju => by rw [← hseq, ← hpju]; exact postContribution_posted u c) l s rfl rfl

/-- The state PJU posts the shares in: a pending exchange has been made (R122). -/
def beforePosting (s : State) : State := if s.pju.swapPending then exchange s else s

theorem project_eq (s : State) :
    project s =
      (((beforePosting s).pju.contributions.foldl postContribution (beforePosting s)).setPju
        { (beforePosting s).pju with contributions := [] }).setStage
          (zoneStage (beforePosting s) 0) := by
  have posted := postContributions_posted (beforePosting s).pju.contributions (beforePosting s)
  have last (v : State) (h : v.pju = (beforePosting s).pju) :
      (v.setPju { v.pju with contributions := [] }).setStage
        (zoneStage (v.setPju { v.pju with contributions := [] }) 0) =
      (v.setPju { (beforePosting s).pju with contributions := [] }).setStage
        (zoneStage (beforePosting s) 0) := by
    have stage := zoneStage_congr (s := v) (t := beforePosting s) h.symm 0
    rw [stage, ← h]
    rfl
  exact last _ posted.pju

/-! ### Visits to piles and zones -/

theorem visitPile_same (p : Fin 24) (s : State) :
    SameButSignals
      { s with
        plu :=
          { s.plu with
            piles := tableSet s.plu.piles p
              { s.pile p with dyn := visitedPile (s.pile p).cfg s (s.pile p).dyn } }
        pju :=
          { s.pju with
            contributions := s.pju.contributions ++
              handedContribution p (visitedPile (s.pile p).cfg s (s.pile p).dyn) }
        stage := pileStage s (p.val + 1) }
      (visitPile p s) := by
  have enables (t : State) (h : t.plu.piles = tableSet s.plu.piles p
      { s.pile p with dyn := visitedPile (s.pile p).cfg s (s.pile p).dyn }) (k : Nat) :
      pileStage t k = pileStage s k := by
    have cfg (q : Fin 24) : (t.pile q).cfg = (s.pile q).cfg := by
      simp only [State.pile, h, tableSet_get]
      split
      next hq => rw [hq]
      next => rfl
    simp only [pileStage, nextPile, cfg]
  constructor
  all_goals simp only [visitPile, State.setStage_pending, State.setStage_resetHeld,
    State.setStage_rct, State.setStage_sin, State.setStage_stu, State.setStage_plu,
    State.setStage_pju, State.setStage_znu, State.setStage_stage, State.setStage_out,
    State.setStage_mgu]
  case stage => exact enables _ (by rw [State.setPju_plu, raiseAll_plu]; rfl) _
  case mgu => rw [State.setPju_mgu, raiseAll_mgu, State.setPile_mgu]
  case plu => rw [State.setPju_plu, raiseAll_plu]; rfl
  case pju => simp
  all_goals simp

theorem evaluateZone_same (z : Fin 32) (s : State) :
    SameButSignals
      { s with
        znu := { s.znu with zones := tableSet s.znu.zones z (evaluatedZone s z) }
        stage := zoneStage s (z.val + 1) }
      (evaluateZone z s) := by
  constructor
  all_goals simp only [evaluateZone, State.setStage_pending, State.setStage_resetHeld,
    State.setStage_rct, State.setStage_sin, State.setStage_stu, State.setStage_plu,
    State.setStage_pju, State.setStage_znu, State.setStage_stage, State.setStage_out,
    State.setStage_mgu]
  case stage => exact zoneStage_congr (by simp) _
  case mgu => rw [reevaluate_mgu, raiseAll_mgu, State.setZone_mgu]
  case znu => rw [reevaluate_znu, raiseAll_znu]; rfl
  case out => simp [reevaluate]
  all_goals simp

/-! ### Signs -/

/-- `t` differs from `s` at most in TIF, the service records, and what a zone keeps of its signs. -/
structure SignsOnly (s t : State) : Prop where
  pending : t.pending = s.pending
  resetHeld : t.resetHeld = s.resetHeld
  rct : t.rct = s.rct
  sin : t.sin = s.sin
  stu : t.stu = s.stu
  plu : t.plu = s.plu
  pju : t.pju = s.pju
  stage : t.stage = s.stage
  mgu : t.mgu = s.mgu
  out : t.out = { s.out with service := t.out.service }
  drillAtClose : t.znu.drillAtClose = s.znu.drillAtClose
  zone : ∀ z, t.zone z =
    { s.zone z with
      lastSent := (t.zone z).lastSent, signPending := (t.zone z).signPending
      refresh := (t.zone z).refresh }

theorem SignsOnly.refl (s : State) : SignsOnly s s := by
  constructor
  case zone => exact fun _ => rfl
  all_goals rfl

theorem SignsOnly.trans {s t u : State} (h : SignsOnly s t) (k : SignsOnly t u) :
    SignsOnly s u := by
  constructor
  case zone => intro z; rw [k.zone z, h.zone z]
  case out => rw [k.out, h.out]
  case pending => exact k.pending.trans h.pending
  case resetHeld => exact k.resetHeld.trans h.resetHeld
  case rct => exact k.rct.trans h.rct
  case sin => exact k.sin.trans h.sin
  case stu => exact k.stu.trans h.stu
  case plu => exact k.plu.trans h.plu
  case pju => exact k.pju.trans h.pju
  case stage => exact k.stage.trans h.stage
  case mgu => exact k.mgu.trans h.mgu
  case drillAtClose => exact k.drillAtClose.trans h.drillAtClose

theorem SignsOnly.foldl {visit : State → Fin 32 → State} (hv : ∀ s z, SignsOnly s (visit s z))
    (todo : List (Fin 32)) (s : State) : SignsOnly s (todo.foldl visit s) := by
  induction todo generalizing s with
  | nil => exact SignsOnly.refl s
  | cons z todo ih => exact (hv s z).trans (ih _)

theorem SignsOnly.zoneEnabled {s t : State} (h : SignsOnly s t) (z : Fin 32) :
    t.zoneEnabled z = s.zoneEnabled z := zoneEnabled_congr h.pju z

theorem signsOnly_setTif (s : State) (x : Tif) : SignsOnly s (s.setTif x) := by
  constructor
  case zone => exact fun _ => rfl
  all_goals rfl

theorem signsOnly_setZone (s : State) (z : Fin 32) (x : Zone)
    (hx : x = { s.zone z with
      lastSent := x.lastSent, signPending := x.signPending, refresh := x.refresh }) :
    SignsOnly s (s.setZone z x) := by
  constructor
  case zone =>
    intro y
    rw [State.zone_setZone]
    split
    next hy => rw [hy]; exact hx
    next => rfl
  all_goals rfl

theorem signsOnly_setService (s : State) (l : Vector (List Byte) 32) :
    SignsOnly s (s.setOut { s.out with service := l }) := by
  constructor
  case zone => exact fun _ => rfl
  all_goals rfl

theorem signVisit_signs (s : State) (z : Fin 32) : SignsOnly s (signVisit s z) := by
  unfold signVisit
  dsimp only
  split
  next =>
    split
    next =>
      split
      next t _ => exact (signsOnly_setTif s t).trans (signsOnly_setZone _ z _ rfl)
      next => exact signsOnly_setZone s z _ rfl
    next => exact signsOnly_setZone s z _ rfl
  next => exact SignsOnly.refl s

theorem drainVisit_signs (s : State) (z : Fin 32) : SignsOnly s (drainVisit s z) := by
  unfold drainVisit
  split
  next =>
    split
    next t _ =>
      exact ((signsOnly_setTif s t).trans (signsOnly_setZone _ z _ rfl)).trans
        (signsOnly_setService _ _)
    next => exact SignsOnly.refl s
  next => exact SignsOnly.refl s

theorem serviceVisit_signs (s : State) (z : Fin 32) : SignsOnly s (serviceVisit s z) := by
  unfold serviceVisit
  dsimp only
  split
  next =>
    split
    next t _ => exact signsOnly_setTif s t
    next => exact (signsOnly_setZone s z _ rfl).trans (signsOnly_setService _ _)
  next => exact SignsOnly.refl s

theorem serviceSigns_signs (s : State) : SignsOnly s (serviceSigns s) :=
  SignsOnly.foldl serviceVisit_signs _ s

/-! ### The completion (R139) -/

/-- What ZNU's completion does before OUT's sign pass and MGU's looks (R139, R151, R176). -/
def completed (s : State) : State :=
  captureSnapshot
    ((((lastDrillEnd s).setRct { (lastDrillEnd s).rct with phase := .closed, closeTimer := none }).setZnu
      { (lastDrillEnd s).znu with drillAtClose := false }).setStage .idle)

theorem evaluationEnds_eq (turns : List Turn) (s : State) :
    evaluationEnds turns s =
      contend signVisit turns (enabledZones (completed s)) (completed s) := rfl

/-- The stations after ZNU's completion (R151). -/
def completedStations (s : State) : Vector Station 48 :=
  if s.znu.drillAtClose && !s.drillRunning then tableMap (fun _ st => st.drillEnded) s.stu
  else s.stu

theorem lastDrillEnd_eq (s : State) :
    lastDrillEnd s = { s with stu := completedStations s } := by
  unfold lastDrillEnd completedStations
  split <;> rfl

theorem completed_eq (s : State) :
    completed s =
      { s with
        stu := completedStations s, rct := { s.rct with phase := .closed, closeTimer := none }
        znu := { s.znu with drillAtClose := false }, stage := .idle, mgu := (completed s).mgu } := by
  unfold completed captureSnapshot
  rw [lastDrillEnd_eq]
  split <;> rfl

theorem completed_executing (s : State) : (completed s).mgu.executing = s.mgu.executing := by
  unfold completed captureSnapshot
  rw [lastDrillEnd_eq]
  split <;> rfl

theorem completed_copyTimer (s : State) : (completed s).mgu.copyTimer = s.mgu.copyTimer := by
  unfold completed captureSnapshot
  rw [lastDrillEnd_eq]
  split <;> rfl

theorem completed_requests (s : State) : (completed s).mgu.requests = s.mgu.requests := by
  unfold completed captureSnapshot
  rw [lastDrillEnd_eq]
  split <;> rfl

/-! ### START and STOP -/

/-- The blocks at START, right before round 1 opens (R21). -/
def startedBlocks (s : State) : State :=
  { s with
    rct := s.rct.start, stu := tableMap (fun _ st => st.start) s.stu
    znu := { s.znu with zones := tableMap (fun i z => z.start s.out.refreshPeriod i) s.znu.zones }
    plu := { s.plu with piles := tableMap (fun _ p => p.waiting) s.plu.piles }
    pju := { s.pju with contributions := [], swapPending := false }
    out := { s.out with service := Vector.replicate 32 [] }
    tif := (s.tif.modPort .field PortState.clearTallies).modPort .quay PortState.clearTallies
    mgu := { s.mgu with snapshot := { s.mgu.snapshot with armed := false } }
    stage := .idle }

theorem startRun_eq (s : State) : startRun s = reevaluate (openRound (startedBlocks s)) := by
  simp only [startRun, startedBlocks, disarm, clearTallies, State.modPort, State.mapZones,
    State.mapStations, State.mapPiles, State.setRct, State.setStu, State.setZnu, State.setPlu,
    State.setPju, State.setOut, State.setTif, State.setMgu, State.setStage]

/-- The blocks at STOP, right before the SERVICE signs (R31). -/
def stoppedBlocks (s : State) : State :=
  { s with
    rct := s.rct.stop, sin := tableMap (fun _ it => it.emptied) s.sin
    stu := if s.drillRunning then tableMap (fun _ st => st.drillEnded) s.stu else s.stu
    znu := { zones := tableMap (fun _ z => z.stopped) s.znu.zones, drillAtClose := false }
    plu := { s.plu with piles := tableMap (fun _ p => p.waiting) s.plu.piles }
    out := { s.out with service := Vector.replicate 32 [] }
    tif := (s.tif.modPort .field PortState.clearTallies).modPort .quay PortState.clearTallies
    mgu := { s.mgu with snapshot := { s.mgu.snapshot with armed := false } }
    stage := .idle }

/-- PJU after STOP: a pending exchange is made (R118). -/
def stoppedPju (p : Pju) : Pju :=
  { (if p.swapPending then p.exchanged else p) with contributions := [] }

theorem stopRun_eq (s : State) :
    stopRun s = reevaluate ((serviceSigns (stoppedBlocks s)).setPju (stoppedPju s.pju)) := by
  have pju : (serviceSigns (stoppedBlocks s)).pju = s.pju :=
    (serviceSigns_signs (stoppedBlocks s)).pju
  have blocks : stopRun s = reevaluate ((serviceSigns (stoppedBlocks s)).setPju
      (stoppedPju (serviceSigns (stoppedBlocks s)).pju)) := by
    cases hdrill : s.drillRunning <;>
      simp only [stopRun, stoppedBlocks, stoppedPju, hdrill, moveTookTest, disarm, clearTallies,
        State.modPort, State.mapZones, State.mapStations, State.mapIntakes, State.mapPiles,
        State.setRct, State.setSin, State.setStu, State.setZnu, State.setPlu, State.setPju,
        State.setOut, State.setTif, State.setMgu, State.setStage, if_true, if_false,
        Bool.false_eq_true]
  rw [blocks, pju]

end Sys2Proof.Machine
end

section
/-! Proofs that go by events: what every event of the part keeps, every command and every step keeps.
Each step invariant is proved by its events alone, and the way commands, MGU's looks and the passing of
time are composed of them is followed once, here. -/

namespace Sys2Proof.Machine

/-! ### The events -/

/-- The receive side of a port has taken what its line presents (R3 to R5). -/
def framed (p : Port) (rx : Line) (s : State) : State :=
  let step := (s.tif.port p).framer.on rx
  s.modPort p fun ps =>
    { ps with framer := step.next, strayBytes := bumpBy step.strays ps.strayBytes }

/-- The framer of a port stands where the frame `f` leaves it (R4, R5). -/
def framerReset (p : Port) (f : Frame) (s : State) : State :=
  s.modPort p fun ps => { ps with framer := framerAfter f }

/-- A request waits behind the others (R167). -/
def requestWaits (r : Request) (s : State) : State :=
  s.setMgu { s.mgu with requests := s.mgu.requests ++ [r], received := bump s.mgu.received }

/-- A request that meets a full queue is dropped (R167). -/
def requestDropped (s : State) : State := s.setMgu { s.mgu with dropped := bump s.mgu.dropped }

/-- The change of a port's state is one of its counters alone, and counts no stray byte. -/
def CountsOnly (g : PortState → PortState) : Prop :=
  ∀ x, (g x).framer = x.framer ∧ (g x).transit = x.transit ∧ (g x).queue = x.queue ∧
    (g x).reserved = x.reserved ∧ (g x).sending = x.sending ∧ (g x).lastTaken = x.lastTaken ∧
    (g x).strayBytes ≤ x.strayBytes

/-- Every event of the part but the resets and the passing of a millisecond keeps `P`. -/
structure KeptNow (P : State → Prop) : Prop where
  waits : ∀ {s} r, P s → s.mgu.requests.length < 4 → P (requestWaits r s)
  dropped : ∀ {s}, P s → P (requestDropped s)
  take : ∀ {s} r rest, P s → s.mgu.requests = r :: rest → canTake r s = true →
    P (takeRequest r (s.setMgu { s.mgu with requests := rest }))
  copyEnds : ∀ {s} r, P s → s.mgu.executing = some r → P (finishCopy s)
  deadline : ∀ {s}, P s → s.rct.opState = .run → s.rct.phase = .opened →
    reached s.rct.deadlineMs s.rct.roundTimer = true → P (closeRound s)
  expiry : ∀ {s}, P s → s.rct.opState = .run → s.rct.phase = .closed →
    reached s.rct.periodMs s.rct.roundTimer = true → P (openRound (s.setRct s.rct.advance))
  probeEnd : ∀ {s}, P s → s.rct.probing = true → P (probeExpires s)
  pile : ∀ {s} p, P s → s.stage = .piles p → P (visitPile p s)
  projection : ∀ {s}, P s → s.stage = .projecting → P (project s)
  zone : ∀ {s} z, P s → s.stage = .zones z → P (evaluateZone z s)
  completion : ∀ {s}, P s → s.stage = .done → P (completed s)
  sign : ∀ {s₀ s} z, P s₀ → s₀.stage = .done → s.rct.opState = s₀.rct.opState → P s →
    P (signVisit s z)
  drain : ∀ {s} z, P s → s.rct.opState = .config → P (drainVisit s z)
  left : ∀ {s} p, P s → (s.tif.port p).sending.isSome = true → P (s.setTif (s.tif.select p))
  panel : ∀ {s}, P s → P (capturePanel s)
  framed : ∀ {s} p rx, P s → P (framed p rx s)
  framerReset : ∀ {s} p f, P s → P (framerReset p f s)
  counted : ∀ {s} p g, CountsOnly g → P s → P (s.modPort p g)
  crcError : ∀ {s} p, P s → P (trunkError p .crc s)
  forwarded : ∀ {s} p f g, CountsOnly g → P s →
    P (wakeOutbound p ((offerTransit p f s).modPort p g))
  copied : ∀ {s} p f c, P s → P (wakeOutbound p (takeSample c (offerTransit p f s)))
  sample : ∀ {s} c, P s → P (takeSample c s)
  yard : ∀ {s} y, P s → P (takeYard y s)

/-- What an arriving byte or frame does keeps `P`. -/
structure KeptByArrivals (P : State → Prop) : Prop where
  request : ∀ {s} r, P s → P (requestArrives r s)
  framed : ∀ {s} p rx, P s → P (framed p rx s)
  framerReset : ∀ {s} p f, P s → P (framerReset p f s)
  counted : ∀ {s} p g, CountsOnly g → P s → P (s.modPort p g)
  crcError : ∀ {s} p, P s → P (trunkError p .crc s)
  forwarded : ∀ {s} p f g, CountsOnly g → P s →
    P (wakeOutbound p ((offerTransit p f s).modPort p g))
  copied : ∀ {s} p f c, P s → P (wakeOutbound p (takeSample c (offerTransit p f s)))
  yard : ∀ {s} y, P s → P (takeYard y s)

/-- A millisecond that passes after all that is due keeps `P` too. -/
structure Kept (P : State → Prop) : Prop extends KeptNow P where
  millisecond : ∀ {s}, P s → P (settle s) → P (settle s).passTime

/-- The resets, their release, and what the outside puts into the queue of commands keep `P`. -/
structure KeptByResets (P : State → Prop) : Prop where
  powerOn : ∀ s t, P s → execPowerOnReset s = .next t → P t
  pin : ∀ s t, P s → execPinReset s = .next t → P t
  release : ∀ {s} cause addr, P s → s.resetHeld = some cause → P (releaseReset cause addr s)
  commands : ∀ {s} l, P s → P (s.setPending l)

/-! ### MGU's looks -/

section
variable {P : State → Prop} {s t : State}

theorem countsOnly_id : CountsOnly fun x => x := fun _ => ⟨rfl, rfl, rfl, rfl, rfl, rfl, Nat.le_refl _⟩

theorem modPort_id (p : Port) (s : State) : (s.modPort p fun x => x) = s := by cases p <;> rfl

theorem KeptNow.look (k : KeptNow P) (h : P s) : P (look s) := by
  unfold Machine.look
  split
  next => exact h
  next r rest hr =>
    split
    next hc => exact k.take r rest h hr hc
    next => exact h

theorem KeptNow.serve (k : KeptNow P) (n : Nat) (h : P s) : P (serve n s) := by
  induction n generalizing s with
  | zero => exact h
  | succ n ih => exact ih (k.look h)

theorem KeptNow.serveQueue (k : KeptNow P) (h : P s) : P (serveQueue s) := k.serve _ h

theorem KeptNow.requestArrives (k : KeptNow P) (r : Request) (h : P s) :
    P (requestArrives r s) := by
  unfold Machine.requestArrives
  dsimp only
  split
  next hroom => exact k.serveQueue (k.waits r h hroom)
  next => exact k.dropped h

theorem KeptNow.copyDone (k : KeptNow P) (h : P s) : P (copyDone s) := by
  refine k.look ?_
  cases hx : s.mgu.executing with
  | some r => exact k.copyEnds r h hx
  | none =>
    have idle : finishCopy s = s := by unfold finishCopy; rw [hx]
    rwa [idle]

theorem running_eq_iff : t.running = s.running ↔ t.rct.opState = s.rct.opState := by
  unfold State.running
  cases t.rct.opState <;> cases s.rct.opState <;> decide

/-- OUT's visits between MGU's looks are made in one operating state (R156, R159). -/
theorem KeptNow.interleave (k : KeptNow P) {visit : State → Fin 32 → State} (op : OpState)
    (hrct : ∀ s z, (visit s z).rct = s.rct)
    (hv : ∀ s z, s.rct.opState = op → P s → P (visit s z)) (turns : List Turn) (begun : Bool)
    (todo : List (Fin 32)) (hop : todo ≠ [] → s.rct.opState = op) (h : P s) :
    P (interleave visit turns begun todo s) := by
  have visits (todo : List (Fin 32)) (s : State) (hop : todo ≠ [] → s.rct.opState = op)
      (h : P s) : P (todo.foldl visit s) := by
    induction todo generalizing s with
    | nil => exact h
    | cons z todo ih =>
      have hs := hop (List.cons_ne_nil z todo)
      exact ih _ (fun _ => by rw [hrct, hs]) (hv s z hs h)
  induction turns generalizing begun todo s with
  | nil => exact visits todo s hop h
  | cons turn turns ih =>
    cases turn with
    | out =>
      cases todo with
      | nil => exact ih begun [] hop h
      | cons z todo =>
        have hs := hop (List.cons_ne_nil z todo)
        exact ih true todo (fun _ => by rw [hrct, hs]) (hv s z hs h)
    | mgu =>
      simp only [Machine.interleave]
      split_ifs with hsame
      · exact ih begun todo (fun ht => by rw [running_eq_iff.mp hsame]; exact hop ht) (k.look h)
      · exact ih begun [] (fun ht => absurd rfl ht) (k.look (visits todo s hop h))
      · exact ih begun [] (fun ht => absurd rfl ht) (k.look h)

theorem KeptNow.contend (k : KeptNow P) {visit : State → Fin 32 → State} (op : OpState)
    (hrct : ∀ s z, (visit s z).rct = s.rct)
    (hv : ∀ s z, s.rct.opState = op → P s → P (visit s z)) (turns : List Turn)
    (todo : List (Fin 32)) (hop : todo ≠ [] → s.rct.opState = op) (h : P s) :
    P (contend visit turns todo s) := by
  have interleaved := k.interleave op hrct hv turns false todo hop h
  unfold Machine.contend
  dsimp only
  split
  next => exact interleaved
  next => exact k.look interleaved

/-! ### The round cycle and time -/

theorem KeptNow.deadlineFalls (k : KeptNow P) (h : P s) : P (deadlineFalls s) := by
  unfold Machine.deadlineFalls
  split
  next hdue => exact k.deadline h hdue.1 hdue.2.1 hdue.2.2
  next => exact h

theorem KeptNow.timerExpires (k : KeptNow P) (h : P s) : P (timerExpires s) := by
  unfold Machine.timerExpires
  split
  next hdue => exact k.expiry h hdue.1 hdue.2.1 hdue.2.2
  next => exact h

theorem KeptNow.probeExpires (k : KeptNow P) (h : P s) : P (probeExpires s) := by
  by_cases hp : s.rct.probing = true
  case pos => exact k.probeEnd h hp
  case neg => rwa [probeExpires_early s fun hdue => hp hdue.1]

theorem KeptNow.evaluationEnds (k : KeptNow P) (turns : List Turn) (h : P s)
    (hs : s.stage = .done) : P (evaluationEnds turns s) := by
  rw [evaluationEnds_eq]
  refine k.contend s.rct.opState (fun u z => (signVisit_signs u z).rct)
    (fun u z hu => k.sign z h hs hu) turns _ (fun _ => ?_) (k.completion h hs)
  rw [completed_eq]

theorem KeptNow.evaluationStep (k : KeptNow P) (h : P s) : P (evaluationStep s) := by
  unfold Machine.evaluationStep
  split
  next => exact h
  next p hs => exact k.pile p h hs
  next hs => exact k.projection h hs
  next z hs => exact k.zone z h hs
  next hs => exact k.evaluationEnds [] h hs

theorem KeptNow.evaluationSteps (k : KeptNow P) (n : Nat) (h : P s) :
    P (evaluationSteps n s) := by
  induction n generalizing s with
  | zero => exact h
  | succ n ih => exact ih (k.evaluationStep h)

theorem KeptNow.evaluationOverdue (k : KeptNow P) (h : P s) : P (evaluationOverdue s) := by
  unfold Machine.evaluationOverdue
  split
  next => exact k.serveQueue (k.evaluationSteps _ h)
  next => exact h

theorem KeptNow.copyOverdue (k : KeptNow P) (h : P s) : P (copyOverdue s) := by
  unfold Machine.copyOverdue
  split
  next => exact k.serveQueue (k.copyDone h)
  next => exact h

theorem KeptNow.settle (k : KeptNow P) (h : P s) : P (settle s) :=
  k.serveQueue (k.probeExpires (k.timerExpires (k.evaluationOverdue (k.deadlineFalls
    (k.copyOverdue (k.serveQueue h))))))

theorem Kept.elapse (k : Kept P) (n : Nat) (h : P s) : P (s.elapse n) := by
  induction n generalizing s with
  | zero => exact h
  | succ n ih => exact ih (k.millisecond h (k.settle h))

theorem KeptNow.pileTurn (k : KeptNow P) (h : P s) : P (pileTurn s) := by
  unfold Machine.pileTurn
  split
  case h_1 p hs => exact k.pile p h hs
  all_goals exact h

theorem KeptNow.projectionTurn (k : KeptNow P) (h : P s) : P (projectionTurn s) := by
  unfold Machine.projectionTurn
  split
  case h_1 hs => exact k.projection h hs
  all_goals exact h

theorem KeptNow.zoneTurn (k : KeptNow P) (h : P s) : P (zoneTurn s) := by
  unfold Machine.zoneTurn
  split
  case h_1 z hs => exact k.zone z h hs
  all_goals exact h

theorem KeptNow.completionTurn (k : KeptNow P) (turns : List Turn) (h : P s) :
    P (completionTurn turns s) := by
  unfold Machine.completionTurn
  split
  case h_1 hs => exact k.evaluationEnds turns h hs
  all_goals exact h

/-! ### Arriving bytes and frames -/

theorem KeptByArrivals.forward (k : KeptByArrivals P) (p : Port) (f : Frame) (h : P s) :
    P (forwardFrame p f s) := by
  have same := k.forwarded p f (fun x => x) countsOnly_id h
  rwa [modPort_id] at same

theorem KeptByArrivals.disposeSample (k : KeptByArrivals P) (p : Port) (f : Frame) (h : P s) :
    P (disposeSample p f s) := by
  unfold Machine.disposeSample
  dsimp only
  split
  next => exact k.copied p f _ h
  next => exact k.forwarded p f _ (fun _ => ⟨rfl, rfl, rfl, rfl, rfl, rfl, Nat.le_refl _⟩) h

theorem KeptByArrivals.disposeRequest (k : KeptByArrivals P) (p : Port) (f : Frame) (h : P s) :
    P (disposeRequest p f s) := by
  unfold Machine.disposeRequest
  split
  next => exact k.request _ h
  next => exact k.forward p f h

theorem KeptByArrivals.disposeGood (k : KeptByArrivals P) (p : Port) (c : FrameClass) (f : Frame) (h : P s) :
    P (disposeGood p c f s) := by
  have counted : P (s.modPort p fun ps => { ps with goodFrames := bump ps.goodFrames }) :=
    k.counted p _ (fun _ => ⟨rfl, rfl, rfl, rfl, rfl, rfl, Nat.le_refl _⟩) h
  cases c with
  | sample => exact k.disposeSample p f counted
  | yard => exact k.yard _ (k.forward p f counted)
  | mreq => exact k.disposeRequest p f counted
  | mark | sign | mrsp | notice => exact k.forward p f counted

theorem KeptByArrivals.disposeFrame (k : KeptByArrivals P) (p : Port) (f : Frame) (h : P s) :
    P (disposeFrame p f s) := by
  unfold Machine.disposeFrame
  split
  next =>
    split
    next => exact k.disposeGood p _ f h
    next => exact k.forward p f (k.crcError p h)
  next => exact k.forward p f (k.counted p _ (fun _ => ⟨rfl, rfl, rfl, rfl, rfl, rfl, Nat.le_refl _⟩) h)

/-- What a line presents goes to the framer, and a frame that arrives with it is disposed of. -/
theorem receive_eq (p : Port) (rx : Line) (s : State) :
    receive p rx s =
      match ((s.tif.port p).framer.on rx).arrived with
      | some f => disposeFrame p f (framed p rx s)
      | none => framed p rx s := rfl

theorem KeptByArrivals.receive (k : KeptByArrivals P) (p : Port) (rx : Line) (h : P s) :
    P (receive p rx s) := by
  rw [receive_eq]
  cases ((s.tif.port p).framer.on rx).arrived with
  | some f => exact k.disposeFrame p f (k.framed p rx h)
  | none => exact k.framed p rx h

theorem KeptByArrivals.receiveAll (k : KeptByArrivals P) (p : Port) (bytes : Frame) (h : P s) :
    P (receiveAll p bytes s) :=
  List.foldlRecOn bytes _ h fun _ hu b _ => k.receive p (.byte b) hu

theorem KeptByArrivals.syncArrives (k : KeptByArrivals P) (p : Port) (h : P s) : P (syncArrives p s) := by
  unfold Machine.syncArrives
  split
  next => exact h
  next => exact k.receiveAll p _ h

theorem KeptByArrivals.frameArrives (k : KeptByArrivals P) (p : Port) (f : Frame) (h : P s) :
    P (frameArrives p f s) := by
  unfold Machine.frameArrives
  dsimp only
  split
  next => exact k.disposeFrame p f (k.framerReset p f (k.syncArrives p h))
  next => exact k.receiveAll p f h

/-- What every event keeps, arrivals keep. -/
theorem KeptNow.arrivals (k : KeptNow P) : KeptByArrivals P :=
  ⟨fun r h => k.requestArrives r h, k.framed, k.framerReset, k.counted, k.crcError, k.forwarded,
    k.copied, k.yard⟩

theorem KeptNow.frameLeft (k : KeptNow P) (p : Port) (turns : List Turn) (h : P s) :
    P (frameLeft p turns s) := by
  unfold Machine.frameLeft
  split
  next hsend =>
    refine k.contend .config (fun u z => (drainVisit_signs u z).rct)
      (fun u z hop hu => k.drain z hu hop) turns _ (fun ht => ?_) (k.left p h hsend)
    by_contra hop
    refine ht (if_neg fun hdrains => hop ?_)
    simp only [Bool.and_eq_true, Bool.not_eq_true'] at hdrains
    exact (not_running_iff _).mp hdrains.1.2
  next => exact h

/-! ### Every command and every step -/

theorem kept_whenReleased {f : State → State} (h : P s) (hf : P (f s))
    (hstep : whenReleased f s = .next t) : P t := by
  unfold whenReleased at hstep
  cases hstep
  split
  next => exact h
  next => exact hf

/-- A command that is no reset and no release keeps what the events keep. -/
theorem Kept.command (k : Kept P) (c : Instr) (h : P s) (hpower : c ≠ .powerOnReset)
    (hpin : c ≠ .pinReset) (hrelease : ∀ a, c ≠ .resetRelease a) (hstep : exec c s = .next t) :
    P t := by
  have asked (unit : Nat) (op table : Byte) (e : Envelope) (b : Body) :
      P (ask unit op table e b s) := k.requestArrives _ h
  cases c with
  | powerOnReset => exact absurd rfl hpower
  | pinReset => exact absurd rfl hpin
  | resetRelease a => exact absurd rfl (hrelease a)
  | strayByte after p rx =>
    exact kept_whenReleased (f := fun s => Machine.receive p rx (s.elapse after)) h
      (k.arrivals.receive p rx (k.elapse after h)) hstep
  | frameArrival after p bytes =>
    exact kept_whenReleased (f := fun s => Machine.frameArrives p bytes (s.elapse after)) h
      (k.arrivals.frameArrives p bytes (k.elapse after h)) hstep
  | sampleArrival after c =>
    exact kept_whenReleased (f := fun s => takeSample c (s.elapse after)) h
      (k.sample c (k.elapse after h)) hstep
  | yardArrival y => exact kept_whenReleased h (k.yard y h) hstep
  | frameSent p turns => exact kept_whenReleased h (k.frameLeft p turns h) hstep
  | roundTimerExpiry => exact kept_whenReleased h (k.timerExpires h) hstep
  | closeDeadline => exact kept_whenReleased h (k.deadlineFalls h) hstep
  | pileVisit => exact kept_whenReleased h (k.pileTurn h) hstep
  | projection => exact kept_whenReleased h (k.projectionTurn h) hstep
  | zoneEvaluation => exact kept_whenReleased h (k.zoneTurn h) hstep
  | evaluationComplete turns => exact kept_whenReleased h (k.completionTurn turns h) hstep
  | probeTimerExpiry => exact kept_whenReleased h (k.probeExpires h) hstep
  | panelFrameCapture => exact kept_whenReleased h (k.panel h) hstep
  | copyComplete => exact kept_whenReleased h (k.copyDone h) hstep
  | mreqArrival unit e op table b => exact kept_whenReleased h (asked unit.val op table e b) hstep
  | start e b | stop e b | probe e b | swap e b | copy e b | snap e b | admitStation e b
  | relax e b | drill e b | endDrill e b | stationConfigWrite e b | pileConfigWrite e b
  | lineConfigWrite e b | counterRead e unit table b | noticeStatusRead e data
  | tableWrite e unit table b => exact kept_whenReleased h (asked _ _ _ _ _) hstep
  | standbyTableWrite e which b =>
    cases which <;> exact kept_whenReleased h (asked _ _ _ _ _) hstep

theorem KeptByResets.command (k : KeptByResets P) (c : Instr) (h : P s)
    (hc : c = .powerOnReset ∨ c = .pinReset ∨ ∃ a, c = .resetRelease a)
    (hstep : exec c s = .next t) : P t := by
  rcases hc with rfl | rfl | ⟨a, rfl⟩
  · exact k.powerOn s t h hstep
  · exact k.pin s t h hstep
  · replace hstep : execResetRelease a s = .next t := hstep
    unfold execResetRelease at hstep
    split at hstep
    next cause hheld => cases hstep; exact k.release cause a h hheld
    next => cases hstep; exact h

/-- What every event and every reset keeps, every step keeps. -/
theorem Kept.step (k : Kept P) (kr : KeptByResets P) (h : P s) (hstep : step s = .next t) :
    P t := by
  unfold Machine.step at hstep
  split at hstep
  next c rest _ =>
    have hs := kr.commands rest h
    by_cases hc : c = .powerOnReset ∨ c = .pinReset ∨ ∃ a, c = .resetRelease a
    case pos => exact kr.command c hs hc hstep
    case neg =>
      push Not at hc
      exact k.command c hs hc.1 hc.2.1 hc.2.2 hstep
  next => exact kept_whenReleased (f := State.elapse 1) h (k.elapse 1 h) hstep

end

end Sys2Proof.Machine
end

section
/-! Proofs by events for what is read from the blocks alone: whatever holds of RCT, SIN, STU, PLU, PJU,
ZNU, the service records, the refresh period and the COPY in execution is kept by what the trunk, the
notices, the lines and the responses do. -/

namespace Sys2Proof.Machine

/-- `t` agrees with `s` on the blocks: TIF, the notices, the snapshot, the waiting requests, the lines
and the panel may differ. -/
structure SameBlocks (s t : State) : Prop where
  pending : t.pending = s.pending
  resetHeld : t.resetHeld = s.resetHeld
  rct : t.rct = s.rct
  sin : t.sin = s.sin
  stu : t.stu = s.stu
  plu : t.plu = s.plu
  pju : t.pju = s.pju
  znu : t.znu = s.znu
  stage : t.stage = s.stage
  service : t.out.service = s.out.service
  refresh : t.out.refreshPeriod = s.out.refreshPeriod
  executing : t.mgu.executing = s.mgu.executing

theorem SameButSignals.blocks {s t : State} (h : SameButSignals s t) : SameBlocks s t :=
  ⟨h.pending, h.resetHeld, h.rct, h.sin, h.stu, h.plu, h.pju, h.znu, h.stage,
    by rw [h.out], by rw [h.out], by rw [h.mgu]⟩

theorem sameBlocks_setTif (s : State) (x : Tif) : SameBlocks s (s.setTif x) := by
  constructor <;> rfl

theorem sameBlocks_setMgu (s : State) (x : Mgu) (hx : x.executing = s.mgu.executing) :
    SameBlocks s (s.setMgu x) := by
  constructor
  case executing => exact hx
  all_goals rfl

theorem sameBlocks_setOut (s : State) (x : Out) (hservice : x.service = s.out.service)
    (hrefresh : x.refreshPeriod = s.out.refreshPeriod) : SameBlocks s (s.setOut x) := by
  constructor
  case service => exact hservice
  case refresh => exact hrefresh
  all_goals rfl

theorem sameBlocks_offerTransit (p : Port) (f : Frame) (s : State) :
    SameBlocks s (offerTransit p f s) := by
  unfold offerTransit
  split
  next => exact sameBlocks_setTif s _
  next => exact (trunkError_same p .drop s).signals.blocks

/-- MGU may execute a request: none is in execution and no evaluation is in progress (R168). -/
structure Free (s : State) : Prop where
  executing : s.mgu.executing = none
  phase : s.rct.phase ≠ .evaluating

/-- What each block does at each event keeps `P`, which is read from the blocks alone. -/
structure BlockKept (P : State → Prop) : Prop where
  congr : ∀ {s t}, SameBlocks s t → P s → P t
  copyStarts : ∀ {s} r, P s → Free s → s.pju.swapPending = false →
    P (s.setMgu { s.mgu with executing := some r, copyTimer := some 0 })
  copyEnds : ∀ {s} r, P s → s.mgu.executing = some r →
    P ((s.setPju s.pju.copied).setMgu { s.mgu with executing := none, copyTimer := none })
  read : ∀ {s} u t i f, P s → P (clearOnRead u t i f s)
  write : ∀ {s} u n i f w t status, P s → Free s → writeField u n i f w s = .done t status → P t
  start : ∀ {s} r, P s → Free s → startRefusal r s = none → P (startRun s)
  stop : ∀ {s}, P s → Free s → s.rct.opState = .run → P (stopRun s)
  probe : ∀ {s}, P s → s.rct.opState = .config → s.rct.probing = false →
    P (s.setRct s.rct.probe)
  swapNow : ∀ {s}, P s → Free s → s.pju.swapPending = false → swapFailure s = none →
    s.rct.opState = .config → P (exchange (s.setPju s.pju.validated))
  swapLater : ∀ {s}, P s → Free s → s.pju.swapPending = false → swapFailure s = none →
    s.rct.opState = .run → P (s.setPju { s.pju.validated with swapPending := true })
  admission : ∀ {s} i, P s → P (s.setStation i (s.station i).admitted)
  relax : ∀ {s} z, P s → s.rct.opState = .run → (s.zone z).level ≠ .clear →
    P (s.setZone z { s.zone z with hold := min (s.zone z).hold 2 })
  drill : ∀ {s} half mask d, P s → s.rct.opState = .run → 1 ≤ d → d ≤ 255 →
    P (s.mapZones fun z r => if drillSets half mask s z then { r with drillTimer := d } else r)
  endDrill : ∀ {s} half mask, P s → s.rct.opState = .run → P (endDrillZones half mask s)
  closing : ∀ {s}, P s → s.rct.opState = .run → s.rct.phase = .opened → P (closedBlocks s)
  expiry : ∀ {s}, P s → s.rct.opState = .run → s.rct.phase = .closed →
    reached s.rct.periodMs s.rct.roundTimer = true → P (openRound (s.setRct s.rct.advance))
  probeEnd : ∀ {s}, P s → s.rct.probing = true →
    P (s.setRct { s.rct with probing := false, probeTimer := none })
  pile : ∀ {s} p, P s → s.stage = .piles p → P (visitPile p s)
  projection : ∀ {s}, P s → s.stage = .projecting → P (project s)
  zone : ∀ {s} z, P s → s.stage = .zones z → P (evaluateZone z s)
  completion : ∀ {s}, P s → s.stage = .done → P (completed s)
  sign : ∀ {s₀ s} z, P s₀ → s₀.stage = .done → s.rct.opState = s₀.rct.opState → P s →
    P (signVisit s z)
  drain : ∀ {s} z, P s → s.rct.opState = .config → P (drainVisit s z)
  sample : ∀ {s} c, P s → P (takeSample c s)
  yard : ∀ {s} y, P s → P (takeYard y s)

section
variable {P : State → Prop} {s : State}

theorem tableSet_self {α : Type} {n : Nat} (v : Vector α n) (i : Fin n) : tableSet v i v[i] = v :=
  table_ext fun j => by
    rw [tableSet_get]
    split
    next h => rw [h]
    next => rfl

theorem State.setZone_self (s : State) (z : Fin 32) : s.setZone z (s.zone z) = s := by
  unfold State.setZone State.zone
  rw [tableSet_self, State.setZnu_same]

theorem drillDuration_bounds (w : Word) : 1 ≤ drillDuration w ∧ drillDuration w ≤ 255 := by
  unfold drillDuration
  omega

theorem BlockKept.setTif (k : BlockKept P) (x : Tif) (h : P s) : P (s.setTif x) :=
  k.congr (sameBlocks_setTif s x) h

theorem BlockKept.signals (k : BlockKept P) {t : State} (hsame : SameButSignals s t) (h : P s) :
    P t := k.congr hsame.blocks h

theorem BlockKept.closeRound (k : BlockKept P) (h : P s) (hrun : s.rct.opState = .run)
    (hopen : s.rct.phase = .opened) : P (closeRound s) :=
  k.signals (closeRound_same s) (k.closing h hrun hopen)

/-! ### The commands to the units -/

theorem BlockKept.runStart (k : BlockKept P) (r : Request) (h : P s) (hf : Free s) :
    P (runStart r s).1 := by
  unfold Machine.runStart
  cases hr : startRefusal r s with
  | some a => exact h
  | none => exact k.start r h hf hr

theorem BlockKept.runStop (k : BlockKept P) (r : Request) (h : P s) (hf : Free s) :
    P (runStop r s).1 := by
  unfold Machine.runStop
  split
  next hrun => exact k.stop h hf ((running_iff s).mp hrun)
  next => exact h

theorem BlockKept.runProbe (k : BlockKept P) (r : Request) (h : P s) :
    P (runProbe r s).1 := by
  unfold Machine.runProbe
  split
  next => exact h
  next hfree =>
    simp only [Bool.or_eq_true, not_or, Bool.not_eq_true] at hfree
    exact k.setTif _ (k.probe h ((not_running_iff s).mp hfree.1) hfree.2)

theorem BlockKept.runSwap (k : BlockKept P) (r : Request) (h : P s) (hf : Free s) :
    P (runSwap r s).1 := by
  unfold Machine.runSwap
  dsimp only
  split
  next => exact h
  next hpending =>
    rw [Bool.not_eq_true] at hpending
    cases hfail : swapFailure s with
    | some zf => exact h
    | none =>
      dsimp only
      split
      next hrun => exact k.swapLater h hf hpending hfail ((running_iff s).mp hrun)
      next hrun =>
        rw [Bool.not_eq_true] at hrun
        exact k.swapNow h hf hpending hfail ((not_running_iff s).mp hrun)

theorem BlockKept.runSnap (k : BlockKept P) (r : Request) (h : P s) : P (runSnap r s).1 := by
  unfold Machine.runSnap
  split
  next => exact k.congr (by constructor <;> rfl) h
  next => exact h

theorem BlockKept.runAdmit (k : BlockKept P) (r : Request) (h : P s) : P (runAdmit r s).1 := by
  unfold Machine.runAdmit
  split
  next i _ => exact k.signals (reevaluate_same _) (k.admission i h)
  next => exact h

theorem BlockKept.runRelax (k : BlockKept P) (r : Request) (h : P s) : P (runRelax r s).1 := by
  unfold Machine.runRelax
  dsimp only
  split
  next z _ =>
    split
    next hrun =>
      rw [Bool.and_eq_true] at hrun
      split
      next => rwa [State.setZone_self]
      next hlevel => exact k.relax z h ((running_iff s).mp hrun.1) hlevel
    next => exact h
  next => exact h

theorem BlockKept.runDrill (k : BlockKept P) (r : Request) (h : P s) : P (runDrill r s).1 := by
  unfold Machine.runDrill
  dsimp only
  split
  next => exact h
  next =>
    split
    next hrun =>
      obtain ⟨hlow, hhigh⟩ := drillDuration_bounds r.body.index
      refine k.signals (reevaluate_same _) (k.signals (raiseAll_same _ _).signals ?_)
      exact k.drill _ _ _ h ((running_iff s).mp hrun) hlow hhigh
    next => exact h

theorem BlockKept.runEndDrill (k : BlockKept P) (r : Request) (h : P s) :
    P (runEndDrill r s).1 := by
  unfold Machine.runEndDrill
  dsimp only
  split
  next => exact h
  next =>
    split
    next hrun => exact k.endDrill _ _ h ((running_iff s).mp hrun)
    next => exact h

theorem BlockKept.runCommand (k : BlockKept P) (r : Request) (h : P s) (hf : Free s) :
    P (runCommand r s).1 := by
  unfold Machine.runCommand
  split
  case h_1 => exact k.runStart r h hf
  case h_2 => exact k.runStop r h hf
  case h_3 => exact k.runProbe r h
  case h_4 => exact k.runSwap r h hf
  case h_5 => exact k.runSnap r h
  case h_6 => exact k.runAdmit r h
  case h_7 => exact k.runRelax r h
  case h_8 => exact k.runDrill r h
  case h_9 => exact k.runEndDrill r h
  case h_10 => exact h

theorem BlockKept.runRead (k : BlockKept P) (r : Request) (h : P s) : P (runRead r s).1 := by
  unfold Machine.runRead
  dsimp only
  split
  next => exact k.read _ _ _ _ h
  next => exact h

theorem BlockKept.runWrite (k : BlockKept P) (r : Request) (h : P s) (hf : Free s) :
    P (runWrite r s).1 := by
  unfold Machine.runWrite
  dsimp only
  split
  case h_4 t status hw => exact k.write _ _ _ _ _ t status h hf hw
  all_goals exact h

theorem BlockKept.runRequest (k : BlockKept P) (r : Request) (h : P s) (hf : Free s) :
    P (runRequest r s).1 := by
  unfold Machine.runRequest
  split_ifs
  · exact h
  · exact k.runRead r h
  · exact k.runWrite r h hf
  · exact k.runCommand r h hf
  · exact h

theorem BlockKept.takeRequest (k : BlockKept P) (r : Request) (h : P s) (hf : Free s) :
    P (takeRequest r s) := by
  have reserved : P (s.setTif (s.tif.reserve r.port)) := k.setTif _ h
  have free : Free (s.setTif (s.tif.reserve r.port)) := ⟨hf.executing, hf.phase⟩
  unfold Machine.takeRequest
  dsimp only
  split
  next hcopy =>
    rw [Bool.and_eq_true, Bool.not_eq_true'] at hcopy
    exact k.copyStarts r reserved free hcopy.2
  next => exact k.setTif _ (k.runRequest r reserved free)

theorem canTake_free {r : Request} (hc : canTake r s = true) : Free s := by
  simp only [canTake, Bool.and_eq_true, Option.isNone_iff_eq_none, bne_iff_ne] at hc
  exact ⟨hc.1.1, hc.1.2⟩

/-- What the blocks keep at their events is kept by every event of the part. -/
theorem BlockKept.keptNow (k : BlockKept P) : KeptNow P where
  waits r h _ := k.congr (sameBlocks_setMgu _ _ rfl) h
  dropped h := k.congr (sameBlocks_setMgu _ _ rfl) h
  take r rest h _ hc :=
    have free := canTake_free hc
    k.takeRequest r (k.congr (sameBlocks_setMgu _ _ rfl) h) ⟨free.executing, free.phase⟩
  copyEnds {s} r h hx := by
    unfold finishCopy
    rw [hx]
    exact k.setTif _ (k.copyEnds r h hx)
  deadline h hrun hopen _ := k.closeRound h hrun hopen
  expiry := k.expiry
  probeEnd {s} h hp := by
    unfold probeExpires
    split
    next => exact k.signals (raise_same _ _ _).signals (k.probeEnd h hp)
    next => exact h
  pile := k.pile
  projection := k.projection
  zone := k.zone
  completion := k.completion
  sign := k.sign
  drain := k.drain
  left p h _ := k.setTif _ h
  panel h := k.congr (sameBlocks_setOut _ _ rfl rfl) h
  framed p rx h := k.setTif _ h
  framerReset p f h := k.setTif _ h
  counted p g _ h := k.setTif _ h
  crcError p h := k.signals (trunkError_same p .crc _).signals h
  forwarded p f g _ h := k.setTif _ (k.setTif _ (k.congr (sameBlocks_offerTransit p f _) h))
  copied p f c h := k.setTif _ (k.sample c (k.congr (sameBlocks_offerTransit p f _) h))
  sample := k.sample
  yard := k.yard

end

end Sys2Proof.Machine
end

section
/-! Proofs about READ, WRITE, START's checks and station samples: every outcome of each, said once (R20,
R38 to R52, R169, R170). -/

namespace Sys2Proof.Machine

/-! ### READ (R170) -/

/-- `t` is `s` after a READ: counters, the notice flags and SYNC_FAIL at most are cleared. -/
structure ReadsOnly (s t : State) : Prop where
  pending : t.pending = s.pending
  resetHeld : t.resetHeld = s.resetHeld
  stu : t.stu = s.stu
  pju : t.pju = s.pju
  znu : t.znu = s.znu
  out : t.out = s.out
  stage : t.stage = s.stage
  rct : t.rct = { s.rct with syncFail := t.rct.syncFail }
  piles : t.plu.piles = s.plu.piles
  markSlot : t.tif.markSlot = s.tif.markSlot
  strap : t.tif.strap = s.tif.strap
  reading : ∀ i, (t.intake i).reading = (s.intake i).reading
  pendingA : ∀ i, (t.intake i).pendingA = (s.intake i).pendingA
  lastOffset : ∀ i, (t.intake i).lastOffset = (s.intake i).lastOffset
  requests : t.mgu.requests = s.mgu.requests
  executing : t.mgu.executing = s.mgu.executing
  copyTimer : t.mgu.copyTimer = s.mgu.copyTimer
  snapshot : t.mgu.snapshot = s.mgu.snapshot

theorem ReadsOnly.refl (s : State) : ReadsOnly s s := by constructor <;> intros <;> rfl

theorem readsOnly_modPort (s : State) (p : Port) (g : PortState → PortState) :
    ReadsOnly s (s.modPort p g) := by
  constructor
  case markSlot => exact Tif.modPort_markSlot _ _ _
  case strap => exact Tif.modPort_strap _ _ _
  all_goals intros; rfl

theorem Intake.clearCounter_kept (it : Intake) (f : Nat) :
    (it.clearCounter f).reading = it.reading ∧ (it.clearCounter f).pendingA = it.pendingA ∧
      (it.clearCounter f).lastOffset = it.lastOffset := by
  unfold Intake.clearCounter
  split <;> exact ⟨rfl, rfl, rfl⟩

theorem readsOnly_setIntake (s : State) (k : Fin 48) (f : Nat) :
    ReadsOnly s (s.setIntake k ((s.intake k).clearCounter f)) := by
  obtain ⟨hreading, hpending, hoffset⟩ := Intake.clearCounter_kept (s.intake k) f
  constructor
  case reading | pendingA | lastOffset =>
    intro i
    rw [State.intake_setIntake]
    split
    next hi => rw [hi]; assumption
    next => rfl
  all_goals rfl

theorem clearOnRead_reads (u t i f : Nat) (s : State) : ReadsOnly s (clearOnRead u t i f s) := by
  have same (x : State) (hx : x = s) : ReadsOnly s x := hx ▸ ReadsOnly.refl s
  unfold clearOnRead
  split
  case h_1 =>
    split_ifs
    · exact readsOnly_modPort s .field _
    · exact readsOnly_modPort s .quay _
    all_goals constructor <;> intros <;> rfl
  case h_2 => split_ifs <;> constructor <;> intros <;> rfl
  case h_3 =>
    split
    next k _ => exact readsOnly_setIntake s k f
    next => exact ReadsOnly.refl s
  case h_4 => split_ifs <;> constructor <;> intros <;> rfl
  case h_5 => exact ReadsOnly.refl s

/-! ### WRITE (R169) -/

theorem Judged.stores_of_into {α β : Type} {store : α → β} {j : Judged α} {y : β}
    (h : (j.into store).Stores y) : ∃ x, j.Stores x ∧ y = store x := by
  cases j with
  | stored x => exact ⟨x, .inl rfl, by simpa [Judged.Stores, Judged.into, eq_comm] using h⟩
  | clamped x => exact ⟨x, .inr rfl, by simpa [Judged.Stores, Judged.into, eq_comm] using h⟩
  | bad => simp [Judged.Stores, Judged.into] at h

/-- A magnitude stored lies within its bounds. -/
theorem judgeMagnitude_stores {lo hi x : Nat} {w : Word} (hlh : lo ≤ hi)
    (h : (judgeMagnitude lo hi w).Stores x) : lo ≤ x ∧ x ≤ hi := by
  unfold judgeMagnitude at h
  split_ifs at h <;>
    (simp only [Judged.Stores, Judged.stored.injEq, Judged.clamped.injEq, reduceCtorEq, or_false,
      false_or] at h; omega)

theorem storeJudged_permitted {α : Type} {permitted : Bool} {j : Option (Judged α)}
    {store : α → State} {t : State} {status : Status}
    (h : storeJudged permitted j store = .done t status) : permitted = true := by
  unfold storeJudged at h
  split at h
  next => cases h
  next => split at h <;> [assumption; cases h]

/-- What a WRITE of `w` that is done has changed, table by table (R19, R37, R94, R112, R158). -/
inductive Written (w : Word) (s : State) : State → Prop where
  | blocks {t : State} : SameBlocks s t → Written w s t
  | round {f : Nat} {v : Judged Rct} (r : Rct) : s.rct.opState = .config → s.rct.probing = false →
      s.rct.write f w = some v → v.Stores r → Written w s (s.setRct r)
  | station {f : Nat} {v : Judged StationCfg} (k : Fin 48) (c : StationCfg) :
      s.rct.opState = .config → (s.station k).cfg.write f w = some v → v.Stores c →
      Written w s (s.setStation k
        (if f ≤ 1 then (s.station k).writeService c else { s.station k with cfg := c }))
  | pile {f : Nat} {v : Judged PileCfg} (k : Fin 24) (c : PileCfg) : s.rct.opState = .config →
      (s.pile k).cfg.write f w = some v → v.Stores c →
      Written w s (s.setPile k ((s.pile k).store c))
  | plume {i f : Nat} {v : Judged PlumeEntry} (e : PlumeEntry) : i < 1536 →
      s.pju.swapPending = false → (plumeRead s.pju.standby.plume i).write f w = some v →
      v.Stores e →
      Written w s
        (storeStandby { s.pju.standby with plume := plumeWrite s.pju.standby.plume i e } s)
  | zoneCfg {f : Nat} {v : Judged ZoneCfg} (k : Fin 32) (c : ZoneCfg) :
      s.pju.swapPending = false → s.pju.standby.zones[k].write f w = some v → v.Stores c →
      Written w s
        (storeStandby { s.pju.standby with zones := tableSet s.pju.standby.zones k c } s)
  | refresh (r : Nat) : 1 ≤ r → r ≤ 255 →
      Written w s (s.setOut { s.out with refreshPeriod := r })

section
variable {s t : State} {w : Word} {status : Status} {i f : Nat}

theorem config_of_not_running (h : (!s.running) = true) : s.rct.opState = .config :=
  (not_running_iff s).mp (by simpa using h)

theorem writeRound_written (h : writeRound i f w s = .done t status) : Written w s t := by
  unfold writeRound at h
  split at h
  next =>
    have permitted := storeJudged_permitted h
    rw [Bool.and_eq_true] at permitted
    obtain ⟨v, r, hv, hr, rfl⟩ := storeJudged_done h
    exact .round r (config_of_not_running permitted.1) (by simpa using permitted.2) hv hr
  next => cases h

theorem writeNotices_written (h : writeNotices i f w s = .done t status) : Written w s t := by
  unfold writeNotices at h
  split at h
  next =>
    obtain ⟨v, n, -, -, rfl⟩ := storeJudged_done h
    dsimp only
    split
    next => exact .blocks (by constructor <;> rfl)
    next => exact .blocks (by constructor <;> rfl)
  next => cases h

theorem writeStation_written (h : writeStation i f w s = .done t status) : Written w s t := by
  unfold writeStation at h
  split at h
  next k _ =>
    have permitted := storeJudged_permitted h
    obtain ⟨v, c, hv, hc, rfl⟩ := storeJudged_done h
    exact .station k c (config_of_not_running permitted) hv hc
  next => cases h

theorem writePile_written (h : writePile i f w s = .done t status) : Written w s t := by
  unfold writePile at h
  split at h
  next k _ =>
    have permitted := storeJudged_permitted h
    obtain ⟨v, c, hv, hc, rfl⟩ := storeJudged_done h
    exact .pile k c (config_of_not_running permitted) hv hc
  next => cases h

theorem writePlume_written (h : writePlume i f w s = .done t status) : Written w s t := by
  unfold writePlume at h
  split at h
  next hi =>
    have permitted := storeJudged_permitted h
    obtain ⟨v, e, hv, he, rfl⟩ := storeJudged_done h
    exact .plume e hi (by simpa using permitted) hv he
  next => cases h

theorem writeZoneCfg_written (h : writeZoneCfg i f w s = .done t status) : Written w s t := by
  unfold writeZoneCfg at h
  split at h
  next k _ =>
    have permitted := storeJudged_permitted h
    obtain ⟨v, c, hv, hc, rfl⟩ := storeJudged_done h
    exact .zoneCfg k c (by simpa using permitted) hv hc
  next => cases h

theorem writeLineTable_written (h : writeLineTable i f w s = .done t status) : Written w s t := by
  unfold writeLineTable writeRefresh writeLine at h
  split at h
  next =>
    obtain ⟨v, r, hv, hr, rfl⟩ := storeJudged_done h
    split at hv
    next =>
      cases hv
      obtain ⟨hlow, hhigh⟩ := judgeMagnitude_stores (by decide) hr
      exact .refresh r hlow hhigh
    next => cases hv
  next =>
    split at h
    next =>
      obtain ⟨v, c, -, -, rfl⟩ := storeJudged_done h
      exact .blocks (by constructor <;> rfl)
    next => cases h

theorem writePanelMode_written (h : writePanelMode i f w s = .done t status) :
    Written w s t := by
  unfold writePanelMode at h
  split at h
  next =>
    obtain ⟨v, m, -, -, rfl⟩ := storeJudged_done h
    exact .blocks (by constructor <;> rfl)
  next => cases h

theorem writeField_written {u n : Nat} (h : writeField u n i f w s = .done t status) :
    Written w s t := by
  unfold writeField at h
  split at h
  case h_1 => exact writeRound_written h
  case h_2 => exact writeNotices_written h
  case h_3 => exact writeStation_written h
  case h_4 => exact writePile_written h
  case h_5 => exact writePlume_written h
  case h_6 => exact writeZoneCfg_written h
  case h_7 => exact writeLineTable_written h
  case h_8 => exact writePanelMode_written h
  case h_9 => cases h

end

/-! ### The checks of START and SWAP (R20, R114, R120) -/

theorem startRefusal_none_iff (r : Request) (s : State) :
    startRefusal r s = none ↔
      s.rct.opState = .config ∧ s.rct.probing = false ∧ s.pju.active.valid = true ∧
        crossFailure s = none := by
  unfold startRefusal
  split
  next h =>
    rw [Bool.or_eq_true, running_iff] at h
    constructor
    · intro hn; cases hn
    · rintro ⟨hop, hprobe, -⟩
      rcases h with h | h
      · rw [hop] at h; cases h
      · rw [hprobe] at h; cases h
  next h =>
    rw [Bool.or_eq_true, not_or, Bool.not_eq_true, Bool.not_eq_true, not_running_iff] at h
    split
    next hv => simp [hv]
    next hv => simp [h, hv]

theorem checkThresholds_none (c : ZoneCfg) :
    checkThresholds c = none ↔ c.watch < c.warn ∧ c.warn < c.alert := by
  unfold checkThresholds
  split
  next h => simp [h]
  next h => simp [h]

theorem checkConfirmNamed_none (c : ZoneCfg) :
    checkConfirmNamed c = none ↔ (c.confirmRequired = true → ∃ i, some i ∈ c.confirmSlots) := by
  have named : c.confirmSlots.all Option.isNone = true ↔ ¬ ∃ i, some i ∈ c.confirmSlots := by
    simp only [List.all_eq_true, Option.isNone_iff_eq_none, not_exists]
    constructor
    · intro h i hi; cases h _ hi
    · intro h x hx
      cases x with
      | none => rfl
      | some i => exact absurd hx (h i)
  unfold checkConfirmNamed
  rw [ite_eq_right_iff, Bool.and_eq_true, named]
  tauto

theorem checkConfirmKinds_none (kindOf : Fin 48 → Kind) (c : ZoneCfg) :
    checkConfirmKinds kindOf c = none ↔ ∀ i, some i ∈ c.confirmSlots → kindOf i = .dust := by
  have slots (i : Fin 48) : some i ∈ c.confirmSlots ↔
      c.confirm1 = some i ∨ c.confirm2 = some i ∨ c.confirm3 = some i := by
    simp [ZoneCfg.confirmSlots, eq_comm]
  simp only [slots]
  unfold checkConfirmKinds
  cases c.confirm1 <;> cases c.confirm2 <;> cases c.confirm3 <;> simp <;> grind

theorem checkSigns_none (c : ZoneCfg) :
    checkSigns c = none ↔ ∀ a ∈ c.signAddresses, 64 ≤ a.toNat ∧ a.toNat ≤ 191 := by
  unfold checkSigns ZoneCfg.signAddresses isSignAddress
  cases c.sign1 <;> cases c.sign2 <;> grind

/-- An enabled record passes SWAP's checks exactly when it is validated, and in RUN its confirm slots
name DUST stations (R114). -/
theorem checkZoneRecord_none (inRun : Bool) (kindOf : Fin 48 → Kind) (c : ZoneCfg) :
    checkZoneRecord inRun kindOf c = none ↔
      c.Validated ∧ (inRun = true → ∀ i, some i ∈ c.confirmSlots → kindOf i = .dust) := by
  have kinds : (if inRun then checkConfirmKinds kindOf c else none) = none ↔
      (inRun = true → ∀ i, some i ∈ c.confirmSlots → kindOf i = .dust) := by
    rw [← checkConfirmKinds_none]
    cases inRun <;> simp
  unfold checkZoneRecord
  rw [Option.or_eq_none_iff, Option.or_eq_none_iff, Option.or_eq_none_iff, kinds,
    checkThresholds_none, checkConfirmNamed_none, checkSigns_none]
  constructor
  · rintro ⟨⟨ht, hn⟩, hk, hs⟩
    exact ⟨⟨ht, hn, hs⟩, hk⟩
  · rintro ⟨⟨ht, hn, hs⟩, hk⟩
    exact ⟨⟨ht, hn⟩, hk, hs⟩

theorem firstFailure_none (zones : Vector ZoneCfg 32) (check : ZoneCfg → FailedField) :
    firstFailure zones check = none ↔
      ∀ z : Fin 32, zones[z].enable = true → check zones[z] = none := by
  simp [firstFailure, List.findSome?_eq_none_iff]

theorem swapFailure_none_iff (s : State) : swapFailure s = none ↔ SwapValid s := by
  unfold swapFailure SwapValid
  rw [firstFailure_none]
  simp only [checkZoneRecord_none, running_iff, State.kindOf]

/-! ### Station samples (R38 to R52) -/

/-- The round slot and the station's took-test flag once an accepted sample has left them. -/
def samplePlaced (c : SampleCopy) (s : State) : State :=
  (s.setIntake c.station
    ((s.intake c.station).accept (s.station c.station).cfg c.channel c.value s.rct.clock)).setStation
      c.station ((s.station c.station).markTest (sampleTest c))

/-- An accepted sample is its station's first reading of the round. -/
def FirstReading (c : SampleCopy) (s : State) : Prop :=
  (s.intake c.station).reading = none ∧
    ((s.intake c.station).accept (s.station c.station).cfg c.channel c.value
      s.rct.clock).reading.isSome = true

/-- RCT has counted off one expected station. -/
def countedOff (s : State) : State :=
  s.setRct { s.rct with outstanding := s.rct.outstanding - 1 }

/-- What becomes of a station sample. -/
inductive Sampled (c : SampleCopy) (s : State) : State → Prop where
  | discarded : s.rct.opState = .config → Sampled c s s
  | probed : s.rct.opState = .config → s.rct.probing = true → Sampled c s (s.setRct
      { s.rct with
        probes := tableSet s.rct.probes c.station (s.rct.probes[c.station].record s.rct.clock) })
  | dropped (d : Disposal) : s.rct.opState = .run → judgeSample c s = d → d ≠ .accepted →
      Sampled c s (s.setIntake c.station ((s.intake c.station).drop d))
  | unreported : s.rct.opState = .run → judgeSample c s = .accepted →
      ¬ (FirstReading c s ∧ c.station ∈ s.rct.expected) → Sampled c s (samplePlaced c s)
  | reported : s.rct.opState = .run → judgeSample c s = .accepted → FirstReading c s →
      c.station ∈ s.rct.expected → allInCloses (countedOff s).rct = false →
      Sampled c s (countedOff (samplePlaced c s))
  | closed : s.rct.opState = .run → judgeSample c s = .accepted → FirstReading c s →
      c.station ∈ s.rct.expected → allInCloses (countedOff s).rct = true →
      Sampled c s (closeRound (countedOff (samplePlaced c s)))

theorem acceptSample_eq (c : SampleCopy) (s : State) :
    acceptSample c s =
      if (s.intake c.station).reading.isNone &&
        ((s.intake c.station).accept (s.station c.station).cfg c.channel c.value
          s.rct.clock).reading.isSome
      then reportReading c.station (samplePlaced c s) else samplePlaced c s := rfl

theorem acceptSample_sampled {c : SampleCopy} {s : State} (hrun : s.rct.opState = .run)
    (hj : judgeSample c s = .accepted) : Sampled c s (acceptSample c s) := by
  rw [acceptSample_eq]
  split
  next hfirst =>
    rw [Bool.and_eq_true, Option.isNone_iff_eq_none] at hfirst
    unfold reportReading
    dsimp only
    split
    next hexp =>
      split
      next hclose => exact .closed hrun hj hfirst hexp hclose
      next hclose => exact .reported hrun hj hfirst hexp ((Bool.not_eq_true _).mp hclose)
    next hexp => exact .unreported hrun hj fun h => hexp h.2
  next hfirst =>
    refine .unreported hrun hj fun h => hfirst ?_
    rw [Bool.and_eq_true, Option.isNone_iff_eq_none]
    exact h.1

theorem takeSample_sampled (c : SampleCopy) (s : State) : Sampled c s (takeSample c s) := by
  unfold takeSample
  split
  next hrun =>
    rw [running_iff] at hrun
    unfold runSample
    split
    next hj => exact acceptSample_sampled hrun hj
    next d hd => exact .dropped _ hrun rfl hd
  next hrun =>
    rw [Bool.not_eq_true, not_running_iff] at hrun
    split
    next hprobe =>
      unfold probeSample
      split
      next => exact .probed hrun hprobe
      next => exact .discarded hrun
    next => exact .discarded hrun

/-- A sample changes neither PLU, PJU nor the operating state. -/
theorem Sampled.kept {c : SampleCopy} {s t : State} (h : Sampled c s t) :
    t.rct.opState = s.rct.opState ∧ t.plu = s.plu ∧ t.pju = s.pju ∧
      t.mgu.executing = s.mgu.executing ∧ t.out.service = s.out.service ∧
      t.out.refreshPeriod = s.out.refreshPeriod ∧ t.pending = s.pending ∧
      t.resetHeld = s.resetHeld ∧ (∀ z, t.zone z = s.zone z) := by
  cases h with
  | closed =>
    have same := (closeRound_same (countedOff (samplePlaced c s))).blocks
    exact ⟨by rw [same.rct]; rfl, same.plu, same.pju, same.executing, same.service, same.refresh,
      same.pending, same.resetHeld, fun z => by rw [State.zone_congr same.znu]; rfl⟩
  | _ => exact ⟨rfl, rfl, rfl, rfl, rfl, rfl, rfl, rfl, fun _ => rfl⟩

end Sys2Proof.Machine
end

section
/-! Proofs about the banks (R109 to R121): every event keeps them sound. -/

namespace Sys2Proof.Machine

/-! ### The standby bank -/

section
variable (p : Pju) (b : Bank)

@[simp] theorem standby_setStandby : (p.setStandby b).standby = b := by
  cases h : p.activeIs1 <;> simp [Pju.setStandby, Pju.standby, h]

@[simp] theorem setStandby_swapPending : (p.setStandby b).swapPending = p.swapPending := by
  unfold Pju.setStandby; split <;> rfl

@[simp] theorem setStandby_feeders : (p.setStandby b).feeders = p.feeders := by
  unfold Pju.setStandby; split <;> rfl

@[simp] theorem setStandby_contributions :
    (p.setStandby b).contributions = p.contributions := by
  unfold Pju.setStandby; split <;> rfl

@[simp] theorem setStandby_activeIs1 : (p.setStandby b).activeIs1 = p.activeIs1 := by
  unfold Pju.setStandby; split <;> rfl

end

/-! ### Records in range -/

/-- A zone record stays in range under a write of any of its fields (R111). -/
theorem ZoneCfg.Sound.write {c x : ZoneCfg} {f : Nat} {w : Word} {v : Judged ZoneCfg}
    (h : c.Sound) (hv : c.write f w = some v) (hx : v.Stores x) : x.Sound := by
  unfold ZoneCfg.write at hv
  split at hv
  case h_18 => cases hv
  all_goals
    cases hv
    obtain ⟨n, hn, rfl⟩ := Judged.stores_of_into hx
  case h_2 => exact { h with watch := judgeMagnitude_stores (by decide) hn }
  case h_3 => exact { h with warn := judgeMagnitude_stores (by decide) hn }
  case h_4 => exact { h with alert := judgeMagnitude_stores (by decide) hn }
  case h_5 => exact { h with watchHold := judgeMagnitude_stores (by decide) hn }
  case h_6 => exact { h with warnHold := judgeMagnitude_stores (by decide) hn }
  case h_7 => exact { h with alertHold := judgeMagnitude_stores (by decide) hn }
  case h_8 => exact { h with rUp := judgeMagnitude_stores (by decide) hn }
  case h_9 => exact { h with rDown := judgeMagnitude_stores (by decide) hn }
  case h_14 => exact { h with confirmThreshold := (judgeMagnitude_stores (by decide) hn).2 }
  all_goals exact { h with }

/-- So do lag and weight of a plume entry (R110). -/
theorem plumeEntry_write_bounds {e x : PlumeEntry} {f : Nat} {w : Word} {v : Judged PlumeEntry}
    (h : e.lag ≤ 15 ∧ e.weight ≤ 8) (hv : e.write f w = some v) (hx : v.Stores x) :
    x.lag ≤ 15 ∧ x.weight ≤ 8 := by
  unfold PlumeEntry.write at hv
  split at hv
  case h_4 => cases hv
  all_goals
    cases hv
    obtain ⟨n, hn, rfl⟩ := Judged.stores_of_into hx
  case h_1 => exact h
  case h_2 => exact ⟨(judgeMagnitude_stores (by decide) hn).2, h.2⟩
  case h_3 => exact ⟨h.1, (judgeMagnitude_stores (by decide) hn).2⟩

/-- A plume write keeps a bank sound; its valid flag is then clear (R112). -/
theorem Bank.Sound.plumeWrite {b : Bank} (h : b.Sound) {i : Nat} {e : PlumeEntry} (hi : i < 1536)
    (he : e.lag ≤ 15 ∧ e.weight ≤ 8) :
    Bank.Sound { b with plume := Machine.plumeWrite b.plume i e, valid := false } := by
  refine ⟨plumeWrite_wf _ _ _ h.canonical hi, fun j => ?_, h.zones, fun hv => by cases hv⟩
  rw [plumeRead_write _ _ _ _ h.canonical]
  split
  next => exact he
  next => exact h.entries j

theorem Bank.Sound.zoneWrite {b : Bank} (h : b.Sound) (k : Fin 32) {c : ZoneCfg} (hc : c.Sound) :
    Bank.Sound { b with zones := tableSet b.zones k c, valid := false } := by
  refine ⟨h.canonical, h.entries, fun z => ?_, fun hv => by cases hv⟩
  rw [tableSet_get]
  split
  next => exact hc
  next => exact h.zones z

theorem zoneCfg_cleared_sound : ZoneCfg.cleared.Sound := by constructor <;> decide

theorem bank_cleared_sound : Bank.cleared.Sound := by
  refine ⟨rfl, fun _ => ⟨Nat.zero_le _, Nat.zero_le _⟩, fun z => ?_, fun hv => by cases hv⟩
  have cleared : Bank.cleared.zones[z] = ZoneCfg.cleared := by simp [Bank.cleared]
  rw [cleared]
  exact zoneCfg_cleared_sound

/-! ### What the banks are read from -/

section
variable {s t : State}

/-- The banks are read from PJU but its contributions, the operating state and the COPY in
execution. -/
theorem BanksSound.congr (h : BanksSound s)
    (hpju : t.pju = { s.pju with contributions := t.pju.contributions })
    (hop : t.rct.opState = s.rct.opState) (hx : t.mgu.executing = s.mgu.executing) :
    BanksSound t := by
  have active : t.pju.active = s.pju.active := by rw [hpju]; rfl
  have standby : t.pju.standby = s.pju.standby := by rw [hpju]; rfl
  have pending : t.pju.swapPending = s.pju.swapPending := by rw [hpju]
  have feeders : t.pju.feeders = s.pju.feeders := by rw [hpju]
  constructor
  case active => rw [active]; exact h.active
  case standby => rw [standby]; exact h.standby
  case running => rw [hop, active]; exact h.running
  case pending => rw [pending, hop, standby, hx]; exact h.pending
  case feeders => rw [feeders, active]; exact h.feeders

theorem BanksSound.same (h : BanksSound s) (hpju : t.pju = s.pju)
    (hop : t.rct.opState = s.rct.opState) (hx : t.mgu.executing = s.mgu.executing) :
    BanksSound t := h.congr (by rw [hpju]) hop hx

theorem BanksSound.blocks (h : BanksSound s) (hsame : SameBlocks s t) : BanksSound t :=
  h.same hsame.pju (by rw [hsame.rct]) hsame.executing

/-- A sound standby bank may be put in while no swap is pending. -/
theorem BanksSound.setStandby (h : BanksSound s) {b : Bank} (hb : b.Sound)
    (hpending : s.pju.swapPending = false) : BanksSound (s.setPju (s.pju.setStandby b)) := by
  constructor
  case active => simpa using h.active
  case standby => simpa using hb
  case running => simpa using h.running
  case pending => simp [hpending]
  case feeders => simpa using h.feeders

/-- A standby bank that passes SWAP's checks is sound with its valid flag set (R113, R114). -/
theorem BanksSound.validated_sound (h : BanksSound s) (hv : swapFailure s = none) :
    Bank.Sound { s.pju.standby with valid := true } := by
  refine ⟨h.standby.canonical, h.standby.entries, h.standby.zones, fun _ z hen => ?_⟩
  exact ((swapFailure_none_iff s).mp hv z hen).1

theorem BanksSound.validated (h : BanksSound s) (hpending : s.pju.swapPending = false)
    (hv : swapFailure s = none) : BanksSound (s.setPju s.pju.validated) :=
  h.setStandby (h.validated_sound hv) hpending

/-- The banks right after the pointer has moved (R117). -/
theorem BanksSound.exchanged (h : BanksSound s)
    (hvalid : s.rct.opState = .run → s.pju.standby.valid = true)
    (hpju : t.pju = { s.pju.exchanged with contributions := t.pju.contributions })
    (hop : t.rct.opState = .run → s.rct.opState = .run) : BanksSound t := by
  have active : t.pju.active = s.pju.standby := by
    rw [← exchanged_active, hpju]; rfl
  have standby : t.pju.standby = s.pju.active := by
    rw [← exchanged_standby, hpju]; rfl
  constructor
  case active => rw [active]; exact h.standby
  case standby => rw [standby]; exact h.active
  case running => intro hrun; rw [active]; exact hvalid (hop hrun)
  case pending => rw [hpju]; intro hp; cases hp
  case feeders => rw [active, ← exchanged_feeders, hpju]

theorem BanksSound.exchange (h : BanksSound s)
    (hvalid : s.rct.opState = .run → s.pju.standby.valid = true) :
    BanksSound (exchange s) := by
  have same := exchange_same s
  refine h.exchanged hvalid ?_ fun hrun => ?_
  · rw [same.pju]; rfl
  · rw [same.rct] at hrun; exact hrun

theorem BanksSound.beforePosting (h : BanksSound s) : BanksSound (beforePosting s) := by
  unfold Machine.beforePosting
  split
  next hp => exact h.exchange fun _ => (h.pending hp).2.1
  next => exact h

theorem BanksSound.project (h : BanksSound s) : BanksSound (project s) := by
  have posted := postContributions_posted (Machine.beforePosting s).pju.contributions
    (Machine.beforePosting s)
  rw [project_eq]
  exact h.beforePosting.congr rfl (by
    simp only [State.setStage_rct, State.setPju_rct, posted.rct])
    (by simp only [State.setStage_mgu, State.setPju_mgu]; rw [posted.same]; rfl)

theorem BanksSound.write {w : Word} (h : BanksSound s) (hw : Written w s t) : BanksSound t := by
  cases hw with
  | blocks same => exact h.blocks same
  | round r hop _ hv hr => exact h.same rfl (Rct.write_opState hv hr) rfl
  | station | pile | refresh => exact h.same rfl rfl rfl
  | plume e hi hpending hv he =>
    exact h.setStandby (h.standby.plumeWrite hi
      (plumeEntry_write_bounds (h.standby.entries _) hv he)) hpending
  | zoneCfg k c hpending hv hc =>
    exact h.setStandby (h.standby.zoneWrite k ((h.standby.zones k).write hv hc)) hpending

/-- In CONFIG, with no swap pending, the banks are sound whatever RUN asked of them. -/
theorem BanksSound.idle (h : BanksSound s)
    (hpju : t.pju = { s.pju with contributions := t.pju.contributions })
    (hpending : t.pju.swapPending = false) (hop : t.rct.opState = .config) : BanksSound t := by
  have active : t.pju.active = s.pju.active := by rw [hpju]; rfl
  have standby : t.pju.standby = s.pju.standby := by rw [hpju]; rfl
  have feeders : t.pju.feeders = s.pju.feeders := by rw [hpju]
  constructor
  case active => rw [active]; exact h.active
  case standby => rw [standby]; exact h.standby
  case running => rw [hop]; intro hrun; cases hrun
  case pending => rw [hpending]; intro hp; cases hp
  case feeders => rw [feeders, active]; exact h.feeders

theorem BanksSound.stopped (h : BanksSound s) : BanksSound (stopRun s) := by
  have signs := serviceSigns_signs (stoppedBlocks s)
  rw [stopRun_eq]
  have config : (serviceSigns (stoppedBlocks s)).rct.opState = .config := by
    rw [signs.rct]; rfl
  refine BanksSound.blocks ?_ (reevaluate_same _).blocks
  cases hp : s.pju.swapPending with
  | true =>
    refine h.exchanged (fun _ => (h.pending hp).2.1) ?_ fun hrun => ?_
    · simp [stoppedPju, hp]
    · rw [State.setPju_rct, config] at hrun; cases hrun
  | false =>
    have pju : stoppedPju s.pju = { s.pju with contributions := [] } := by simp [stoppedPju, hp]
    exact h.idle (by rw [State.setPju_pju, pju]) (by rw [State.setPju_pju, pju]; exact hp)
      (by rw [State.setPju_rct, config])

theorem banksSound_started {r : Request} (h : BanksSound s) (hr : startRefusal r s = none) :
    BanksSound (startRun s) := by
  obtain ⟨-, -, hvalid, -⟩ := (startRefusal_none_iff r s).mp hr
  rw [startRun_eq, openRound_eq]
  refine BanksSound.blocks ?_ (reevaluate_same _).blocks
  exact ⟨h.active, h.standby, fun _ => hvalid, (fun hp => by cases hp), h.feeders⟩

theorem SignsOnly.banksSound (hs : SignsOnly s t) (h : BanksSound s) : BanksSound t :=
  h.same hs.pju (by rw [hs.rct]) (by rw [hs.mgu])

theorem banksSound_reset (l : List Instr) (held : Option ResetCause) (x : Tif)
    (stu : Vector Station 48) (m : Mgu) :
    BanksSound
      { State.reset with pending := l, resetHeld := held, tif := x, stu := stu, mgu := m } := by
  refine ⟨bank_cleared_sound, bank_cleared_sound, (fun h => by cases h),
    (fun h => by cases h), ?_⟩
  apply table_ext
  intro z
  simp [State.reset, Pju.cleared, Pju.active, feederMasks, feederMask, Bank.cleared]

end

/-- Every event keeps the banks sound. -/
theorem banksSound_kept : BlockKept BanksSound where
  congr same h := h.blocks same
  copyStarts r h _ hp := by
    refine ⟨h.active, h.standby, h.running, fun hpending => ?_, h.feeders⟩
    rw [State.setMgu_pju, hp] at hpending
    cases hpending
  copyEnds {s} r h hx := by
    have idle : s.pju.swapPending = false := by
      by_contra hp
      rw [Bool.not_eq_false] at hp
      rw [(h.pending hp).2.2] at hx
      cases hx
    have copied : BanksSound (s.setPju s.pju.copied) := h.setStandby h.active idle
    refine ⟨copied.active, copied.standby, copied.running, fun hp => ?_, copied.feeders⟩
    exact ⟨(copied.pending hp).1, (copied.pending hp).2.1, rfl⟩
  read u t i f h :=
    have reads := clearOnRead_reads u t i f _
    h.same reads.pju (by rw [reads.rct]) reads.executing
  write _ _ _ _ _ _ _ h _ hw := h.write (writeField_written hw)
  start r h _ hr := banksSound_started h hr
  stop h _ _ := h.stopped
  probe h _ _ := h.same rfl rfl rfl
  swapNow h _ hp hv hop := (h.validated hp hv).exchange fun hrun => by
    rw [State.setPju_rct, hop] at hrun; cases hrun
  swapLater {s} h hf hp hv hop := by
    have validated := h.validated hp hv
    refine ⟨validated.active, validated.standby, validated.running, fun _ => ⟨hop, ?_, hf.executing⟩,
      validated.feeders⟩
    change s.pju.validated.standby.valid = true
    simp [Pju.validated]
  admission i h := h.same rfl rfl rfl
  relax z h _ _ := h.same rfl rfl rfl
  drill half mask d h _ _ _ := h.same (by simp) (by simp) (by simp)
  endDrill half mask h _ := h.same (State.mapZones_pju _ _) (by rw [endDrillZones, State.mapZones_rct])
    (by rw [endDrillZones, State.mapZones_mgu])
  closing h _ _ := h.same rfl rfl rfl
  expiry h _ _ _ := h.same rfl rfl rfl
  probeEnd h _ := h.same rfl rfl rfl
  pile p h _ :=
    have same := (visitPile_same p _).blocks
    h.congr (by rw [same.pju]) (by rw [same.rct]) same.executing
  projection h _ := h.project
  zone z h _ :=
    have same := (evaluateZone_same z _).blocks
    h.same same.pju (by rw [same.rct]) same.executing
  completion {s} h _ := h.same (by rw [completed_eq]) (by rw [completed_eq]) (completed_executing s)
  sign z _ _ _ h := (signVisit_signs _ z).banksSound h
  drain z h _ := (drainVisit_signs _ z).banksSound h
  sample c h :=
    have ⟨hop, _, hpju, hx, _⟩ := (takeSample_sampled c _).kept
    h.same hpju hop hx
  yard y h := by
    unfold takeYard
    split
    next => exact h.same rfl rfl rfl
    next => exact h.same rfl rfl rfl

theorem banksSound_keptByResets : KeptByResets BanksSound where
  powerOn s t _ hstep := by cases hstep; exact banksSound_reset _ _ _ _ _
  pin s t _ hstep := by cases hstep; exact banksSound_reset _ _ _ _ _
  release cause addr h _ := h.same rfl rfl rfl
  commands l h := h.same rfl rfl rfl

theorem BanksSound.passTime {s : State} (h : BanksSound s) : BanksSound s.passTime :=
  h.same rfl rfl rfl

theorem banksSound_keptInTime : Kept BanksSound :=
  { banksSound_kept.keptNow with millisecond := fun _ h => h.passTime }

/-- Settles O45: every event keeps the banks sound. -/
theorem everyStepKeepsTheBanksSound : Obligations.EveryStepKeepsTheBanksSound :=
  fun _ _ h hstep => banksSound_keptInTime.step banksSound_keptByResets h hstep

end Sys2Proof.Machine
end

section
/-! Proofs about the stations and their readings (R36, R61, R80 to R92): every event keeps them
sound. -/

namespace Sys2Proof.Machine

/-! ### One slot -/

/-- What `StationSound` says of a station's own records. -/
structure Station.Sound (st : Station) : Prop where
  cfg : st.cfg.Sound
  comp : st.comp.Sound
  faults : st.health.faults ≤ 3
  retired : st.health.state = .retired ↔ st.health.faults = 3
  off : st.health.state ≠ .retired → (st.health.state = .off ↔ st.cfg.inService = false)
  missed : st.health.missed ≤ 255
  since : st.health.since ≤ 65535

/-- What `StationSound` says of a station's round slot. -/
structure Intake.Fits (op : OpState) (k : Kind) (it : Intake) : Prop where
  reading : ∀ x, it.reading = some x → x.Sound k
  empty : op = .config → it.reading = none ∧ it.pendingA = none
  pending : ∀ x, it.pendingA = some x → k = .anemo ∧ x.value.natAbs ≤ 1023

theorem stationsSound_iff (s : State) :
    StationsSound s ↔ ∀ i, (s.station i).Sound ∧
      (s.intake i).Fits s.rct.opState (s.station i).cfg.kind := by
  constructor
  · intro h i
    obtain ⟨cfg, comp, faults, retired, off, missed, since, reading, empty, pending⟩ := h i
    exact ⟨⟨cfg, comp, faults, retired, off, missed, since⟩, reading, empty, pending⟩
  · intro h i
    obtain ⟨⟨cfg, comp, faults, retired, off, missed, since⟩, reading, empty, pending⟩ := h i
    exact ⟨cfg, comp, faults, retired, off, missed, since, reading, empty, pending⟩

/-- The slots are read from STU, from readings and pending paths, and from the operating state. -/
theorem StationsSound.congr {s t : State} (h : StationsSound s) (hstu : t.stu = s.stu)
    (hreading : ∀ i, (t.intake i).reading = (s.intake i).reading)
    (hpending : ∀ i, (t.intake i).pendingA = (s.intake i).pendingA)
    (hop : t.rct.opState = s.rct.opState) : StationsSound t := by
  rw [stationsSound_iff] at h ⊢
  intro i
  have station : t.station i = s.station i := by rw [State.station, hstu]; rfl
  obtain ⟨hst, reading, empty, pending⟩ := h i
  rw [station]
  refine ⟨hst, ?_, ?_, ?_⟩
  · rw [hreading]; exact reading
  · rw [hreading, hpending, hop]; exact empty
  · rw [hpending]; exact pending

theorem StationsSound.same {s t : State} (h : StationsSound s) (hstu : t.stu = s.stu)
    (hsin : t.sin = s.sin) (hop : t.rct.opState = s.rct.opState) : StationsSound t :=
  h.congr hstu (fun i => by rw [State.intake, hsin]; rfl) (fun i => by rw [State.intake, hsin]; rfl)
    hop

/-! ### The arithmetic of a close (R63 to R75) -/

theorem clip_natAbs (x : Int) : (clip (-1023) 1023 x).natAbs ≤ 1023 := by
  unfold clip
  omega

/-- Both components of a rotated pair lie within −1023..+1023 (R63). -/
theorem rotate_natAbs (mode : Rotation) (a b : Int) :
    (rotate mode a b).1.natAbs ≤ 1023 ∧ (rotate mode a b).2.natAbs ≤ 1023 := by
  cases mode with
  | direct => exact ⟨clip_natAbs _, clip_natAbs _⟩
  | skewPlus => exact ⟨clip_natAbs _, clip_natAbs _⟩
  | skewMinus => exact ⟨clip_natAbs _, clip_natAbs _⟩

theorem speedIndex_le {u v : Int} (hu : u.natAbs ≤ 1023) (hv : v.natAbs ≤ 1023) :
    speedIndex u v ≤ 1406 := by
  unfold speedIndex
  omega

theorem rotated_speedIndex_le (mode : Rotation) (a b : Int) :
    speedIndex (rotate mode a b).1 (rotate mode a b).2 ≤ 1406 :=
  speedIndex_le (rotate_natAbs mode a b).1 (rotate_natAbs mode a b).2

/-- A filter step of a share of at most 1 stays below every bound of state and target. -/
theorem filterStep_le {num den state target top : Nat} (hnum : num ≤ den) (hden : 0 < den)
    (hs : state ≤ top) (ht : target ≤ top) : filterStep num den state target ≤ top := by
  have share : Int.fdiv ((num : Int) * ((target : Int) - state)) den ≤ (top : Int) - state := by
    rw [Int.fdiv_eq_ediv_of_nonneg _ (Int.natCast_nonneg den)]
    refine Int.ediv_le_of_le_mul (by omega) ?_
    calc (num : Int) * ((target : Int) - state)
        ≤ num * ((top : Int) - state) := by gcongr
      _ ≤ ((top : Int) - state) * den := by
          rw [mul_comm]; gcongr
          omega
  unfold filterStep
  omega

theorem persist_runCount {p : Nat} (hp : p ≤ 4) (x : Sector) (q : Persistence) :
    (persist p x q).runCount ≤ 4 := by
  unfold persist
  dsimp only
  split
  next => exact Nat.zero_le _
  next h => omega

theorem liftIndex_le (gust : Bool) (g b : Nat) : liftIndex gust g b ≤ 1023 := by
  unfold liftIndex
  split <;> omega

theorem updateAnemo_sound {c : StationCfg} (hc : c.Sound) (a b : Int) {r : Computation}
    (hr : r.Sound) : (updateAnemo c a b r).Sound := by
  have target : 16 * speedIndex (rotate c.rotation a b).1 (rotate c.rotation a b).2 ≤ 22496 := by
    have := rotated_speedIndex_le c.rotation a b
    omega
  have shift : 1 ≤ 2 ^ c.meanShift := Nat.one_le_two_pow
  have coeff : c.gustCoeff ≤ 16 := hc.gustCoeff.2.trans (by decide)
  have g1 : (updateAnemo c a b r).g1 ≤ 22496 := filterStep_le coeff (by decide) hr.g1 target
  have g2 : (updateAnemo c a b r).g2 ≤ 22496 := filterStep_le coeff (by decide) hr.g2 g1
  have m : (updateAnemo c a b r).m ≤ 22496 := filterStep_le shift shift hr.m target
  have gustSpeed : (updateAnemo c a b r).gustSpeed ≤ 1406 := Nat.div_le_of_le_mul g2
  constructor
  case runCount => exact persist_runCount hc.persistence.2 _ _
  case g1 => exact g1
  case g2 => exact g2
  case m => exact m
  case gustSpeed => exact gustSpeed
  case meanSpeed => exact Nat.div_le_of_le_mul m
  case excess => exact (Nat.sub_le _ _).trans gustSpeed
  case lift => exact liftIndex_le _ _ _
  case d1 => exact hr.d1
  case d2 => exact hr.d2
  case dustLevel => exact hr.dustLevel

theorem seedAnemo_sound (c : StationCfg) (a b : Int) {r : Computation} (hr : r.Sound) :
    (seedAnemo c a b r).Sound := by
  have speed := rotated_speedIndex_le c.rotation a b
  have stage : 16 * speedIndex (rotate c.rotation a b).1 (rotate c.rotation a b).2 ≤ 22496 := by
    omega
  exact
    { runCount := Nat.zero_le _, g1 := stage, g2 := stage, m := stage, gustSpeed := speed
      meanSpeed := speed, excess := Nat.zero_le _, lift := Nat.zero_le _, d1 := hr.d1, d2 := hr.d2
      dustLevel := hr.dustLevel }

theorem updateDust_sound {c : StationCfg} (hc : c.Sound) {d : Nat} (hd : d ≤ 4095)
    {r : Computation} (hr : r.Sound) : (updateDust c d r).Sound := by
  have coeff : c.dustCoeff ≤ 16 := hc.dustCoeff.2.trans (by decide)
  have d1 : (updateDust c d r).d1 ≤ 65520 := filterStep_le coeff (by decide) hr.d1 (by omega)
  have d2 : (updateDust c d r).d2 ≤ 65520 := filterStep_le coeff (by decide) hr.d2 d1
  exact { hr with d1 := d1, d2 := d2, dustLevel := Nat.div_le_of_le_mul d2 }

theorem seedDust_sound {d : Nat} (hd : d ≤ 4095) {r : Computation} (hr : r.Sound) :
    (seedDust d r).Sound := by
  have stage : 16 * d ≤ 65520 := by omega
  exact { hr with d1 := stage, d2 := stage, dustLevel := Nat.div_le_of_le_mul stage }

theorem updateRound_sound {c : StationCfg} (hc : c.Sound) {x : Reading} (hx : x.Sound c.kind)
    {r : Computation} (hr : r.Sound) : (updateRound c x r).Sound := by
  unfold updateRound
  split
  next => exact updateAnemo_sound hc _ _ hr
  next => exact updateDust_sound hc hx.2 hr
  next => exact hr

theorem seedRound_sound {c : StationCfg} {x : Reading} (hx : x.Sound c.kind)
    {r : Computation} (hr : r.Sound) : (seedRound c x r).Sound := by
  unfold seedRound
  split
  next => exact seedAnemo_sound c _ _ hr
  next => exact seedDust_sound hx.2 hr
  next => exact hr

theorem bump_le (n : Nat) : bump n ≤ 65535 := Nat.min_le_left _ _

theorem bump255_le (n : Nat) : bump255 n ≤ 255 := Nat.min_le_left _ _

/-! ### What a station's records go through -/

section
variable {st : Station}

theorem computation_cleared_sound : Computation.cleared.Sound := by constructor <;> decide

theorem stationCfg_default_sound : StationCfg.default.Sound := by constructor <;> decide

theorem faultsAtStale_le {settle since faults : Nat} (h : faults ≤ 3) :
    faultsAtStale settle since faults ≤ 3 := by
  unfold faultsAtStale
  split
  next => exact Nat.min_le_left _ _
  next => exact h

theorem retiredAtThree_iff (n : Nat) {x : Health} (hx : x ≠ .retired) :
    (if n = Config.retireFaults then Health.retired else x) = .retired ↔ n = 3 := by
  split
  next hn => exact ⟨fun _ => hn, fun _ => rfl⟩
  next hn => exact ⟨fun hs => absurd hs hx, fun hn' => absurd hn' hn⟩

/-- A missed round (R83 to R85). -/
theorem Station.Sound.missedRound (h : st.Sound) (hoff : st.health.state ≠ .off)
    (hret : st.health.state ≠ .retired) :
    Station.Sound { st with health := st.health.missedRound st.cfg } := by
  have service : st.cfg.inService ≠ false := fun hs => hoff ((h.off hret).mpr hs)
  have faults : st.health.faults ≠ 3 := fun hf => hret (h.retired.mpr hf)
  unfold HealthRecord.missedRound
  dsimp only
  split
  next hhealthy =>
    split
    next =>
      refine ⟨h.cfg, h.comp, faultsAtStale_le h.faults, ?_, ?_, bump255_le _, bump_le _⟩
      · exact retiredAtThree_iff _ (by decide)
      · dsimp only
        split
        next => exact fun hs => absurd rfl hs
        next => exact fun _ => ⟨fun hs => (by cases hs), fun hs => absurd hs service⟩
    next => exact ⟨h.cfg, h.comp, h.faults, h.retired, h.off, bump255_le _, bump_le _⟩
  next => exact ⟨h.cfg, h.comp, h.faults, h.retired, h.off, bump255_le _, h.since⟩

/-- A station in service that is not RETIRED may take any state but OFF and RETIRED, with counts in
their ranges and a computation record in its own. -/
theorem Station.Sound.inService (h : st.Sound) (hoff : st.health.state ≠ .off)
    (hret : st.health.state ≠ .retired) {comp : Computation} (hcomp : comp.Sound)
    {x : HealthRecord} (hfaults : x.faults = st.health.faults) (hxoff : x.state ≠ .off)
    (hxret : x.state ≠ .retired) (hmissed : x.missed ≤ 255) (hsince : x.since ≤ 65535) :
    Station.Sound { st with comp := comp, health := x } := by
  have service : st.cfg.inService ≠ false := fun hs => hoff ((h.off hret).mpr hs)
  have faults : st.health.faults ≠ 3 := fun hf => hret (h.retired.mpr hf)
  exact
    { cfg := h.cfg, comp := hcomp, faults := hfaults ▸ h.faults
      retired := ⟨fun hs => absurd hs hxret, fun hf => absurd (hfaults ▸ hf) faults⟩
      off := fun _ => ⟨fun hs => absurd hs hxoff, fun hs => absurd hs service⟩
      missed := hmissed, since := hsince }

/-- A close leaves a station that is OFF or RETIRED. -/
theorem closeStation_out (x : Option Reading)
    (hs : st.health.state = .off ∨ st.health.state = .retired) : closeStation x st = st := by
  unfold closeStation
  rcases hs with hs | hs <;> rw [hs]

/-- Any other station takes its reading, or misses the round (R59). -/
theorem closeStation_in (x : Option Reading) (hoff : st.health.state ≠ .off)
    (hret : st.health.state ≠ .retired) :
    closeStation x st =
      match x with
      | some r =>
        if st.health.seeds then
          { st with comp := seedRound st.cfg r st.comp, health := st.health.seeded }
        else { st with comp := updateRound st.cfg r st.comp, health := st.health.updated }
      | none => { st with health := st.health.missedRound st.cfg } := by
  unfold closeStation
  cases hs : st.health.state with
  | off => exact absurd hs hoff
  | retired => exact absurd hs hret
  | unseen | healthy | stale => cases x <;> rfl

theorem Station.Sound.closed (h : st.Sound) {x : Option Reading}
    (hx : ∀ r, x = some r → r.Sound st.cfg.kind) : (closeStation x st).Sound := by
  by_cases hs : st.health.state = .off ∨ st.health.state = .retired
  case pos => rwa [closeStation_out x hs]
  obtain ⟨hoff, hret⟩ := not_or.mp hs
  rw [closeStation_in x hoff hret]
  cases x with
  | none => exact h.missedRound hoff hret
  | some r =>
    have fits := hx r rfl
    dsimp only
    split
    next =>
      exact h.inService hoff hret (seedRound_sound fits h.comp) rfl (fun hs => by cases hs)
        (fun hs => by cases hs) (Nat.zero_le _) (Nat.zero_le _)
    next =>
      exact h.inService hoff hret (updateRound_sound h.cfg fits h.comp) rfl (fun hs => by cases hs)
        (fun hs => by cases hs) (Nat.zero_le _) (bump_le _)

@[simp] theorem closeStation_cfg (x : Option Reading) (st : Station) :
    (closeStation x st).cfg = st.cfg := by
  unfold closeStation
  split <;> try rfl
  all_goals
    split
    next => split <;> rfl
    next => rfl

/-- The flags of a health record bound nothing. -/
theorem Station.Sound.flags (h : st.Sound) (reseed tookTest : Bool) :
    Station.Sound { st with health := { st.health with reseed := reseed, tookTest := tookTest } } :=
  ⟨h.cfg, h.comp, h.faults, h.retired, h.off, h.missed, h.since⟩

theorem Station.Sound.markTest (h : st.Sound) (test : Bool) : (st.markTest test).Sound := by
  unfold Station.markTest
  split
  next => exact h.flags _ _
  next => exact h

@[simp] theorem markTest_cfg (test : Bool) (st : Station) : (st.markTest test).cfg = st.cfg := by
  unfold Station.markTest
  split <;> rfl

theorem Station.Sound.drillEnded (h : st.Sound) : st.drillEnded.Sound := by
  unfold Station.drillEnded
  split
  next => exact h.flags _ _
  next => exact h

@[simp] theorem drillEnded_cfg (st : Station) : st.drillEnded.cfg = st.cfg := by
  unfold Station.drillEnded
  split <;> rfl

theorem Station.Sound.start (h : st.Sound) : st.start.Sound := by
  unfold Station.start
  have unseen (hoff : st.health.state ≠ .off) (hret : st.health.state ≠ .retired) :
      Station.Sound
        { st with health := { st.health with state := .unseen, missed := 0, since := 0 } } :=
    h.inService hoff hret h.comp rfl (fun hs => by cases hs) (fun hs => by cases hs)
      (Nat.zero_le _) (Nat.zero_le _)
  split
  next => exact h
  next => exact h
  next hs => exact unseen (by rw [hs]; decide) (by rw [hs]; decide)
  next hs => exact unseen (by rw [hs]; decide) (by rw [hs]; decide)
  next hs => exact unseen (by rw [hs]; decide) (by rw [hs]; decide)

@[simp] theorem start_cfg (st : Station) : st.start.cfg = st.cfg := by
  unfold Station.start
  split <;> rfl

/-- ADMIT (R90). -/
theorem Station.Sound.admitted (h : st.Sound) : st.admitted.Sound := by
  have back : Station.Sound
      { st with
        health := { st.health with
          faults := 0, missed := 0
          state := if st.cfg.inService then .unseen else .off } } := by
    refine ⟨h.cfg, h.comp, Nat.zero_le _, ?_, ?_, Nat.zero_le _, h.since⟩
    · dsimp only
      split <;> exact ⟨fun hs => (by cases hs), fun hf => (by cases hf)⟩
    · dsimp only
      cases st.cfg.inService <;> simp
  have stays (hret : st.health.state ≠ .retired) : Station.Sound
      { st with health := { st.health with faults := 0, missed := 0 } } := by
    refine ⟨h.cfg, h.comp, Nat.zero_le _, ?_, h.off, Nat.zero_le _, h.since⟩
    exact ⟨fun hs => absurd hs hret, fun hf => (by cases hf)⟩
  unfold Station.admitted
  dsimp only
  split
  next => exact back
  next => exact back
  next hs => exact stays (by rw [hs]; decide)
  next hs => exact stays (by rw [hs]; decide)
  next hs => exact stays (by rw [hs]; decide)

@[simp] theorem admitted_cfg (st : Station) : st.admitted.cfg = st.cfg := by
  unfold Station.admitted
  split <;> rfl

/-- A write to kind or enable (R91). -/
theorem Station.Sound.writeService (h : st.Sound) {c : StationCfg} (hc : c.Sound) :
    (st.writeService c).Sound := by
  have comp : (if st.cfg.kind ≠ c.kind then Computation.cleared else st.comp).Sound := by
    split
    next => exact computation_cleared_sound
    next => exact h.comp
  unfold Station.writeService HealthRecord.afterWrite
  split
  next hret =>
    exact ⟨hc, comp, h.faults, h.retired, fun hs => absurd hret hs, h.missed, h.since⟩
  next hret =>
    have faults : st.health.faults ≠ 3 := fun hf => hret (h.retired.mpr hf)
    split
    next hs =>
      rw [Bool.not_eq_true'] at hs
      refine ⟨hc, comp, h.faults, ⟨fun hs => (by cases hs), fun hf => absurd hf faults⟩, ?_,
        Nat.zero_le _, Nat.zero_le _⟩
      exact fun _ => ⟨fun _ => hs, fun _ => rfl⟩
    next hs =>
      rw [Bool.not_eq_true, Bool.not_eq_false'] at hs
      split
      next =>
        refine ⟨hc, comp, h.faults, ⟨fun hs => (by cases hs), fun hf => absurd hf faults⟩, ?_,
          Nat.zero_le _, Nat.zero_le _⟩
        exact fun _ => ⟨fun hs => (by cases hs), fun hs' => by rw [hs] at hs'; cases hs'⟩
      next hoff =>
        refine ⟨hc, comp, h.faults, h.retired, ?_, h.missed, h.since⟩
        exact fun _ => ⟨fun hs => absurd (.inl hs) hoff, fun hs' => by rw [hs] at hs'; cases hs'⟩

/-- A pin reset (R93). -/
theorem Station.Sound.pinReset (h : st.Sound) : st.pinReset.Sound := by
  unfold Station.pinReset
  refine ⟨stationCfg_default_sound, computation_cleared_sound, h.faults, ?_, ?_, Nat.zero_le _,
    Nat.zero_le _⟩
  · exact retiredAtThree_iff _ (by decide)
  · dsimp only
    split
    next => exact fun hs => absurd rfl hs
    next => exact fun _ => ⟨fun _ => rfl, fun _ => rfl⟩

theorem station_cleared_sound : Station.cleared.Sound := by
  refine ⟨stationCfg_default_sound, computation_cleared_sound, ?_, ?_, ?_, ?_, ?_⟩ <;> decide

/-- A write of a configuration field keeps the record in range (R37, R62, R74, R81). -/
theorem StationCfg.Sound.write {c x : StationCfg} {f : Nat} {w : Word} {v : Judged StationCfg}
    (h : c.Sound) (hv : c.write f w = some v) (hx : v.Stores x) : x.Sound := by
  unfold StationCfg.write at hv
  split at hv
  case h_19 => cases hv
  all_goals
    cases hv
    obtain ⟨n, hn, rfl⟩ := Judged.stores_of_into hx
  case h_3 => exact { h with shift := (judgeMagnitude_stores (by decide) hn).2 }
  case h_5 => exact { h with lo := (judgeMagnitude_stores (by decide) hn).2 }
  case h_6 => exact { h with hi := (judgeMagnitude_stores (by decide) hn).2 }
  case h_7 => exact { h with window := judgeMagnitude_stores (by decide) hn }
  case h_9 => exact { h with calm := (judgeMagnitude_stores (by decide) hn).2 }
  case h_10 => exact { h with gustCoeff := judgeMagnitude_stores (by decide) hn }
  case h_11 => exact { h with meanShift := judgeMagnitude_stores (by decide) hn }
  case h_12 => exact { h with gustThreshold := (judgeMagnitude_stores (by decide) hn).2 }
  case h_13 => exact { h with excessThreshold := (judgeMagnitude_stores (by decide) hn).2 }
  case h_14 => exact { h with liftBase := (judgeMagnitude_stores (by decide) hn).2 }
  case h_15 => exact { h with persistence := judgeMagnitude_stores (by decide) hn }
  case h_16 => exact { h with dustCoeff := judgeMagnitude_stores (by decide) hn }
  case h_17 => exact { h with staleLimit := judgeMagnitude_stores (by decide) hn }
  case h_18 => exact { h with settleRounds := (judgeMagnitude_stores (by decide) hn).2 }
  all_goals exact { h with }

/-- Fields above 1 leave kind and enable. -/
theorem StationCfg.write_inService {c x : StationCfg} {f : Nat} {w : Word}
    {v : Judged StationCfg} (hf : 1 < f) (hv : c.write f w = some v) (hx : v.Stores x) :
    x.kind = c.kind ∧ x.enable = c.enable := by
  unfold StationCfg.write at hv
  split at hv
  case h_1 => omega
  case h_2 => omega
  case h_19 => cases hv
  all_goals
    cases hv
    obtain ⟨n, hn, rfl⟩ := Judged.stores_of_into hx
    exact ⟨rfl, rfl⟩

/-- A write of any other field (R37). -/
theorem Station.Sound.writeCfg (h : st.Sound) {c : StationCfg} (hc : c.Sound)
    (hkind : c.kind = st.cfg.kind) (henable : c.enable = st.cfg.enable) :
    Station.Sound { st with cfg := c } := by
  have service : c.inService = st.cfg.inService := by
    rw [StationCfg.inService, StationCfg.inService, hkind, henable]
  exact ⟨hc, h.comp, h.faults, h.retired, by rw [service]; exact h.off, h.missed, h.since⟩

end

/-! ### What a round slot goes through -/

section
variable {op : OpState} {k : Kind} {it : Intake}

theorem Intake.fits_empty (hreading : it.reading = none) (hpending : it.pendingA = none) :
    it.Fits op k :=
  ⟨by rw [hreading]; exact fun _ hx => (by cases hx), fun _ => ⟨hreading, hpending⟩,
    by rw [hpending]; exact fun _ hx => (by cases hx)⟩

theorem Intake.fits_cleared : Intake.cleared.Fits op k := Intake.fits_empty rfl rfl

theorem Intake.Fits.congr {x : Intake} (h : it.Fits op k) (hreading : x.reading = it.reading)
    (hpending : x.pendingA = it.pendingA) : x.Fits op k :=
  ⟨by rw [hreading]; exact h.reading, by rw [hreading, hpending]; exact h.empty,
    by rw [hpending]; exact h.pending⟩

theorem Intake.drop_kept (d : Disposal) (it : Intake) :
    (it.drop d).reading = it.reading ∧ (it.drop d).pendingA = it.pendingA := by
  cases d <;> exact ⟨rfl, rfl⟩

theorem Intake.Fits.closed (h : it.Fits op k) : it.closed.Fits op k := by
  unfold Intake.closed
  split
  next => exact ⟨h.reading, fun hop => ⟨(h.empty hop).1, rfl⟩, fun _ hx => by cases hx⟩
  next => exact h

theorem scaleAnemo_natAbs {c : StationCfg} {w : Word} {x : Int}
    (h : scaleAnemo c w = .valid x) : x.natAbs ≤ 1023 := by
  unfold scaleAnemo at h
  split at h
  next => cases h
  next => cases h; omega

theorem scaleDust_le {c : StationCfg} {w : Word} {d : Nat}
    (h : scaleDust c w = .valid d) : d ≤ 4095 := by
  unfold scaleDust at h
  split at h
  next => cases h
  next =>
    dsimp only at h
    split at h
    next => cases h
    next => cases h; exact Nat.min_le_left _ _

/-- An accepted sample leaves a slot that fits its station (R46 to R51). -/
theorem Intake.Fits.accept {c : StationCfg} (h : it.Fits .run c.kind) (channel : Byte)
    (value : Word) (stamp : Nat) : (it.accept c channel value stamp).Fits .run c.kind := by
  have stamped : Intake.Fits .run c.kind { it with lastOffset := stamp } := h.congr rfl rfl
  unfold Intake.accept
  dsimp only
  split
  next hkind =>
    split
    next => exact stamped.congr rfl rfl
    next => exact stamped
    next x hx =>
      have range := scaleAnemo_natAbs hx
      split
      next =>
        refine ⟨h.reading, fun hop => (by cases hop), fun y hy => ?_⟩
        cases hy
        exact ⟨hkind, range⟩
      next =>
        unfold Intake.pathB
        split
        next p hp =>
          split
          next =>
            refine ⟨fun y hy => ?_, fun hop => (by cases hop), fun y hy => by cases hy⟩
            cases hy
            exact ⟨hkind, (h.pending p hp).2, range⟩
          next => exact ⟨h.reading, fun hop => (by cases hop), fun y hy => by cases hy⟩
        next => exact stamped.congr rfl rfl
  next hkind =>
    split
    next => exact stamped.congr rfl rfl
    next => exact stamped.congr rfl rfl
    next d hd =>
      refine ⟨fun y hy => ?_, fun hop => (by cases hop), h.pending⟩
      cases hy
      exact ⟨hkind, scaleDust_le hd⟩
  next => exact stamped

end

/-! ### Every event -/

section
variable {s t : State}

theorem StationsSound.blocks (h : StationsSound s) (hsame : SameBlocks s t) : StationsSound t :=
  h.same hsame.stu hsame.sin (by rw [hsame.rct])

theorem StationsSound.setStation (h : StationsSound s) (i : Fin 48) {st : Station}
    (hst : st.Sound) (hfits : (s.intake i).Fits s.rct.opState st.cfg.kind) :
    StationsSound (s.setStation i st) := by
  rw [stationsSound_iff] at h ⊢
  intro j
  rw [State.station_setStation]
  split
  next hj => exact ⟨hst, hj ▸ hfits⟩
  next => exact h j

theorem StationsSound.write {w : Word} (h : StationsSound s) (hw : Written w s t) :
    StationsSound t := by
  cases hw with
  | blocks same => exact h.blocks same
  | round r hop hprobe hv hr => exact h.same rfl rfl (Rct.write_opState hv hr)
  | pile | refresh | plume | zoneCfg => exact h.same rfl rfl rfl
  | @station f v k c hop hv hc =>
    obtain ⟨hst, hfits⟩ := (stationsSound_iff s).mp h k
    obtain ⟨hreading, hpending⟩ := hfits.empty hop
    refine h.setStation k ?_ (Intake.fits_empty hreading hpending)
    split
    next => exact hst.writeService (hst.cfg.write hv hc)
    next hf =>
      obtain ⟨hkind, henable⟩ := StationCfg.write_inService (by omega) hv hc
      exact hst.writeCfg (hst.cfg.write hv hc) hkind henable

/-- Where every slot is emptied, the operating state may change. -/
theorem stationsSound_emptied (hst : ∀ i, (t.station i).Sound)
    (hsin : t.sin = tableMap (fun _ it => it.emptied) s.sin) : StationsSound t := by
  rw [stationsSound_iff]
  intro i
  have slot : t.intake i = (s.intake i).emptied := by
    rw [State.intake, hsin, tableMap_get]; rfl
  rw [slot]
  exact ⟨hst i, Intake.fits_empty rfl rfl⟩

theorem StationsSound.opened (h : StationsSound s) : StationsSound (openRound s) := by
  rw [stationsSound_iff] at h
  exact stationsSound_emptied (fun i => (h i).1) (by rw [openRound_eq])

theorem StationsSound.started (h : StationsSound s) : StationsSound (startRun s) := by
  rw [stationsSound_iff] at h
  have opened : StationsSound (openRound (startedBlocks s)) := by
    refine stationsSound_emptied (s := startedBlocks s) (fun i => ?_) (by rw [openRound_eq])
    rw [openRound_eq]
    simp only [State.station, startedBlocks, tableMap_get]
    exact (h i).1.start
  rw [startRun_eq]
  exact opened.blocks (reevaluate_same _).blocks

theorem SignsOnly.stationsSound (hs : SignsOnly s t) (h : StationsSound s) : StationsSound t :=
  h.same hs.stu hs.sin (by rw [hs.rct])

theorem StationsSound.stopped (h : StationsSound s) : StationsSound (stopRun s) := by
  rw [stationsSound_iff] at h
  have blocks : StationsSound (stoppedBlocks s) := by
    refine stationsSound_emptied (s := s) (fun i => ?_) rfl
    simp only [State.station, stoppedBlocks]
    split
    next => rw [tableMap_get]; exact (h i).1.drillEnded
    next => exact (h i).1
  have signed := (serviceSigns_signs (stoppedBlocks s)).stationsSound blocks
  rw [stopRun_eq]
  exact StationsSound.blocks
    (signed.same (State.setPju_stu _ _) (State.setPju_sin _ _) (by rw [State.setPju_rct]))
    (reevaluate_same _).blocks

theorem StationsSound.exchange (h : StationsSound s) : StationsSound (exchange s) := by
  have same := exchange_same s
  exact h.same same.stu same.sin (by rw [same.rct]; rfl)

theorem StationsSound.project (h : StationsSound s) : StationsSound (project s) := by
  have posted := postContributions_posted (beforePosting s).pju.contributions (beforePosting s)
  have before : StationsSound (beforePosting s) := by
    unfold beforePosting
    split
    next => exact h.exchange
    next => exact h
  rw [project_eq, posted.same]
  exact before.same rfl rfl rfl

theorem StationsSound.closed (h : StationsSound s) : StationsSound (closedBlocks s) := by
  rw [stationsSound_iff] at h ⊢
  intro i
  obtain ⟨hst, hfits⟩ := h i
  simp only [State.station, State.intake, closedBlocks, tableMap_get, closeStation_cfg]
  exact ⟨hst.closed hfits.reading, hfits.closed⟩

theorem StationsSound.completed (h : StationsSound s) : StationsSound (completed s) := by
  rw [stationsSound_iff] at h ⊢
  intro i
  obtain ⟨hst, hfits⟩ := h i
  rw [completed_eq]
  simp only [State.station, State.intake, completedStations]
  split
  next => simp only [tableMap_get, drillEnded_cfg]; exact ⟨hst.drillEnded, hfits⟩
  next => exact ⟨hst, hfits⟩

theorem StationsSound.placed (h : StationsSound s) (c : SampleCopy) (hrun : s.rct.opState = .run) :
    StationsSound (samplePlaced c s) := by
  rw [stationsSound_iff] at h ⊢
  intro i
  obtain ⟨hst, hfits⟩ := h i
  have station : (samplePlaced c s).station i =
      if i = c.station then (s.station i).markTest (sampleTest c) else s.station i := by
    rw [samplePlaced, State.station_setStation]
    split
    next hi => rw [hi]
    next => rfl
  have slot : (samplePlaced c s).intake i =
      if i = c.station then
        (s.intake i).accept (s.station i).cfg c.channel c.value s.rct.clock
      else s.intake i := by
    refine (State.intake_setIntake s c.station i _).trans ?_
    split
    next hi => rw [hi]
    next => rfl
  have op : (samplePlaced c s).rct.opState = .run := hrun
  rw [station, slot, op]
  rw [hrun] at hfits
  split
  next => exact ⟨hst.markTest _, by rw [markTest_cfg]; exact hfits.accept _ _ _⟩
  next => exact ⟨hst, hfits⟩

theorem StationsSound.sampled {c : SampleCopy} (h : StationsSound s) (hs : Sampled c s t) :
    StationsSound t := by
  cases hs with
  | discarded => exact h
  | probed => exact h.same rfl rfl rfl
  | dropped d =>
    obtain ⟨hreading, hpending⟩ := Intake.drop_kept d (s.intake c.station)
    refine h.congr rfl (fun i => ?_) (fun i => ?_) rfl
    all_goals
      rw [State.intake_setIntake]
      split
      next hi => rw [hi]; assumption
      next => rfl
  | unreported hrun => exact h.placed c hrun
  | reported hrun => exact (h.placed c hrun).same rfl rfl rfl
  | closed hrun =>
    refine StationsSound.blocks ?_ (closeRound_same _).blocks
    exact StationsSound.closed ((h.placed c hrun).same rfl rfl rfl)

theorem stationsSound_reset (l : List Instr) (held : Option ResetCause) (x : Tif)
    {stu : Vector Station 48} (m : Mgu) (hst : ∀ i : Fin 48, stu[i].Sound) :
    StationsSound
      { State.reset with pending := l, resetHeld := held, tif := x, stu := stu, mgu := m } := by
  rw [stationsSound_iff]
  intro i
  refine ⟨hst i, ?_⟩
  have slot : (Vector.replicate 48 Intake.cleared)[i] = Intake.cleared := by simp
  simp only [State.intake, State.reset, slot]
  exact Intake.fits_cleared

theorem StationsSound.passTime (h : StationsSound s) : StationsSound s.passTime :=
  h.same rfl rfl rfl

end

/-- Every event keeps the stations sound. -/
theorem stationsSound_kept : BlockKept StationsSound where
  congr same h := h.blocks same
  copyStarts r h _ _ := h.same rfl rfl rfl
  copyEnds r h _ := h.same rfl rfl rfl
  read u t i f h :=
    have reads := clearOnRead_reads u t i f _
    h.congr reads.stu reads.reading reads.pendingA (by rw [reads.rct])
  write _ _ _ _ _ _ _ h _ hw := h.write (writeField_written hw)
  start r h _ _ := h.started
  stop h _ _ := h.stopped
  probe h _ _ := h.same rfl rfl rfl
  swapNow h _ _ _ _ := StationsSound.exchange (h.same (State.setPju_stu _ _) rfl rfl)
  swapLater h _ _ _ _ := h.same rfl rfl rfl
  admission i h := by
    obtain ⟨hst, hfits⟩ := (stationsSound_iff _).mp h i
    exact h.setStation i hst.admitted (by rw [admitted_cfg]; exact hfits)
  relax z h _ _ := h.same rfl rfl rfl
  drill half mask d h _ _ _ := h.same (State.mapZones_stu _ _) (State.mapZones_sin _ _)
    (by rw [State.mapZones_rct])
  endDrill half mask h _ := by
    rw [endDrillZones]
    exact h.same (State.mapZones_stu _ _) (State.mapZones_sin _ _) (by rw [State.mapZones_rct])
  closing h _ _ := h.closed
  expiry {s} h _ _ _ := StationsSound.opened (h.same rfl rfl rfl : StationsSound (s.setRct s.rct.advance))
  probeEnd h _ := h.same rfl rfl rfl
  pile p h _ :=
    have same := (visitPile_same p _).blocks
    h.same same.stu same.sin (by rw [same.rct])
  projection h _ := h.project
  zone z h _ :=
    have same := (evaluateZone_same z _).blocks
    h.same same.stu same.sin (by rw [same.rct])
  completion h _ := h.completed
  sign z _ _ _ h := (signVisit_signs _ z).stationsSound h
  drain z h _ := (drainVisit_signs _ z).stationsSound h
  sample c h := h.sampled (takeSample_sampled c _)
  yard y h := by
    unfold takeYard
    split
    next => exact h.same rfl rfl rfl
    next => exact h.same rfl rfl rfl

theorem stationsSound_keptByResets : KeptByResets StationsSound where
  powerOn s t _ hstep := by
    cases hstep
    exact stationsSound_reset _ _ _ _ fun i => by
      simpa [State.reset] using station_cleared_sound
  pin s t h hstep := by
    rw [stationsSound_iff] at h
    cases hstep
    exact stationsSound_reset _ _ _ _ fun i => by
      rw [tableMap_get]
      exact (h i).1.pinReset
  release cause addr h _ := h.same rfl rfl rfl
  commands l h := h.same rfl rfl rfl

theorem stationsSound_keptInTime : Kept StationsSound :=
  { stationsSound_kept.keptNow with millisecond := fun _ h => h.passTime }

/-- Settles O34: every event keeps the stations and their readings sound. -/
theorem everyStepKeepsTheStationsSound : Obligations.EveryStepKeepsTheStationsSound :=
  fun _ _ h hstep => stationsSound_keptInTime.step stationsSound_keptByResets h hstep

end Sys2Proof.Machine
end

section
/-! Proofs about the rounds (R18 to R35): every event keeps the round controller sound. -/

namespace Sys2Proof.Machine

section
variable {s t : State}

/-! ### What soundness is read from -/

theorem NoRound.congr (h : NoRound s) (hrct : t.rct = s.rct) : NoRound t := by
  obtain ⟨phase, timer, number, previous, seq, expected⟩ := h
  constructor <;> rw [hrct] <;> assumption

theorem InRun.congr (h : InRun s) (hrct : t.rct = s.rct) : InRun t := by
  obtain ⟨phase, timer, probe, numbers⟩ := h
  constructor <;> rw [hrct] <;> assumption

/-- The rounds are read from RCT, the evaluation's progress, the piles' enables and the contribution
list. -/
theorem RoundsSound.congr (h : RoundsSound s) (hrct : t.rct = s.rct) (hstage : t.stage = s.stage)
    (hpile : ∀ p, (t.pile p).cfg.enable = (s.pile p).cfg.enable)
    (hlist : t.pju.contributions = s.pju.contributions) : RoundsSound t := by
  obtain ⟨period, roundMax, clock, config, run, timer, evaluation, probe, chain, atPile, list⟩ := h
  constructor
  case config => rw [hrct]; exact fun hop => (config hop).congr hrct
  case run => rw [hrct]; exact fun hop => (run hop).congr hrct
  case chain => rw [hrct, hstage]; exact chain
  case atPile => rw [hstage]; exact fun p hp => by rw [hpile]; exact atPile p hp
  case contributions => rw [hstage, hlist]; exact list
  all_goals rw [hrct]; assumption

theorem RoundsSound.same (h : RoundsSound s) (hrct : t.rct = s.rct) (hstage : t.stage = s.stage)
    (hplu : t.plu = s.plu) (hpju : t.pju = s.pju) : RoundsSound t :=
  h.congr hrct hstage (fun p => by rw [State.pile, hplu]; rfl) (by rw [hpju])

theorem RoundsSound.blocks (h : RoundsSound s) (hsame : SameBlocks s t) : RoundsSound t :=
  h.same hsame.rct hsame.stage hsame.plu hsame.pju

theorem SignsOnly.roundsSound (hs : SignsOnly s t) (h : RoundsSound s) : RoundsSound t :=
  h.same hs.rct hs.stage hs.plu hs.pju

/-- The outstanding count, the probe records and SYNC_FAIL bound nothing. -/
theorem RoundsSound.counts (h : RoundsSound s) (outstanding : Nat)
    (probes : Vector ProbeRecord 48) (syncFail : Bool) :
    RoundsSound (s.setRct
      { s.rct with outstanding := outstanding, probes := probes, syncFail := syncFail }) := by
  constructor
  case config =>
    intro hop
    obtain ⟨phase, timer, number, previous, seq, expected⟩ := h.config hop
    exact ⟨phase, timer, number, previous, seq, expected⟩
  case run =>
    intro hop
    obtain ⟨phase, timer, probe, ⟨zero, range, prev⟩⟩ := h.run hop
    exact ⟨phase, timer, probe, ⟨zero, range, prev⟩⟩
  case period => exact h.period
  case roundMax => exact h.roundMax
  case clock => exact h.clock
  case timer => exact h.timer
  case evaluation => exact h.evaluation
  case probe => exact h.probe
  case chain => exact h.chain
  case atPile => exact h.atPile
  case contributions => exact h.contributions

/-! ### What soundness says at once -/

theorem RoundsSound.run_of_phase (h : RoundsSound s) (hp : s.rct.phase ≠ .noRound) :
    s.rct.opState = .run := by
  cases hop : s.rct.opState with
  | run => rfl
  | config => exact absurd (h.config hop).phase hp

theorem RoundsSound.config_stage (h : RoundsSound s) (hop : s.rct.opState = .config) :
    s.stage = .idle := by
  by_contra hs
  have := h.chain.mpr hs
  rw [(h.config hop).phase] at this
  cases this

theorem RoundsSound.stage_idle (h : RoundsSound s) (hp : s.rct.phase ≠ .evaluating) :
    s.stage = .idle := by
  by_contra hs
  exact hp (h.chain.mpr hs)

theorem RoundsSound.closeTimer (h : RoundsSound s) (hp : s.rct.phase ≠ .evaluating) :
    s.rct.closeTimer = none := by
  have := h.evaluation
  rwa [if_neg hp] at this

theorem RoundsSound.probeTimer (h : RoundsSound s) (hp : s.rct.probing = false) :
    s.rct.probeTimer = none := by
  have := h.probe
  rwa [if_neg (by rw [hp]; decide)] at this

theorem RoundsSound.idle_contributions (h : RoundsSound s) (hs : s.stage = .idle) :
    s.pju.contributions = [] :=
  h.contributions (fun p hp => by rw [hs] at hp; cases hp) (fun hp => by rw [hs] at hp; cases hp)

/-- No probe runs once the operating state is RUN (R20, R32). -/
theorem RoundsSound.config_of_probing (h : RoundsSound s) (hp : s.rct.probing = true) :
    s.rct.opState = .config ∧ s.rct.clockRuns = true ∧ s.rct.probeTimer = some s.rct.clock ∧
      s.rct.clock ≤ s.rct.period * 50 := by
  have := h.probe
  rwa [if_pos hp] at this

theorem RoundsSound.evaluating (h : RoundsSound s) (hp : s.rct.phase = .evaluating) :
    ∃ m n, s.rct.closeTimer = some m ∧ s.rct.roundTimer = some n ∧ m ≤ 100 ∧
      n + 100 ≤ s.rct.period * 50 + m := by
  have := h.evaluation
  rwa [if_pos hp] at this

/-! ### The passes -/

theorem pileStage_cases (s : State) (k : Nat) :
    (∃ p : Fin 24, pileStage s k = .piles p ∧ k ≤ p.val ∧ (s.pile p).cfg.enable = true) ∨
      pileStage s k = .projecting := by
  unfold pileStage
  cases hn : nextPile s k with
  | none => exact .inr rfl
  | some p =>
    have found := List.find?_some hn
    rw [Bool.and_eq_true, decide_eq_true_eq] at found
    exact .inl ⟨p, rfl, found.1, found.2⟩

theorem zoneStage_cases (s : State) (k : Nat) :
    (∃ z : Fin 32, zoneStage s k = .zones z ∧ k ≤ z.val ∧ s.zoneEnabled z = true) ∨
      zoneStage s k = .done := by
  unfold zoneStage
  cases hn : nextZone s k with
  | none => exact .inr rfl
  | some z =>
    have found := List.find?_some hn
    rw [Bool.and_eq_true, decide_eq_true_eq] at found
    exact .inl ⟨z, rfl, found.1, found.2⟩

/-- While an evaluation is in progress, its chain may go on to any stage that stands at an enabled
pile, and to ZNU's pass with an empty contribution list. -/
theorem RoundsSound.onward (h : RoundsSound s) (hp : s.rct.phase = .evaluating)
    (hrct : t.rct = s.rct) (hpile : ∀ p, (t.pile p).cfg.enable = (s.pile p).cfg.enable)
    (hidle : t.stage ≠ .idle) (hat : ∀ p, t.stage = .piles p → (s.pile p).cfg.enable = true)
    (hlist : (∀ p, t.stage ≠ .piles p) → t.stage ≠ .projecting → t.pju.contributions = []) :
    RoundsSound t := by
  obtain ⟨period, roundMax, clock, config, run, timer, evaluation, probe, -, -, -⟩ := h
  constructor
  case config => rw [hrct]; exact fun hop => (config hop).congr hrct
  case run => rw [hrct]; exact fun hop => (run hop).congr hrct
  case chain => rw [hrct, hp]; exact ⟨fun _ => hidle, fun _ => rfl⟩
  case atPile => exact fun p hs => by rw [hpile]; exact hat p hs
  case contributions => exact hlist
  all_goals rw [hrct]; assumption

theorem visitPile_stage (p : Fin 24) (s : State) :
    (visitPile p s).stage = pileStage s (p.val + 1) := (visitPile_same p s).stage

theorem visitPile_pile (p q : Fin 24) (s : State) :
    (visitPile p s).pile q =
      if q = p then { s.pile p with dyn := visitedPile (s.pile p).cfg s (s.pile p).dyn }
      else s.pile q := by
  rw [State.pile, (visitPile_same p s).plu]
  exact tableSet_get _ _ _ _

theorem visitPile_pileCfg (p q : Fin 24) (s : State) :
    ((visitPile p s).pile q).cfg = (s.pile q).cfg := by
  rw [visitPile_pile]
  split
  next hq => rw [hq]
  next => rfl

theorem evaluateZone_stage (z : Fin 32) (s : State) :
    (evaluateZone z s).stage = zoneStage s (z.val + 1) := (evaluateZone_same z s).stage

theorem evaluateZone_zone (z y : Fin 32) (s : State) :
    (evaluateZone z s).zone y = if y = z then evaluatedZone s z else s.zone y := by
  rw [State.zone, (evaluateZone_same z s).znu]
  exact tableSet_get _ _ _ _

/-- PLU's pass goes on to an enabled pile, or is over. -/
theorem RoundsSound.atPileStage (h : RoundsSound s) (hp : s.rct.phase = .evaluating)
    (hrct : t.rct = s.rct) (hpile : ∀ p, (t.pile p).cfg.enable = (s.pile p).cfg.enable) {k : Nat}
    (hstage : t.stage = pileStage s k) : RoundsSound t := by
  refine h.onward hp hrct hpile ?_ ?_ ?_ <;> rw [hstage]
  all_goals
    rcases pileStage_cases s k with ⟨q, hq, -, hen⟩ | hq
    all_goals rw [hq]
  · intro hs; cases hs
  · intro hs; cases hs
  · intro r hr; cases hr; exact hen
  · intro r hr; cases hr
  · exact fun hn => absurd rfl (hn q)
  · exact fun _ hn => absurd rfl hn

/-- ZNU's pass goes on, or is over. -/
theorem RoundsSound.atZoneStage (h : RoundsSound s) (hp : s.rct.phase = .evaluating)
    (hrct : t.rct = s.rct) (hpile : ∀ p, (t.pile p).cfg.enable = (s.pile p).cfg.enable) {u : State}
    {k : Nat} (hstage : t.stage = zoneStage u k) (hlist : t.pju.contributions = []) :
    RoundsSound t := by
  refine h.onward hp hrct hpile ?_ ?_ fun _ _ => hlist
  all_goals
    rw [hstage]
    rcases zoneStage_cases u k with ⟨z, hz, -⟩ | hz
    all_goals rw [hz]
  · intro hs; cases hs
  · intro hs; cases hs
  · intro r hr; cases hr
  · intro r hr; cases hr

theorem RoundsSound.visited (h : RoundsSound s) {p : Fin 24} (hs : s.stage = .piles p) :
    RoundsSound (visitPile p s) :=
  h.atPileStage (h.chain.mpr (by rw [hs]; simp)) (visitPile_same p s).rct
    (fun q => by rw [visitPile_pileCfg]) (visitPile_stage p s)

theorem RoundsSound.evaluated (h : RoundsSound s) {z : Fin 32} (hs : s.stage = .zones z) :
    RoundsSound (evaluateZone z s) := by
  have same := evaluateZone_same z s
  refine h.atZoneStage (h.chain.mpr (by rw [hs]; simp)) same.rct
    (fun q => by rw [State.pile, same.plu]; rfl) (evaluateZone_stage z s) ?_
  rw [same.pju]
  exact h.contributions (by rw [hs]; simp) (by rw [hs]; simp)

theorem beforePosting_same (s : State) :
    (beforePosting s).rct = s.rct ∧ (beforePosting s).plu = s.plu ∧
      (beforePosting s).pju.contributions = s.pju.contributions ∧
      (beforePosting s).mgu.executing = s.mgu.executing := by
  unfold beforePosting
  split
  next =>
    have same := exchange_same s
    exact ⟨same.rct, same.plu, by rw [same.pju]; rfl, same.blocks.executing⟩
  next => exact ⟨rfl, rfl, rfl, rfl⟩

theorem RoundsSound.projected (h : RoundsSound s) (hs : s.stage = .projecting) :
    RoundsSound (project s) := by
  have posted := postContributions_posted (beforePosting s).pju.contributions (beforePosting s)
  obtain ⟨hrct, hplu, -⟩ := beforePosting_same s
  rw [project_eq]
  refine h.atZoneStage (h.chain.mpr (by rw [hs]; simp)) ?_ (fun q => ?_)
    (State.setStage_stage _ _) rfl
  · rw [State.setStage_rct, State.setPju_rct, posted.rct, hrct]
  · rw [State.pile, State.setStage_plu, State.setPju_plu, posted.same, State.setZnu_plu, hplu]
    rfl

theorem RoundsSound.completed (h : RoundsSound s) (hs : s.stage = .done) :
    RoundsSound (completed s) := by
  have phase : s.rct.phase = .evaluating := h.chain.mpr (by rw [hs]; simp)
  have hrun := h.run_of_phase (by rw [phase]; simp)
  obtain ⟨-, timer, probe, numbers⟩ := h.run hrun
  rw [completed_eq]
  constructor
  case period => exact h.period
  case roundMax => exact h.roundMax
  case clock => exact h.clock
  case config => exact fun hop => by rw [hrun] at hop; cases hop
  case run => exact fun _ => ⟨fun hp => (by cases hp), timer, probe, ⟨numbers.zero, numbers.range, numbers.previous⟩⟩
  case timer => exact fun n hn => ⟨(h.timer n hn).1, fun hp => by cases hp⟩
  case evaluation => rfl
  case probe => exact h.probe
  case chain => exact ⟨fun hp => (by cases hp), fun hs => absurd rfl hs⟩
  case atPile => exact fun p hp => by cases hp
  case contributions =>
    exact fun _ _ => h.contributions (by rw [hs]; simp) (by rw [hs]; simp)

/-! ### Openings and closes -/

theorem nextRoundNumber_sound {r : Rct} (h : NumbersSound r) : NumbersSound r.advance := by
  have hz := h.zero
  have hr := h.range
  constructor
  case zero => intro hm; exact if_pos hm
  case range =>
    intro hm
    change 1 ≤ nextRoundNumber r.roundMax r.roundNumber ∧
      nextRoundNumber r.roundMax r.roundNumber ≤ r.roundMax
    have hm' : r.roundMax ≠ 0 := hm
    unfold nextRoundNumber
    rw [if_neg hm']
    split <;> omega
  case previous =>
    unfold Rct.advance
    dsimp only
    split
    next => simp
    next hne => exact fun hn => hne (Option.some.inj hn).symm

/-- What an opening makes of a part at rest in RUN. -/
theorem RoundsSound.opened (hrun : s.rct.opState = .run)
    (hperiod : 10 ≤ s.rct.period ∧ s.rct.period ≤ 160) (hmax : s.rct.roundMax ≤ 250)
    (hnumbers : NumbersSound s.rct) (hclose : s.rct.closeTimer = none)
    (hprobing : s.rct.probing = false) (hprobe : s.rct.probeTimer = none)
    (hstage : s.stage = .idle) (hlist : s.pju.contributions = []) : RoundsSound (openRound s) := by
  rw [openRound_eq]
  constructor
  case period => exact hperiod
  case roundMax => exact hmax
  case clock => exact Nat.zero_le _
  case config => exact fun hop => by rw [show s.rct.opState = .config from hop] at hrun; cases hrun
  case run =>
    exact fun _ => ⟨fun hp => (by cases hp), ⟨rfl, rfl⟩, hprobing,
      ⟨hnumbers.zero, hnumbers.range, hnumbers.previous⟩⟩
  case timer =>
    intro n hn
    cases hn
    change 0 ≤ s.rct.period * 50 ∧ (_ → 0 + 100 ≤ s.rct.period * 50)
    omega
  case evaluation => exact hclose
  case probe =>
    have hp : (openedRct s).probing ≠ true := by
      change s.rct.probing ≠ true
      rw [hprobing]; decide
    rw [if_neg hp]
    exact hprobe
  case chain => exact ⟨fun hp => (by cases hp), fun hs => absurd hstage hs⟩
  case atPile => exact fun p hp => by rw [show s.stage = .piles p from hp] at hstage; cases hstage
  case contributions => exact fun _ _ => hlist

theorem RoundsSound.expired (h : RoundsSound s) (hrun : s.rct.opState = .run)
    (hclosed : s.rct.phase = .closed) : RoundsSound (openRound (s.setRct s.rct.advance)) := by
  have evaluating : s.rct.phase ≠ .evaluating := by rw [hclosed]; decide
  obtain ⟨-, -, probe, numbers⟩ := h.run hrun
  exact RoundsSound.opened hrun h.period h.roundMax (nextRoundNumber_sound numbers)
    (h.closeTimer evaluating) probe (h.probeTimer probe) (h.stage_idle evaluating)
    (h.idle_contributions (h.stage_idle evaluating))

theorem RoundsSound.started (h : RoundsSound s) (hphase : s.rct.phase ≠ .evaluating)
    (hprobe : s.rct.probing = false) : RoundsSound (startRun s) := by
  rw [startRun_eq]
  refine RoundsSound.blocks ?_ (reevaluate_same _).blocks
  refine RoundsSound.opened rfl h.period h.roundMax ⟨fun hm => if_pos hm, fun hm => ?_, nofun⟩
    (h.closeTimer hphase) hprobe (h.probeTimer hprobe) rfl rfl
  change 1 ≤ (if s.rct.roundMax = 0 then 0 else 1) ∧
    (if s.rct.roundMax = 0 then 0 else 1) ≤ s.rct.roundMax
  have hm' : s.rct.roundMax ≠ 0 := hm
  rw [if_neg hm']
  omega

theorem RoundsSound.stopped (h : RoundsSound s) (hphase : s.rct.phase ≠ .evaluating)
    (hrun : s.rct.opState = .run) : RoundsSound (stopRun s) := by
  obtain ⟨-, -, probe, -⟩ := h.run hrun
  have list := h.idle_contributions (h.stage_idle hphase)
  have blocks : RoundsSound (stoppedBlocks s) := by
    constructor
    case period => exact h.period
    case roundMax => exact h.roundMax
    case clock => exact h.clock
    case config => exact fun _ => ⟨rfl, rfl, rfl, rfl, rfl, rfl⟩
    case run => exact fun hop => by cases hop
    case timer => exact fun n hn => by cases hn
    case evaluation => exact h.closeTimer hphase
    case probe =>
      have hp : (stoppedBlocks s).rct.probing ≠ true := by
        change s.rct.probing ≠ true
        rw [probe]; decide
      rw [if_neg hp]
      exact h.probeTimer probe
    case chain => exact ⟨fun hp => (by cases hp), fun hs => absurd rfl hs⟩
    case atPile => exact fun p hp => by cases hp
    case contributions => exact fun _ _ => list
  have signs := serviceSigns_signs (stoppedBlocks s)
  rw [stopRun_eq]
  refine RoundsSound.blocks ?_ (reevaluate_same _).blocks
  refine (signs.roundsSound blocks).congr (State.setPju_rct _ _) (State.setPju_stage _ _)
    (fun p => by rw [State.pile, State.pile, State.setPju_plu]) ?_
  rw [State.setPju_pju, signs.pju]
  exact list.symm

theorem RoundsSound.closed (h : RoundsSound s) (hrun : s.rct.opState = .run)
    (hopen : s.rct.phase = .opened) : RoundsSound (closedBlocks s) := by
  obtain ⟨-, timer, probe, numbers⟩ := h.run hrun
  have at100 := (h.timer _ timer.2).2 hopen
  have evaluating : RoundsSound ((closedBlocks s).setStage .projecting) := by
    constructor
    case period => exact h.period
    case roundMax => exact h.roundMax
    case clock => exact h.clock
    case config => exact fun hop => by rw [show s.rct.opState = .config from hop] at hrun; cases hrun
    case run =>
      exact fun _ => ⟨fun hp => (by cases hp), timer, probe,
        ⟨numbers.zero, numbers.range, numbers.previous⟩⟩
    case timer => exact fun n hn => ⟨(h.timer n hn).1, fun hp => by cases hp⟩
    case evaluation => exact ⟨0, s.rct.clock, rfl, timer.2, Nat.zero_le _, at100⟩
    case probe => exact h.probe
    case chain => exact ⟨fun _ hs => (by cases hs), fun _ => rfl⟩
    case atPile => exact fun p hp => by cases hp
    case contributions => exact fun _ hn => absurd rfl hn
  exact evaluating.atPileStage rfl rfl (fun _ => rfl) (pileStage_congr (s := s) (by rfl) 0).symm

/-- In CONFIG, with no probe running, the settings may change (R19). -/
theorem RoundsSound.configured (h : RoundsSound s) (hop : s.rct.opState = .config)
    (hprobe : s.rct.probing = false) {p m : Nat} (hp : 10 ≤ p ∧ p ≤ 160) (hm : m ≤ 250)
    (mode : CloseMode) :
    RoundsSound (s.setRct { s.rct with period := p, closeMode := mode, roundMax := m }) := by
  obtain ⟨phase, timer, number, previous, seq, expected⟩ := h.config hop
  constructor
  case period => exact hp
  case roundMax => exact hm
  case clock => exact h.clock
  case config => exact fun _ => ⟨phase, timer, number, previous, seq, expected⟩
  case run => exact fun hrun => by rw [show s.rct.opState = .run from hrun] at hop; cases hop
  case timer => exact fun n hn => by rw [show s.rct.roundTimer = some n from hn] at timer; cases timer
  case evaluation =>
    rw [State.setRct_rct, if_neg (by rw [phase]; decide)]
    exact h.closeTimer (by rw [phase]; decide)
  case probe =>
    rw [State.setRct_rct, if_neg (by rw [hprobe]; decide)]
    exact h.probeTimer hprobe
  case chain => exact h.chain
  case atPile => exact h.atPile
  case contributions => exact h.contributions

theorem RoundsSound.writeRound (h : RoundsSound s) {r : Rct} {f : Nat} {w : Word} {v : Judged Rct}
    (hop : s.rct.opState = .config) (hprobe : s.rct.probing = false)
    (hv : s.rct.write f w = some v) (hr : v.Stores r) : RoundsSound (s.setRct r) := by
  unfold Rct.write at hv
  split at hv
  case h_4 => cases hv
  all_goals
    cases hv
    obtain ⟨n, hn, rfl⟩ := Judged.stores_of_into hr
  case h_1 =>
    exact h.configured hop hprobe (judgeMagnitude_stores (by decide) hn) h.roundMax s.rct.closeMode
  case h_2 => exact h.configured hop hprobe h.period h.roundMax n
  case h_3 =>
    exact h.configured hop hprobe h.period (judgeMagnitude_stores (by decide) hn).2 s.rct.closeMode

theorem RoundsSound.writePile (h : RoundsSound s) (k : Fin 24) (x : Pile)
    (hop : s.rct.opState = .config) : RoundsSound (s.setPile k x) := by
  have idle := h.config_stage hop
  constructor
  case atPile => exact fun p hp => by rw [show s.stage = .piles p from hp] at idle; cases idle
  case config => exact fun hop => (h.config hop).congr rfl
  case run => exact fun hop => (h.run hop).congr rfl
  case period => exact h.period
  case roundMax => exact h.roundMax
  case clock => exact h.clock
  case timer => exact h.timer
  case evaluation => exact h.evaluation
  case probe => exact h.probe
  case chain => exact h.chain
  case contributions => exact h.contributions

theorem RoundsSound.write {w : Word} (h : RoundsSound s) (hw : Written w s t) :
    RoundsSound t := by
  cases hw with
  | blocks same => exact h.blocks same
  | station | refresh => exact h.same rfl rfl rfl rfl
  | plume | zoneCfg => exact h.congr rfl rfl (fun _ => rfl) (setStandby_contributions _ _)
  | pile k c hop => exact h.writePile k _ hop
  | round r hop hprobe hv hr => exact h.writeRound hop hprobe hv hr

theorem RoundsSound.probed (h : RoundsSound s) (hop : s.rct.opState = .config) :
    RoundsSound (s.setRct s.rct.probe) := by
  obtain ⟨phase, timer, number, previous, seq, expected⟩ := h.config hop
  constructor
  case period => exact h.period
  case roundMax => exact h.roundMax
  case clock => exact Nat.zero_le _
  case config => exact fun _ => ⟨phase, timer, number, previous, seq, expected⟩
  case run => exact fun hrun => by rw [show s.rct.opState = .run from hrun] at hop; cases hop
  case timer => exact h.timer
  case evaluation => exact h.evaluation
  case probe => exact ⟨hop, rfl, rfl, Nat.zero_le _⟩
  case chain => exact h.chain
  case atPile => exact h.atPile
  case contributions => exact h.contributions

theorem RoundsSound.probeEnded (h : RoundsSound s) (hp : s.rct.probing = true) :
    RoundsSound (s.setRct { s.rct with probing := false, probeTimer := none }) := by
  obtain ⟨hop, -⟩ := h.config_of_probing hp
  obtain ⟨phase, timer, number, previous, seq, expected⟩ := h.config hop
  constructor
  case period => exact h.period
  case roundMax => exact h.roundMax
  case clock => exact h.clock
  case config => exact fun _ => ⟨phase, timer, number, previous, seq, expected⟩
  case run => exact fun hrun => by rw [show s.rct.opState = .run from hrun] at hop; cases hop
  case timer => exact h.timer
  case evaluation => exact h.evaluation
  case probe => rfl
  case chain => exact h.chain
  case atPile => exact h.atPile
  case contributions => exact h.contributions

/-- A sample in RUN or for a probe leaves the rounds sound; so does the close it may make. -/
theorem RoundsSound.sampled {c : SampleCopy} (h : RoundsSound s) (hs : Sampled c s t) :
    RoundsSound t := by
  cases hs with
  | discarded => exact h
  | probed => exact h.counts s.rct.outstanding _ s.rct.syncFail
  | dropped | unreported => exact h.same rfl rfl rfl rfl
  | reported =>
    exact (h.counts (s.rct.outstanding - 1) s.rct.probes s.rct.syncFail).same rfl rfl rfl rfl
  | closed hrun _ _ _ hclose =>
    have counted : RoundsSound (countedOff (samplePlaced c s)) :=
      (h.counts (s.rct.outstanding - 1) s.rct.probes s.rct.syncFail).same rfl rfl rfl rfl
    have hopen : s.rct.phase = .opened := by
      simp only [allInCloses, Bool.and_eq_true, beq_iff_eq] at hclose
      exact hclose.1.2
    exact (counted.closed hrun hopen).blocks (closeRound_same _).blocks

theorem roundsSound_reset (l : List Instr) (held : Option ResetCause) (x : Tif)
    (stu : Vector Station 48) (m : Mgu) :
    RoundsSound
      { State.reset with pending := l, resetHeld := held, tif := x, stu := stu, mgu := m } := by
  constructor
  case period => exact ⟨Nat.le_of_ble_eq_true rfl, Nat.le_of_ble_eq_true rfl⟩
  case roundMax => exact Nat.le_of_ble_eq_true rfl
  case clock => exact Nat.zero_le _
  case config => exact fun _ => ⟨rfl, rfl, rfl, rfl, rfl, rfl⟩
  case run => exact fun hop => by cases hop
  case timer => exact fun n hn => by cases hn
  case evaluation => rfl
  case probe => rfl
  case chain => exact ⟨fun hp => (by cases hp), fun hs => absurd rfl hs⟩
  case atPile => exact fun p hp => by cases hp
  case contributions => exact fun _ _ => rfl

end

/-- Every event keeps the rounds sound. -/
theorem roundsSound_kept : BlockKept RoundsSound where
  congr same h := h.blocks same
  copyStarts r h _ _ := h.same rfl rfl rfl rfl
  copyEnds r h _ := h.congr rfl rfl (fun _ => rfl) (setStandby_contributions _ _)
  read {s} u t i f h := by
    have reads := clearOnRead_reads u t i f s
    refine (h.counts s.rct.outstanding s.rct.probes (clearOnRead u t i f s).rct.syncFail).congr
      reads.rct reads.stage (fun p => ?_) (by rw [reads.pju]; rfl)
    rw [State.pile, reads.piles]; rfl
  write _ _ _ _ _ _ _ h _ hw := h.write (writeField_written hw)
  start r h hf hr := h.started hf.phase ((startRefusal_none_iff r _).mp hr).2.1
  stop h hf hrun := h.stopped hf.phase hrun
  probe h hop _ := h.probed hop
  swapNow {s} h _ _ _ _ := by
    have same := exchange_same (s.setPju s.pju.validated)
    refine h.congr same.rct same.stage (fun p => by rw [State.pile, same.plu]; rfl) ?_
    rw [same.pju]
    exact setStandby_contributions _ _
  swapLater h _ _ _ _ := h.congr rfl rfl (fun _ => rfl) (setStandby_contributions _ _)
  admission i h := h.same rfl rfl rfl rfl
  relax z h _ _ := h.same rfl rfl rfl rfl
  drill half mask d h _ _ _ := h.same (State.mapZones_rct _ _) (State.mapZones_stage _ _)
    (State.mapZones_plu _ _) (State.mapZones_pju _ _)
  endDrill half mask h _ := by
    rw [endDrillZones]
    exact h.same (State.mapZones_rct _ _) (State.mapZones_stage _ _) (State.mapZones_plu _ _)
      (State.mapZones_pju _ _)
  closing h hrun hopen := h.closed hrun hopen
  expiry h hrun hclosed _ := h.expired hrun hclosed
  probeEnd h hp := h.probeEnded hp
  pile p h hs := h.visited hs
  projection h hs := h.projected hs
  zone z h hs := h.evaluated hs
  completion h hs := h.completed hs
  sign z _ _ _ h := (signVisit_signs _ z).roundsSound h
  drain z h _ := (drainVisit_signs _ z).roundsSound h
  sample c h := h.sampled (takeSample_sampled c _)
  yard {s} y h := by
    unfold takeYard
    split
    next p d hy =>
      refine h.congr rfl rfl (fun q => ?_) rfl
      rw [State.pile_setPile]
      split
      next hq => rw [hq]
      next => rfl
    next => exact h.congr rfl rfl (fun _ => rfl) rfl

theorem roundsSound_keptByResets : KeptByResets RoundsSound where
  powerOn s t _ hstep := by cases hstep; exact roundsSound_reset _ _ _ _ _
  pin s t _ hstep := by cases hstep; exact roundsSound_reset _ _ _ _ _
  release cause addr h _ := h.same rfl rfl rfl rfl
  commands l h := h.same rfl rfl rfl rfl

end Sys2Proof.Machine
end

section
/-! Proofs about the timers (R22, R23, R32 to R34): nothing that is due is left when a millisecond
passes, so the rounds stay sound in time. -/

namespace Sys2Proof.Machine

/-- The rounds are sound, and of the timers' ends those that `d`, `e`, `x` and `b` name are not due:
the close deadline, the end of an evaluation, the expiry (beside that end), and the end of a probe. -/
structure RoundsQuiet (d e x b : Prop) (s : State) : Prop where
  sound : RoundsSound s
  deadline : d → s.rct.phase = .opened → ∀ n, s.rct.roundTimer = some n →
    n + 100 < s.rct.period * 50
  evaluation : e → s.rct.phase = .evaluating → ∀ n, s.rct.closeTimer = some n → n < 100
  expiry : e → x → s.rct.phase = .closed → ∀ n, s.rct.roundTimer = some n →
    n < s.rct.period * 50
  probe : b → s.rct.probing = true → ∀ n, s.rct.probeTimer = some n → n < s.rct.period * 50

section
variable {d e x b : Prop} {s t : State}

theorem RoundsSound.quiet (h : RoundsSound s) : RoundsQuiet False False False False s :=
  ⟨h, nofun, nofun, nofun, nofun⟩

/-- What is due is read from the phase, the probe flag, the round period and the timers. -/
theorem RoundsQuiet.congr (h : RoundsQuiet d e x b s) (hsound : RoundsSound t)
    (hphase : t.rct.phase = s.rct.phase) (hperiod : t.rct.period = s.rct.period)
    (hround : t.rct.roundTimer = s.rct.roundTimer) (hclose : t.rct.closeTimer = s.rct.closeTimer)
    (hprobing : t.rct.probing = s.rct.probing) (hprobe : t.rct.probeTimer = s.rct.probeTimer) :
    RoundsQuiet d e x b t := by
  constructor
  case sound => exact hsound
  case deadline => rw [hphase, hperiod, hround]; exact h.deadline
  case evaluation => rw [hphase, hclose]; exact h.evaluation
  case expiry => rw [hphase, hperiod, hround]; exact h.expiry
  case probe => rw [hprobing, hperiod, hprobe]; exact h.probe

theorem RoundsQuiet.same (h : RoundsQuiet d e x b s) (hsound : RoundsSound t)
    (hrct : t.rct = s.rct) : RoundsQuiet d e x b t :=
  h.congr hsound (by rw [hrct]) (by rw [hrct]) (by rw [hrct]) (by rw [hrct]) (by rw [hrct])
    (by rw [hrct])

/-- Nothing is due of a round right after its opening, and no probe runs then. -/
theorem roundsQuiet_opened (hsound : RoundsSound t) (hphase : t.rct.phase = .opened)
    (htimer : t.rct.roundTimer = some 0) : RoundsQuiet d e x b t := by
  have period := hsound.period
  obtain ⟨-, -, probe, -⟩ := hsound.run (hsound.run_of_phase (by rw [hphase]; simp))
  constructor
  case sound => exact hsound
  case deadline => rw [htimer]; rintro - - n hn; cases hn; omega
  case evaluation => rw [hphase]; exact fun _ hp => by cases hp
  case expiry => rw [hphase]; exact fun _ _ hp => by cases hp
  case probe => rw [probe]; exact fun _ hp => by cases hp

/-- Nor in CONFIG while no probe runs. -/
theorem roundsQuiet_idle (hsound : RoundsSound t) (hop : t.rct.opState = .config)
    (hprobe : t.rct.probing = false) : RoundsQuiet d e x b t := by
  have phase := (hsound.config hop).phase
  constructor
  case sound => exact hsound
  case deadline => rw [phase]; exact fun _ hp => by cases hp
  case evaluation => rw [phase]; exact fun _ hp => by cases hp
  case expiry => rw [phase]; exact fun _ _ hp => by cases hp
  case probe => rw [hprobe]; exact fun _ hp => by cases hp

/-- Nor right after a close. -/
theorem roundsQuiet_closed (hsound : RoundsSound t) (hphase : t.rct.phase = .evaluating)
    (htimer : t.rct.closeTimer = some 0) : RoundsQuiet d e x b t := by
  obtain ⟨-, -, probe, -⟩ := hsound.run (hsound.run_of_phase (by rw [hphase]; simp))
  constructor
  case sound => exact hsound
  case deadline => rw [hphase]; exact fun _ hp => by cases hp
  case evaluation => rw [htimer]; rintro - - n hn; cases hn; decide
  case expiry => rw [hphase]; exact fun _ _ hp => by cases hp
  case probe => rw [probe]; exact fun _ hp => by cases hp

/-- An evaluation that ends before its 100 ms ends before the expiry (R23). -/
theorem RoundsQuiet.completed (h : RoundsQuiet d e x b s) (hs : s.stage = .done) :
    RoundsQuiet d e x b (completed s) := by
  have sound := h.sound.completed hs
  have phase : s.rct.phase = .evaluating := h.sound.chain.mpr (by rw [hs]; simp)
  obtain ⟨m, n, hm, hn, -, hmn⟩ := h.sound.evaluating phase
  constructor
  case sound => exact sound
  all_goals rw [completed_eq]
  case deadline => exact fun _ hp => by cases hp
  case evaluation => exact fun _ hp => by cases hp
  case expiry =>
    intro he _ _ k hk
    have early := h.evaluation he phase m hm
    rw [show s.rct.roundTimer = some k from hk] at hn
    cases hn
    change n < s.rct.period * 50
    omega
  case probe => exact h.probe

theorem RoundsQuiet.write {w : Word} (h : RoundsQuiet d e x b s) (hw : Written w s t) :
    RoundsQuiet d e x b t := by
  have sound := h.sound.write hw
  cases hw with
  | blocks same => exact h.same sound same.rct
  | station | refresh | pile | plume | zoneCfg => exact h.same sound rfl
  | @round f v r hop hprobe hv hr =>
    refine roundsQuiet_idle sound ((Rct.write_opState hv hr).trans hop) ?_
    unfold Rct.write at hv
    split at hv
    case h_4 => cases hv
    all_goals
      cases hv
      obtain ⟨n, hn, rfl⟩ := Judged.stores_of_into hr
      exact hprobe

theorem RoundsQuiet.sampled {c : SampleCopy} (h : RoundsQuiet d e x b s) (hs : Sampled c s t) :
    RoundsQuiet d e x b t := by
  have sound := h.sound.sampled hs
  cases hs with
  | discarded => exact h
  | probed | reported => exact h.congr sound rfl rfl rfl rfl rfl rfl
  | dropped | unreported => exact h.same sound rfl
  | closed hrun =>
    have same := closeRound_same (countedOff (samplePlaced c s))
    exact roundsQuiet_closed sound (by rw [same.rct]; rfl) (by rw [same.rct]; rfl)

end

/-- Every event leaves undue what was. -/
theorem roundsQuiet_kept (d e x b : Prop) : BlockKept (RoundsQuiet d e x b) where
  congr same h := h.same (h.sound.blocks same) same.rct
  copyStarts r h hf hp := h.same (roundsSound_kept.copyStarts r h.sound hf hp) rfl
  copyEnds r h hx := h.same (roundsSound_kept.copyEnds r h.sound hx) rfl
  read {s} u t i f h := by
    have reads := clearOnRead_reads u t i f s
    refine h.congr (roundsSound_kept.read u t i f h.sound) ?_ ?_ ?_ ?_ ?_ ?_ <;> rw [reads.rct]
  write _ _ _ _ _ _ _ h _ hw := h.write (writeField_written hw)
  start {s} r h hf hr := by
    refine roundsQuiet_opened (roundsSound_kept.start r h.sound hf hr) ?_ ?_ <;>
      rw [startRun_eq, openRound_eq] <;> rfl
  stop {s} h hf hrun := by
    have signs := serviceSigns_signs (stoppedBlocks s)
    have hrct : (stopRun s).rct = s.rct.stop := by
      rw [stopRun_eq, reevaluate_rct, State.setPju_rct, signs.rct]; rfl
    exact roundsQuiet_idle (h.sound.stopped hf.phase hrun) (by rw [hrct]; rfl)
      (by rw [hrct]; exact (h.sound.run hrun).probe)
  probe {s} h hop hp := by
    have sound := h.sound.probed hop
    have phase := (h.sound.config hop).phase
    have period := h.sound.period
    constructor
    case sound => exact sound
    case deadline => exact fun _ hph => by rw [show s.rct.phase = .opened from hph] at phase; cases phase
    case evaluation => exact fun _ hph => by rw [show s.rct.phase = .evaluating from hph] at phase; cases phase
    case expiry => exact fun _ _ hph => by rw [show s.rct.phase = .closed from hph] at phase; cases phase
    case probe =>
      intro _ _ n hn
      cases hn
      change 0 < s.rct.period * 50
      omega
  swapNow {s} h hf hp hv hop :=
    h.same (roundsSound_kept.swapNow h.sound hf hp hv hop) (exchange_same _).rct
  swapLater h hf hp hv hop := h.same (roundsSound_kept.swapLater h.sound hf hp hv hop) rfl
  admission i h := h.same (roundsSound_kept.admission i h.sound) rfl
  relax z h hrun hl := h.same (roundsSound_kept.relax z h.sound hrun hl) rfl
  drill half mask n h hrun hlow hhigh :=
    h.same (roundsSound_kept.drill half mask n h.sound hrun hlow hhigh) (State.mapZones_rct _ _)
  endDrill half mask h hrun :=
    h.same (roundsSound_kept.endDrill half mask h.sound hrun) (State.mapZones_rct _ _)
  closing h hrun hopen := roundsQuiet_closed (h.sound.closed hrun hopen) rfl rfl
  expiry h hrun hclosed _ := by
    refine roundsQuiet_opened (h.sound.expired hrun hclosed) ?_ ?_ <;> rw [openRound_eq] <;> rfl
  probeEnd h hp :=
    roundsQuiet_idle (h.sound.probeEnded hp) (h.sound.config_of_probing hp).1 rfl
  pile p h hs := h.same (h.sound.visited hs) (visitPile_same p _).rct
  projection {s} h hs := by
    have posted := postContributions_posted (beforePosting s).pju.contributions (beforePosting s)
    refine h.same (h.sound.projected hs) ?_
    rw [project_eq, State.setStage_rct, State.setPju_rct, posted.rct, (beforePosting_same s).1]
  zone z h hs := h.same (h.sound.evaluated hs) (evaluateZone_same z _).rct
  completion h hs := h.completed hs
  sign z _ _ _ h := h.same ((signVisit_signs _ z).roundsSound h.sound) (signVisit_signs _ z).rct
  drain z h _ := h.same ((drainVisit_signs _ z).roundsSound h.sound) (drainVisit_signs _ z).rct
  sample c h := h.sampled (takeSample_sampled c _)
  yard y h := by
    refine h.same (roundsSound_kept.yard y h.sound) ?_
    unfold takeYard
    split
    next => rfl
    next => rfl

/-! ### What is due falls before time passes -/

theorem not_reached_iff {ms : Nat} {timer : Option Nat} :
    reached ms timer ≠ true ↔ ∀ n, timer = some n → n < ms := by
  cases timer with
  | none => simp [reached]
  | some n => simp [reached]

section
variable {d e x b : Prop} {s : State}

theorem RoundsQuiet.deadlineFalls (h : RoundsQuiet d e x b s) :
    RoundsQuiet True e x b (deadlineFalls s) := by
  have kept := (roundsQuiet_kept d e x b).keptNow.deadlineFalls h
  refine ⟨kept.sound, fun _ => ?_, kept.evaluation, kept.expiry, kept.probe⟩
  unfold Machine.deadlineFalls
  split
  next =>
    rw [(closeRound_same s).rct]
    exact fun hp => by cases hp
  next hdue =>
    intro hp n hn
    have early : reached s.rct.deadlineMs s.rct.roundTimer ≠ true := fun hr =>
      hdue ⟨h.sound.run_of_phase (by rw [hp]; simp), hp, hr⟩
    have := not_reached_iff.mp early n hn
    simp only [Rct.deadlineMs, Rct.periodMs, Config.closeReserveMs, Config.periodUnitMs] at this
    omega

theorem RoundsQuiet.timerExpires (h : RoundsQuiet d e x b s) :
    RoundsQuiet d e True b (timerExpires s) := by
  have kept := (roundsQuiet_kept d e x b).keptNow.timerExpires h
  refine ⟨kept.sound, kept.deadline, kept.evaluation, fun _ _ => ?_, kept.probe⟩
  unfold Machine.timerExpires
  split
  next =>
    rw [openRound_eq]
    exact fun hp => by cases hp
  next hdue =>
    intro hp n hn
    have early : reached s.rct.periodMs s.rct.roundTimer ≠ true := fun hr =>
      hdue ⟨h.sound.run_of_phase (by rw [hp]; simp), hp, hr⟩
    exact not_reached_iff.mp early n hn

theorem RoundsQuiet.probeExpires (h : RoundsQuiet d e x b s) :
    RoundsQuiet d e x True (probeExpires s) := by
  have kept := (roundsQuiet_kept d e x b).keptNow.probeExpires h
  refine ⟨kept.sound, kept.deadline, kept.evaluation, kept.expiry, fun _ => ?_⟩
  unfold Machine.probeExpires
  split
  next =>
    rw [raise_rct]
    exact fun hp => by cases hp
  next hdue =>
    intro hp n hn
    exact not_reached_iff.mp (fun hr => hdue ⟨hp, hr⟩) n hn

/-! ### An evaluation ends within its 58 events -/

/-- The events an evaluation has left at a stage, at most. -/
def stepsLeft : EvalStage → Nat
  | .idle => 0
  | .piles p => 58 - p.val
  | .projecting => 34
  | .zones z => 33 - z.val
  | .done => 1

theorem stepsLeft_pileStage (s : State) (p : Fin 24) :
    stepsLeft (pileStage s (p.val + 1)) < stepsLeft (.piles p) := by
  rcases pileStage_cases s (p.val + 1) with ⟨q, hq, hpq, -⟩ | hq <;>
    (rw [hq]; simp only [stepsLeft]; omega)

theorem stepsLeft_zoneStage (s : State) (k : Nat) : stepsLeft (zoneStage s k) ≤ 33 - min k 32 := by
  rcases zoneStage_cases s k with ⟨z, hz, hkz, -⟩ | hz <;>
    (rw [hz]; simp only [stepsLeft]; omega)

/-- Each event either completes the evaluation, which leaves nothing of it due, or comes nearer to
that. -/
theorem RoundsQuiet.evaluationStep (h : RoundsQuiet d e x b s) :
    RoundsQuiet d True False b (evaluationStep s) ∨
      (RoundsQuiet d e x b (evaluationStep s) ∧
        stepsLeft (evaluationStep s).stage < stepsLeft s.stage) := by
  have kept := (roundsQuiet_kept d e x b).keptNow.evaluationStep h
  unfold Machine.evaluationStep at kept ⊢
  cases hs : s.stage with
  | idle =>
    have phase : s.rct.phase ≠ .evaluating := fun hp => h.sound.chain.mp hp hs
    exact .inl ⟨h.sound, h.deadline, fun _ hp => absurd hp phase, fun _ => nofun, h.probe⟩
  | piles p =>
    rw [hs] at kept
    exact .inr ⟨kept, by rw [visitPile_stage]; exact stepsLeft_pileStage s p⟩
  | projecting =>
    rw [hs] at kept
    refine .inr ⟨kept, ?_⟩
    dsimp only
    rw [project_eq, State.setStage_stage]
    exact Nat.lt_of_le_of_lt (stepsLeft_zoneStage _ 0) (by decide)
  | zones z =>
    rw [hs] at kept
    refine .inr ⟨kept, ?_⟩
    dsimp only
    rw [evaluateZone_stage]
    have := stepsLeft_zoneStage s (z.val + 1)
    change stepsLeft (zoneStage s (z.val + 1)) < 33 - z.val
    omega
  | done =>
    have after := h.completed hs
    have ended : RoundsQuiet d True False b (Machine.completed s) :=
      ⟨after.sound, after.deadline, fun _ => (by rw [completed_eq]; exact fun hp => by cases hp),
        fun _ => nofun, after.probe⟩
    left
    dsimp only
    rw [evaluationEnds_eq]
    exact (roundsQuiet_kept d True False b).keptNow.contend _
      (fun u z => (signVisit_signs u z).rct)
      (fun u z _ hu => hu.same ((signVisit_signs u z).roundsSound hu.sound) (signVisit_signs u z).rct)
      [] _ (fun _ => rfl) ended

theorem RoundsQuiet.evaluationSteps (n : Nat) (h : RoundsQuiet d e x b s)
    (hn : stepsLeft s.stage ≤ n) : RoundsQuiet d True False b (evaluationSteps n s) := by
  induction n generalizing s with
  | zero =>
    have phase : s.rct.phase ≠ .evaluating := by
      intro hp
      have hs := h.sound.chain.mp hp
      cases hstage : s.stage with
      | idle => exact hs hstage
      | piles p | zones p => rw [hstage, stepsLeft] at hn; omega
      | projecting | done => rw [hstage] at hn; simp [stepsLeft] at hn
    exact ⟨h.sound, h.deadline, fun _ hp => absurd hp phase, fun _ => nofun, h.probe⟩
  | succ n ih =>
    rcases h.evaluationStep with ended | ⟨kept, hless⟩
    · exact (roundsQuiet_kept d True False b).keptNow.evaluationSteps n ended
    · exact ih kept (by omega)

theorem stepsLeft_le (st : EvalStage) : stepsLeft st ≤ 58 := by
  cases st <;> simp only [stepsLeft] <;> omega

theorem RoundsQuiet.evaluationOverdue (h : RoundsQuiet d e x b s) :
    RoundsQuiet d True False b (evaluationOverdue s) := by
  unfold Machine.evaluationOverdue
  split
  next =>
    exact (roundsQuiet_kept d True False b).keptNow.serveQueue
      (h.evaluationSteps evaluationLength (stepsLeft_le s.stage))
  next hdue =>
    refine ⟨h.sound, h.deadline, fun _ hp n hn => ?_, fun _ => nofun, h.probe⟩
    exact not_reached_iff.mp (fun hr => hdue ⟨hp, hr⟩) n hn

/-! ### A millisecond -/

/-- Where time passes nothing of the rounds is due. -/
theorem RoundsSound.settled (h : RoundsSound s) : RoundsQuiet True True True True (settle s) := by
  have start := (roundsQuiet_kept False False False False).keptNow
  have queue := start.copyOverdue (start.serveQueue h.quiet)
  exact (roundsQuiet_kept True True True True).keptNow.serveQueue
    queue.deadlineFalls.evaluationOverdue.timerExpires.probeExpires

theorem RoundsQuiet.passTime (h : RoundsQuiet True True True True s) : RoundsSound s.passTime := by
  obtain ⟨sound, deadline, evaluation, expiry, probe⟩ := h
  have period := sound.period
  constructor
  case period => exact sound.period
  case roundMax => exact sound.roundMax
  case clock =>
    change (if s.rct.clockRuns then min Config.clockTop (s.rct.clock + 1) else s.rct.clock) ≤ _
    split
    next => exact Nat.min_le_left _ _
    next => exact sound.clock
  case config =>
    intro hop
    obtain ⟨phase, timer, number, previous, seq, expected⟩ := sound.config hop
    exact ⟨phase, congrArg (Option.map (· + 1)) timer, number, previous, seq, expected⟩
  case run =>
    intro hrun
    obtain ⟨phase, ⟨runs, timer⟩, probing, numbers⟩ := sound.run hrun
    have early : s.rct.clock < s.rct.period * 50 := by
      cases hp : s.rct.phase with
      | noRound => exact absurd hp phase
      | opened => have := deadline trivial hp _ timer; omega
      | closed => exact expiry trivial trivial hp _ timer
      | evaluating =>
        obtain ⟨m, n, hm, hn, -, hmn⟩ := sound.evaluating hp
        have := evaluation trivial hp m hm
        rw [timer] at hn
        cases hn
        omega
    refine ⟨phase, ⟨runs, ?_⟩, probing, ⟨numbers.zero, numbers.range, numbers.previous⟩⟩
    change s.rct.roundTimer.map (· + 1) =
      some (if s.rct.clockRuns then min 8191 (s.rct.clock + 1) else s.rct.clock)
    rw [timer, if_pos runs, Option.map_some, Nat.min_eq_right (by omega)]
  case timer =>
    intro n hn
    obtain ⟨m, hm, rfl⟩ := Option.map_eq_some_iff.mp (show s.rct.roundTimer.map (· + 1) = some n from hn)
    have bound := sound.timer m hm
    change m + 1 ≤ s.rct.period * 50 ∧
      (s.rct.phase = .opened → m + 1 + 100 ≤ s.rct.period * 50)
    cases hp : s.rct.phase with
    | noRound =>
      have hop : s.rct.opState = .config := by
        cases hop : s.rct.opState with
        | config => rfl
        | run => exact absurd hp (sound.run hop).phase
      rw [(sound.config hop).timer] at hm
      cases hm
    | opened => have := deadline trivial hp m hm; omega
    | closed => exact ⟨expiry trivial trivial hp m hm, nofun⟩
    | evaluating =>
      obtain ⟨k, n, hk, hn, -, hkn⟩ := sound.evaluating hp
      have := evaluation trivial hp k hk
      rw [hm] at hn
      cases hn
      exact ⟨by omega, nofun⟩
  case evaluation =>
    change if s.rct.phase = .evaluating then _ else s.rct.closeTimer.map (· + 1) = none
    split
    next hp =>
      obtain ⟨m, n, hm, hn, -, hmn⟩ := sound.evaluating hp
      have := evaluation trivial hp m hm
      refine ⟨m + 1, n + 1, congrArg (Option.map (· + 1)) hm, congrArg (Option.map (· + 1)) hn,
        this, ?_⟩
      change n + 1 + 100 ≤ s.rct.period * 50 + (m + 1)
      omega
    next hp => rw [sound.closeTimer hp]; rfl
  case probe =>
    change if s.rct.probing = true then _ else s.rct.probeTimer.map (· + 1) = none
    split
    next hp =>
      obtain ⟨hop, runs, timer, bound⟩ := sound.config_of_probing hp
      have early := probe trivial hp _ timer
      have clock : s.passTime.rct.clock = s.rct.clock + 1 := by
        change (if s.rct.clockRuns then min 8191 (s.rct.clock + 1) else s.rct.clock) = _
        rw [if_pos runs, Nat.min_eq_right (by omega)]
      refine ⟨hop, runs, ?_, ?_⟩
      · rw [clock]; exact congrArg (Option.map (· + 1)) timer
      · rw [clock]; exact early
    next hp => rw [sound.probeTimer ((Bool.not_eq_true _).mp hp)]; rfl
  case chain => exact sound.chain
  case atPile => exact sound.atPile
  case contributions => exact sound.contributions

end

theorem roundsSound_keptInTime : Kept RoundsSound :=
  { roundsSound_kept.keptNow with millisecond := fun h _ => h.settled.passTime }

/-- Settles O21: every event keeps the rounds sound, and before a millisecond passes every timer's end
that is due has fallen. -/
theorem everyStepKeepsTheRoundsSound : Obligations.EveryStepKeepsTheRoundsSound :=
  fun _ _ h hstep => roundsSound_keptInTime.step roundsSound_keptByResets h hstep

end Sys2Proof.Machine
end

section
/-! Proofs about the outstanding count (R24, R52): every event keeps it exact. -/

namespace Sys2Proof.Machine

section
variable {s t : State}

/-- The count is read from RCT and from which readings there are. -/
theorem OutstandingSound.congr (h : OutstandingSound s) (hexpected : t.rct.expected = s.rct.expected)
    (hphase : t.rct.phase = s.rct.phase) (hcount : t.rct.outstanding = s.rct.outstanding)
    (hmode : t.rct.closeMode = s.rct.closeMode)
    (hreading : ∀ i, (t.intake i).reading.isNone = (s.intake i).reading.isNone) :
    OutstandingSound t := by
  have missing : missing t = missing s := by simp only [missing, hexpected, hreading]
  constructor
  case distinct => rw [hexpected]; exact h.distinct
  case exact => rw [hphase, hcount, missing]; exact h.exact
  case allIn => rw [hphase, hmode, hexpected, hcount]; exact h.allIn

theorem OutstandingSound.same (h : OutstandingSound s) (hrct : t.rct = s.rct)
    (hsin : t.sin = s.sin) : OutstandingSound t :=
  h.congr (by rw [hrct]) (by rw [hrct]) (by rw [hrct]) (by rw [hrct])
    fun i => by rw [State.intake_congr hsin]

/-- Of a round that is not OPEN the count says nothing. -/
theorem outstandingSound_unopened (hdistinct : t.rct.expected.Nodup)
    (hphase : t.rct.phase ≠ .opened) : OutstandingSound t :=
  ⟨hdistinct, fun hp => absurd hp hphase, fun hp => absurd hp hphase⟩

/-- Right after an opening every expected station is outstanding (R24). -/
theorem outstandingSound_opened (s : State) : OutstandingSound (openRound s) := by
  have readings (i : Fin 48) : ((openRound s).intake i).reading = none := by
    have slot : (openRound s).intake i = (s.intake i).emptied := by
      rw [openRound_eq, State.intake]
      exact tableMap_get _ _ _
    rw [slot]; rfl
  have all : missing (openRound s) = (openRound s).rct.expected := by
    simp [missing, readings]
  constructor
  case distinct => rw [openRound_eq]; exact (List.nodup_finRange 48).filter _
  case exact => rw [all, openRound_eq]; exact fun _ => rfl
  case allIn => rw [openRound_eq]; exact fun _ _ hne hz => hne (List.length_eq_zero_iff.mp hz)

/-! ### Samples -/

/-- A slot that holds a reading keeps one. -/
theorem Intake.accept_reading (it : Intake) (c : StationCfg) (channel : Byte) (value : Word)
    (stamp : Nat) (h : it.reading.isSome = true) :
    (it.accept c channel value stamp).reading.isSome = true := by
  unfold Intake.accept Intake.pathA Intake.pathB
  dsimp only
  split
  · split
    · exact h
    · exact h
    · split
      · exact h
      · split
        · split <;> [rfl; exact h]
        · exact h
  · split <;> [exact h; exact h; rfl]
  · exact h

theorem samplePlaced_intake (c : SampleCopy) (s : State) (i : Fin 48) :
    (samplePlaced c s).intake i =
      if i = c.station then
        (s.intake c.station).accept (s.station c.station).cfg c.channel c.value s.rct.clock
      else s.intake i := State.intake_setIntake s c.station i _

/-- A sample that is no first reading leaves every other slot as empty as it was. -/
theorem samplePlaced_reading {c : SampleCopy} {i : Fin 48}
    (h : i ≠ c.station ∨ ¬ FirstReading c s) :
    ((samplePlaced c s).intake i).reading.isNone = (s.intake i).reading.isNone := by
  rw [samplePlaced_intake]
  split
  next hi =>
    subst hi
    have hfirst := h.resolve_left (fun hn => hn rfl)
    cases hread : (s.intake c.station).reading with
    | none =>
      rw [Option.isNone_none, Option.isNone_iff_eq_none, ← Option.not_isSome_iff_eq_none]
      exact fun hs => hfirst ⟨hread, hs⟩
    | some x =>
      have kept := Intake.accept_reading (s.intake c.station) (s.station c.station).cfg c.channel
        c.value s.rct.clock (by rw [hread]; rfl)
      rw [Option.isNone_some, ← Bool.not_eq_true, Option.isNone_iff_eq_none,
        ← Option.not_isSome_iff_eq_none, not_not]
      exact kept
  next => rfl

/-- A first reading of an expected station takes it off those that are missing. -/
theorem missing_placed {c : SampleCopy} (hnodup : s.rct.expected.Nodup) (hfirst : FirstReading c s)
    (hmem : c.station ∈ s.rct.expected) :
    (missing (samplePlaced c s)).length = (missing s).length - 1 := by
  have erased : missing (samplePlaced c s) = (missing s).erase c.station := by
    have nodup : (missing s).Nodup := hnodup.filter _
    rw [nodup.erase_eq_filter]
    unfold missing
    rw [List.filter_filter]
    refine List.filter_congr fun i _ => ?_
    by_cases hi : i = c.station
    case neg => rw [samplePlaced_reading (.inl hi)]; simp [hi]
    case pos =>
      subst hi
      rw [samplePlaced_intake, if_pos rfl]
      obtain ⟨y, hy⟩ := Option.isSome_iff_exists.mp hfirst.2
      simp [hy]
  rw [erased]
  refine List.length_erase_of_mem (List.mem_filter.mpr ⟨hmem, ?_⟩)
  rw [hfirst.1]; rfl

theorem OutstandingSound.sampled {c : SampleCopy} (h : OutstandingSound s) (hs : Sampled c s t) :
    OutstandingSound t := by
  cases hs with
  | discarded => exact h
  | probed => exact h.congr rfl rfl rfl rfl fun _ => rfl
  | dropped d =>
    refine h.congr rfl rfl rfl rfl fun i => ?_
    rw [State.intake_setIntake]
    split
    next hi => rw [(Intake.drop_kept d _).1, hi]
    next => rfl
  | unreported hrun hj hfirst =>
    by_cases hread : FirstReading c s
    case neg => exact h.congr rfl rfl rfl rfl fun i => samplePlaced_reading (.inr hread)
    case pos =>
      have hout : c.station ∉ s.rct.expected := fun hmem => hfirst ⟨hread, hmem⟩
      have same : missing (samplePlaced c s) = missing s := by
        refine List.filter_congr fun i hi => samplePlaced_reading (.inl ?_)
        rintro rfl
        exact hout hi
      exact ⟨h.distinct, fun hp => by rw [same]; exact h.exact hp, h.allIn⟩
  | reported hrun hj hfirst hmem hopen =>
    have counted := missing_placed h.distinct hfirst hmem
    refine ⟨h.distinct, fun hp => ?_, fun hp hmode _ hz => ?_⟩
    · change s.rct.outstanding - 1 = (missing (samplePlaced c s)).length
      rw [counted, h.exact hp]
    · have closes : allInCloses (countedOff s).rct = true := by
        simp only [allInCloses, Bool.and_eq_true, beq_iff_eq]
        exact ⟨⟨hmode, hp⟩, hz⟩
      rw [hopen] at closes
      cases closes
  | closed =>
    have same := (closeRound_same (countedOff (samplePlaced c s))).rct
    exact outstandingSound_unopened (by rw [same]; exact h.distinct)
      (by rw [same]; exact fun hp => by cases hp)

end

/-- The outstanding count is exact in rounds that are sound. -/
structure RoundsCounted (s : State) : Prop where
  rounds : RoundsSound s
  count : OutstandingSound s

/-- Every event keeps the outstanding count exact. -/
theorem roundsCounted_kept : BlockKept RoundsCounted where
  congr same h := ⟨h.rounds.blocks same, h.count.same same.rct same.sin⟩
  copyStarts r h hf hp := ⟨roundsSound_kept.copyStarts r h.rounds hf hp, h.count.same rfl rfl⟩
  copyEnds r h hx := ⟨roundsSound_kept.copyEnds r h.rounds hx, h.count.same rfl rfl⟩
  read {s} u t i f h := by
    have reads := clearOnRead_reads u t i f s
    exact ⟨roundsSound_kept.read u t i f h.rounds,
      h.count.congr (by rw [reads.rct]) (by rw [reads.rct]) (by rw [reads.rct]) (by rw [reads.rct])
        fun i => by rw [reads.reading]⟩
  write {s} u n i f w t status h hf hw := by
    refine ⟨roundsSound_kept.write u n i f w t status h.rounds hf hw, ?_⟩
    have written := writeField_written hw
    cases written with
    | blocks same => exact h.count.same same.rct same.sin
    | station | pile | plume | zoneCfg | refresh => exact h.count.same rfl rfl
    | @round f v r hop hprobe hv hr =>
      have none := h.rounds.config hop
      have sound := (h.rounds.writeRound hop hprobe hv hr).config ((Rct.write_opState hv hr).trans hop)
      exact outstandingSound_unopened (by rw [sound.expected]; exact List.nodup_nil)
        (by rw [sound.phase]; decide)
  start r h hf hr := by
    refine ⟨roundsSound_kept.start r h.rounds hf hr, ?_⟩
    rw [startRun_eq]
    exact (outstandingSound_opened _).same (reevaluate_rct _) (reevaluate_sin _)
  stop {s} h hf hrun := by
    have sound := roundsSound_kept.stop h.rounds hf hrun
    have config := sound.config (by
      rw [stopRun_eq, reevaluate_rct, State.setPju_rct, (serviceSigns_signs _).rct]; rfl)
    exact ⟨sound, outstandingSound_unopened (by rw [config.expected]; exact List.nodup_nil)
      (by rw [config.phase]; decide)⟩
  probe h hop hp :=
    ⟨roundsSound_kept.probe h.rounds hop hp, h.count.congr rfl rfl rfl rfl fun _ => rfl⟩
  swapNow {s} h hf hp hv hop :=
    have same := exchange_same (s.setPju s.pju.validated)
    ⟨roundsSound_kept.swapNow h.rounds hf hp hv hop, h.count.same same.rct same.sin⟩
  swapLater h hf hp hv hop :=
    ⟨roundsSound_kept.swapLater h.rounds hf hp hv hop, h.count.same rfl rfl⟩
  admission i h := ⟨roundsSound_kept.admission i h.rounds, h.count.same rfl rfl⟩
  relax z h hrun hl := ⟨roundsSound_kept.relax z h.rounds hrun hl, h.count.same rfl rfl⟩
  drill half mask d h hrun hlow hhigh :=
    ⟨roundsSound_kept.drill half mask d h.rounds hrun hlow hhigh,
      h.count.same (State.mapZones_rct _ _) (State.mapZones_sin _ _)⟩
  endDrill half mask h hrun :=
    ⟨roundsSound_kept.endDrill half mask h.rounds hrun,
      h.count.same (State.mapZones_rct _ _) (State.mapZones_sin _ _)⟩
  closing h hrun hopen :=
    ⟨h.rounds.closed hrun hopen, outstandingSound_unopened h.count.distinct fun hp => by cases hp⟩
  expiry h hrun hclosed _ := ⟨h.rounds.expired hrun hclosed, outstandingSound_opened _⟩
  probeEnd h hp := ⟨h.rounds.probeEnded hp, h.count.congr rfl rfl rfl rfl fun _ => rfl⟩
  pile p h hs :=
    have same := visitPile_same p _
    ⟨h.rounds.visited hs, h.count.same same.rct same.sin⟩
  projection {s} h hs := by
    have posted := postContributions_posted (beforePosting s).pju.contributions (beforePosting s)
    have before : (beforePosting s).sin = s.sin := by
      unfold beforePosting
      split
      next => exact (exchange_same s).sin
      next => rfl
    refine ⟨h.rounds.projected hs, h.count.same ?_ ?_⟩
    · rw [project_eq, State.setStage_rct, State.setPju_rct, posted.rct, (beforePosting_same s).1]
    · rw [project_eq, State.setStage_sin, State.setPju_sin, posted.same, State.setZnu_sin, before]
  zone z h hs :=
    have same := evaluateZone_same z _
    ⟨h.rounds.evaluated hs, h.count.same same.rct same.sin⟩
  completion h hs := by
    refine ⟨h.rounds.completed hs, ?_⟩
    rw [completed_eq]
    exact outstandingSound_unopened h.count.distinct fun hp => by cases hp
  sign z _ _ _ h :=
    have signs := signVisit_signs _ z
    ⟨signs.roundsSound h.rounds, h.count.same signs.rct signs.sin⟩
  drain z h _ :=
    have signs := drainVisit_signs _ z
    ⟨signs.roundsSound h.rounds, h.count.same signs.rct signs.sin⟩
  sample c h :=
    have sampled := takeSample_sampled c _
    ⟨h.rounds.sampled sampled, h.count.sampled sampled⟩
  yard y h := by
    refine ⟨roundsSound_kept.yard y h.rounds, ?_⟩
    unfold takeYard
    split
    next => exact h.count.same rfl rfl
    next => exact h.count.same rfl rfl

theorem roundsCounted_keptByResets : KeptByResets RoundsCounted where
  powerOn s t h hstep := by
    refine ⟨roundsSound_keptByResets.powerOn s t h.rounds hstep, ?_⟩
    cases hstep
    exact outstandingSound_unopened List.nodup_nil fun hp => by cases hp
  pin s t h hstep := by
    refine ⟨roundsSound_keptByResets.pin s t h.rounds hstep, ?_⟩
    cases hstep
    exact outstandingSound_unopened List.nodup_nil fun hp => by cases hp
  release cause addr h hheld :=
    ⟨roundsSound_keptByResets.release cause addr h.rounds hheld, h.count.same rfl rfl⟩
  commands l h := ⟨roundsSound_keptByResets.commands l h.rounds, h.count.same rfl rfl⟩

theorem RoundsCounted.passTime {s : State} (h : RoundsCounted s) (hr : RoundsSound s.passTime) :
    RoundsCounted s.passTime := ⟨hr, h.count.congr rfl rfl rfl rfl fun _ => rfl⟩

theorem roundsCounted_keptInTime : Kept RoundsCounted :=
  { roundsCounted_kept.keptNow with millisecond := fun h hs => hs.passTime h.rounds.settled.passTime }

/-- Settles O22: every event of sound rounds keeps the outstanding count exact. -/
theorem everyStepKeepsTheOutstandingCount : Obligations.EveryStepKeepsTheOutstandingCount := by
  intro s t hrounds hcount hstep
  exact (roundsCounted_keptInTime.step roundsCounted_keptByResets ⟨hrounds, hcount⟩ hstep).count

end Sys2Proof.Machine
end

section
/-! Proofs about the zones (R127 to R159): every event keeps them sound. -/

namespace Sys2Proof.Machine

/-! ### One record -/

section
variable {z : Zone} {c : ZoneCfg}

theorem Zone.Sound.of_rest (h : z.AtRest) (hrefresh : z.refresh ≤ 255) : z.Sound := by
  constructor
  case arrivals => intro t; rw [h.arrivals]; exact Nat.zero_le _
  case xs => rw [h.xs]; exact Nat.zero_le _
  case holdRange => rw [h.hold]; exact Nat.zero_le _
  case holdClear => rw [h.hold, h.level]; exact ⟨fun _ => rfl, fun _ => rfl⟩
  case effective => rw [h.effective, h.level, h.degraded]; rfl
  case drill => rw [h.drill]; exact Nat.zero_le _
  case refresh => exact hrefresh

theorem replicate_arrivals (t : Fin 16) : (Vector.replicate 16 0 : Vector Nat 16)[t] = 0 := by simp

theorem Zone.stopped_rest (z : Zone) : z.stopped.AtRest :=
  ⟨replicate_arrivals, rfl, rfl, rfl, rfl, rfl, rfl⟩

theorem Zone.start_rest (period : Nat) (i : Fin 32) (z : Zone) : (z.start period i).AtRest :=
  ⟨replicate_arrivals, rfl, rfl, rfl, rfl, rfl, rfl⟩

/-- What a zone keeps of its signs bounds nothing but the refresh countdown. -/
theorem Zone.Sound.signs (h : z.Sound) {y : Zone}
    (hy : y = { z with
      lastSent := y.lastSent, signPending := y.signPending, refresh := y.refresh })
    (hrefresh : y.refresh ≤ 255) : y.Sound := by
  rw [hy]
  exact ⟨h.arrivals, h.xs, h.holdRange, h.holdClear, h.effective, h.drill, hrefresh⟩

theorem Zone.AtRest.signs (h : z.AtRest) {y : Zone}
    (hy : y = { z with
      lastSent := y.lastSent, signPending := y.signPending, refresh := y.refresh }) :
    y.AtRest := by
  rw [hy]
  exact ⟨h.arrivals, h.xs, h.level, h.hold, h.degraded, h.drill, h.effective⟩

theorem holdOf_bounds (hc : c.Sound) (l : Level) :
    c.holdOf l ≤ 255 ∧ (c.holdOf l = 0 ↔ l = .clear) := by
  have hwatch := hc.watchHold
  have hwarn := hc.warnHold
  have halert := hc.alertHold
  cases l with
  | clear => exact ⟨Nat.zero_le _, fun _ => rfl, fun _ => rfl⟩
  | watch | warn | alert => simp only [ZoneCfg.holdOf, reduceCtorEq, iff_false]; omega

/-- The level machine keeps the hold in range, and 0 exactly at CLEAR (R133, R134). -/
theorem levelMachine_bounds (hc : c.Sound) (target level : Level) {hold : Nat}
    (hrange : hold ≤ 255) (hclear : hold = 0 ↔ level = .clear) :
    (levelMachine c target level hold).2 ≤ 255 ∧
      ((levelMachine c target level hold).2 = 0 ↔
        (levelMachine c target level hold).1 = .clear) := by
  unfold levelMachine
  split
  next => exact holdOf_bounds hc target
  next =>
    split
    next => exact holdOf_bounds hc level
    next =>
      split
      next hmore =>
        have raised : level ≠ .clear := fun hl => by have := hclear.mpr hl; omega
        exact ⟨(Nat.sub_le _ _).trans hrange, ⟨fun h => by omega, fun hl => absurd hl raised⟩⟩
      next => exact holdOf_bounds hc _

theorem exposureStep_le (hc : c.Sound) {xs a : Nat} (hxs : xs ≤ 65520) (ha : a ≤ 4095) :
    exposureStep c xs a ≤ 65520 := by
  unfold exposureStep
  split
  next => exact filterStep_le hc.rUp.2 (by decide) hxs (by omega)
  next => exact filterStep_le hc.rDown.2 (by decide) hxs (by omega)

theorem Zone.Sound.takeArrival (h : z.Sound) (hc : c.Sound) (t : Fin 16) :
    (z.takeArrival c t).Sound := by
  refine ⟨fun k => ?_, exposureStep_le hc h.xs (h.arrivals t), h.holdRange, h.holdClear,
    h.effective, h.drill, h.refresh⟩
  unfold Zone.takeArrival
  dsimp only
  rw [tableSet_get]
  split
  next => exact Nat.zero_le _
  next => exact h.arrivals k

/-- An evaluated record is sound (R128 to R137). -/
theorem evaluatedZone_sound {s : State} {y : Fin 32} (h : (s.zone y).Sound)
    (hc : (s.zoneCfg y).Sound) : (evaluatedZone s y).Sound := by
  have taken := h.takeArrival hc s.rct.seq
  obtain ⟨hold, clear⟩ := levelMachine_bounds hc
    (targetLevel (s.zoneCfg y) ((s.zone y).takeArrival (s.zoneCfg y) s.rct.seq).exposure
      (confirmation s (s.zoneCfg y)))
    ((s.zone y).takeArrival (s.zoneCfg y) s.rct.seq).level taken.holdRange taken.holdClear
  unfold evaluatedZone
  dsimp only
  unfold Zone.countDrill
  split
  next =>
    exact ⟨fun t => by simp [Zone.setDegraded], Nat.zero_le _, Nat.zero_le _,
      ⟨fun _ => rfl, fun _ => rfl⟩, rfl, Nat.zero_le _, taken.refresh⟩
  next =>
    exact ⟨taken.arrivals, taken.xs, hold, clear, rfl, (Nat.sub_le _ _).trans taken.drill,
      taken.refresh⟩

end

/-! ### What events leave of the zones -/

section
variable (s : State)

theorem SignsOnly.refreshPeriod {s t : State} (h : SignsOnly s t) :
    t.out.refreshPeriod = s.out.refreshPeriod := by rw [h.out]

theorem closeRound_stage : (closeRound s).stage = pileStage s 0 := (closeRound_same s).stage

/-- The state right after PJU has posted its shares (R123). -/
def posted : State := (beforePosting s).pju.contributions.foldl postContribution (beforePosting s)

theorem posted_posted :
    Posted
      (fun z k => ((beforePosting s).pju.contributions.map (contributionShare
        (beforePosting s).rct.seq (beforePosting s).pju.active.plume z k)).sum)
      (beforePosting s) (posted s) := postContributions_posted _ _

theorem project_posted :
    project s = ((posted s).setPju { (beforePosting s).pju with contributions := [] }).setStage
      (zoneStage (beforePosting s) 0) := project_eq s

theorem project_rct : (project s).rct = s.rct := by
  rw [project_posted, State.setStage_rct, State.setPju_rct, (posted_posted s).rct,
    (beforePosting_same s).1]

theorem project_stage : (project s).stage = zoneStage (beforePosting s) 0 := by
  rw [project_posted, State.setStage_stage]

theorem project_out : (project s).out = (beforePosting s).out := by
  rw [project_posted, State.setStage_out, State.setPju_out, (posted_posted s).same,
    State.setZnu_out]

theorem project_zone (z : Fin 32) : (project s).zone z = (posted s).zone z := by
  rw [project_posted]
  exact State.zone_congr (by rw [State.setStage_znu, State.setPju_znu]) z

theorem project_zoneEnabled (z : Fin 32) :
    (project s).zoneEnabled z = (beforePosting s).zoneEnabled z := by
  rw [project_posted, State.zoneEnabled, State.zoneCfg, State.setStage_pju, State.setPju_pju]
  rfl

end

/-! ### Every event -/

section
variable {s t : State}

/-- The zones are read from the zone records, which of them are enabled, the operating state, ZNU's
place in its pass, the refresh period and the service records. -/
theorem ZonesSound.congr (h : ZonesSound s) (hzone : ∀ z, t.zone z = s.zone z)
    (hen : ∀ z, t.zoneEnabled z = s.zoneEnabled z) (hop : t.rct.opState = s.rct.opState)
    (hstage : ∀ z, t.stage = .zones z → s.stage = .zones z)
    (hrefresh : t.out.refreshPeriod = s.out.refreshPeriod)
    (hservice : t.out.service = s.out.service) : ZonesSound t := by
  constructor
  case records => intro z; rw [hzone]; exact h.records z
  case disabled => intro z; rw [hzone, hen]; exact h.disabled z
  case config => rw [hop]; intro hc z; rw [hzone]; exact h.config hc z
  case atZone => intro z hz; rw [hen]; exact h.atZone z (hstage z hz)
  case refresh => rw [hrefresh]; exact h.refresh
  case service => rw [hop, hservice]; exact h.service
  case pending => rw [hop, hservice]; intro hc z; rw [hzone]; exact h.pending hc z

theorem ZonesSound.same (h : ZonesSound s) (hznu : t.znu = s.znu)
    (hactive : t.pju.active = s.pju.active) (hop : t.rct.opState = s.rct.opState)
    (hstage : ∀ z, t.stage = .zones z → s.stage = .zones z)
    (hrefresh : t.out.refreshPeriod = s.out.refreshPeriod)
    (hservice : t.out.service = s.out.service) : ZonesSound t :=
  h.congr (State.zone_congr hznu)
    (fun z => by rw [State.zoneEnabled, State.zoneCfg, hactive]; rfl) hop hstage hrefresh hservice

theorem ZonesSound.blocks (h : ZonesSound s) (hsame : SameBlocks s t) : ZonesSound t :=
  h.same hsame.znu (by rw [hsame.pju]) (by rw [hsame.rct]) (fun z hz => by rw [← hz, hsame.stage])
    hsame.refresh hsame.service

/-- In RUN the zone records may become any that are sound and at rest where disabled. -/
theorem ZonesSound.running (h : ZonesSound s) (hrun : t.rct.opState = .run)
    (hrecords : ∀ z, (t.zone z).Sound) (hdisabled : ∀ z, t.zoneEnabled z = false → (t.zone z).AtRest)
    (hstage : ∀ z, t.stage = .zones z → t.zoneEnabled z = true)
    (hrefresh : t.out.refreshPeriod = s.out.refreshPeriod)
    (hservice : ∀ z : Fin 32, t.out.service[z] = []) : ZonesSound t := by
  constructor
  case records => exact hrecords
  case disabled => exact hdisabled
  case config => rw [hrun]; intro hop; cases hop
  case atZone => exact hstage
  case refresh => rw [hrefresh]; exact h.refresh
  case service => exact fun _ => hservice
  case pending => rw [hrun]; intro hop; cases hop

/-- In CONFIG they are at rest, and a service record is held exactly where signs are pending. -/
theorem zonesSound_resting (hop : t.rct.opState = .config) (hrest : ∀ z, (t.zone z).AtRest)
    (hcount : ∀ z, (t.zone z).refresh ≤ 255) (hstage : t.stage = .idle)
    (hrefresh : 1 ≤ t.out.refreshPeriod ∧ t.out.refreshPeriod ≤ 255)
    (hpending : ∀ z : Fin 32, (t.zone z).signPending = true ↔ t.out.service[z] ≠ []) :
    ZonesSound t := by
  constructor
  case records => exact fun z => Zone.Sound.of_rest (hrest z) (hcount z)
  case disabled => exact fun z _ => hrest z
  case config => exact fun _ => hrest
  case atZone => rw [hstage]; intro z hz; cases hz
  case refresh => exact hrefresh
  case service => rw [hop]; intro hrun; cases hrun
  case pending => exact fun _ => hpending

theorem ZonesSound.write {w : Word} (h : ZonesSound s) (hw : Written w s t) : ZonesSound t := by
  cases hw with
  | blocks same => exact h.blocks same
  | round r hop _ hv hr =>
    exact h.same rfl rfl (Rct.write_opState hv hr) (fun _ hz => hz) rfl rfl
  | station | pile => exact h.same rfl rfl rfl (fun _ hz => hz) rfl rfl
  | plume | zoneCfg => exact h.same rfl (Pju.active_setStandby _ _) rfl (fun _ hz => hz) rfl rfl
  | refresh r hlow hhigh =>
    exact ⟨h.records, h.disabled, h.config, h.atZone, ⟨hlow, hhigh⟩, h.service, h.pending⟩

/-! ### START, STOP and the exchange -/

theorem ZonesSound.started (h : ZonesSound s) : ZonesSound (startRun s) := by
  obtain ⟨hlow, hhigh⟩ := h.refresh
  have zone (z : Fin 32) :
      (startedBlocks s).zone z = (s.zone z).start s.out.refreshPeriod z := by
    rw [State.zone]; exact tableMap_get _ _ _
  have rest (z : Fin 32) : ((startedBlocks s).zone z).AtRest := by
    rw [zone]; exact Zone.start_rest _ _ _
  have blocks : ZonesSound (openRound (startedBlocks s)) := by
    rw [openRound_eq]
    refine ZonesSound.running (s := s) h rfl (fun z => ?_) (fun z _ => rest z)
      (fun z hz => by cases hz) rfl (fun z => by simp [startedBlocks])
    refine Zone.Sound.of_rest (rest z) ?_
    change ((startedBlocks s).zone z).refresh ≤ 255
    rw [zone]
    change 1 + z.val % s.out.refreshPeriod ≤ 255
    have := Nat.mod_lt z.val hlow
    omega
  rw [startRun_eq]
  exact blocks.blocks (reevaluate_same _).blocks

/-- What the SERVICE signs of a STOP keep: every zone at rest, and a service record exactly where signs
are pending. -/
structure SignsAtRest (s : State) : Prop where
  rest : ∀ z, (s.zone z).AtRest
  count : ∀ z, (s.zone z).refresh ≤ 255
  pending : ∀ z : Fin 32, (s.zone z).signPending = true ↔ s.out.service[z] ≠ []

theorem SignsAtRest.setPju (h : SignsAtRest s) (p : Pju) : SignsAtRest (s.setPju p) :=
  ⟨h.rest, h.count, h.pending⟩

theorem SignsAtRest.setPending (h : SignsAtRest s) (z : Fin 32) (flag : Bool) (l : List Byte)
    (hl : flag = true ↔ l ≠ []) (x : Tif) :
    SignsAtRest
      (((s.setTif x).setZone z { s.zone z with signPending := flag }).setOut
        { s.out with service := tableSet s.out.service z l }) := by
  have zone (y : Fin 32) :
      (((s.setTif x).setZone z { s.zone z with signPending := flag }).setOut
        { s.out with service := tableSet s.out.service z l }).zone y =
        if y = z then { s.zone z with signPending := flag } else s.zone y :=
    State.zone_setZone (s.setTif x) z y _
  constructor
  case rest =>
    intro y
    rw [zone]
    split
    next => exact (h.rest z).signs rfl
    next => exact h.rest y
  case count =>
    intro y
    rw [zone]
    split
    next => exact h.count z
    next => exact h.count y
  case pending =>
    intro y
    rw [zone]
    change _ ↔ (tableSet s.out.service z l)[y] ≠ []
    rw [tableSet_get]
    split
    next => exact hl
    next => exact h.pending y

theorem SignsAtRest.serviceVisit (h : SignsAtRest s) (z : Fin 32) :
    SignsAtRest (serviceVisit s z) := by
  unfold Machine.serviceVisit
  dsimp only
  split
  next hgroup =>
    split
    next x _ => exact ⟨h.rest, h.count, h.pending⟩
    next =>
      rw [Bool.and_eq_true, Bool.not_eq_true', List.isEmpty_eq_false_iff] at hgroup
      exact h.setPending z true _ ⟨fun _ => hgroup.2, fun _ => rfl⟩ s.tif
  next => exact h

theorem SignsAtRest.drainVisit (h : SignsAtRest s) (z : Fin 32) :
    SignsAtRest (drainVisit s z) := by
  unfold Machine.drainVisit
  split
  next =>
    split
    next x _ => exact h.setPending z false [] ⟨nofun, fun hl => absurd rfl hl⟩ x
    next => exact h
  next => exact h

theorem SignsAtRest.serviceSigns (h : SignsAtRest s) : SignsAtRest (serviceSigns s) :=
  List.foldlRecOn _ _ h fun _ hu z _ => hu.serviceVisit z

theorem ZonesSound.stopped (h : ZonesSound s) : ZonesSound (stopRun s) := by
  have zone (z : Fin 32) : (stoppedBlocks s).zone z = (s.zone z).stopped := by
    rw [State.zone]; exact tableMap_get _ _ _
  have blocks : SignsAtRest (stoppedBlocks s) := by
    constructor
    case rest => intro z; rw [zone]; exact Zone.stopped_rest _
    case count => intro z; rw [zone]; exact (h.records z).refresh
    case pending =>
      intro z
      rw [zone]
      simp [Zone.stopped, stoppedBlocks]
  have signs := serviceSigns_signs (stoppedBlocks s)
  have served := blocks.serviceSigns.setPju (stoppedPju s.pju)
  rw [stopRun_eq]
  refine ZonesSound.blocks ?_ (reevaluate_same _).blocks
  refine zonesSound_resting ?_ served.rest served.count ?_ ?_ served.pending
  · rw [State.setPju_rct, signs.rct]; rfl
  · rw [State.setPju_stage, signs.stage]; rfl
  · rw [State.setPju_out, signs.refreshPeriod]; exact h.refresh

theorem exchangedBlocks_zone (s : State) (z : Fin 32) :
    (exchangedBlocks s).zone z =
      if disabledByExchange s.pju z then (s.zone z).stopped else s.zone z := by
  rw [State.zone]; exact tableMap_get _ _ _

theorem exchangedBlocks_service (s : State) (z : Fin 32) :
    (exchangedBlocks s).out.service[z] =
      if disabledByExchange s.pju z then [] else s.out.service[z] := tableMap_get _ _ _

theorem exchangedBlocks_refresh (s : State) :
    (exchangedBlocks s).out.refreshPeriod = s.out.refreshPeriod := by simp only [exchangedBlocks]

theorem exchangedBlocks_zoneEnabled (s : State) (z : Fin 32) :
    (exchangedBlocks s).zoneEnabled z = s.pju.standby.zones[z].enable := by
  rw [State.zoneEnabled, State.zoneCfg]
  exact congrArg (fun b : Bank => b.zones[z].enable) (exchanged_active s.pju)

/-- An exchange leaves a zone that it disables, and every other zone that is disabled, at rest
(R117). -/
theorem ZonesSound.exchanged (h : ZonesSound s) (hstage : ∀ z, s.stage ≠ .zones z) :
    ZonesSound (exchange s) := by
  refine ZonesSound.blocks ?_ (exchange_same s).blocks
  constructor
  case records =>
    intro z
    rw [exchangedBlocks_zone]
    split
    next => exact Zone.Sound.of_rest (Zone.stopped_rest _) (h.records z).refresh
    next => exact h.records z
  case disabled =>
    intro z hz
    rw [exchangedBlocks_zoneEnabled] at hz
    rw [exchangedBlocks_zone]
    split
    next => exact Zone.stopped_rest _
    next hkept =>
      refine h.disabled z ?_
      by_contra hen
      rw [Bool.not_eq_false] at hen
      refine hkept ?_
      rw [disabledByExchange, hz, Bool.not_false, Bool.and_true]
      exact hen
  case config =>
    intro hop z
    rw [exchangedBlocks_zone]
    split
    next => exact Zone.stopped_rest _
    next => exact h.config hop z
  case atZone => exact fun z hz => absurd hz (hstage z)
  case refresh => rw [exchangedBlocks_refresh]; exact h.refresh
  case service =>
    intro hrun z
    rw [exchangedBlocks_service, h.service hrun z, ite_self]
  case pending =>
    intro hop z
    rw [exchangedBlocks_zone, exchangedBlocks_service]
    split
    next => exact ⟨nofun, fun hl => absurd rfl hl⟩
    next => exact h.pending hop z

/-! ### The evaluation -/

theorem ZonesSound.projected (h : ZonesSound s) (hrun : s.rct.opState = .run)
    (hs : s.stage = .projecting) : ZonesSound (project s) := by
  have before : ZonesSound (beforePosting s) := by
    unfold beforePosting
    split
    next => exact h.exchanged (by rw [hs]; simp)
    next => exact h
  have shares := posted_posted s
  have op : (beforePosting s).rct.opState = .run := by rw [(beforePosting_same s).1, hrun]
  refine ZonesSound.running before ?_ (fun z => ?_) (fun z hz => ?_) (fun z hz => ?_)
    (by rw [project_out]) (fun z => ?_)
  · rw [project_rct, hrun]
  · rw [project_zone, shares.zone z]
    have old := before.records z
    exact ⟨shares.bounded (fun y => (before.records y).arrivals) z, old.xs, old.holdRange,
      old.holdClear, old.effective, old.drill, old.refresh⟩
  · rw [project_zoneEnabled] at hz
    rw [project_zone, shares.disabled z hz]
    exact before.disabled z hz
  · rw [project_stage] at hz
    rw [project_zoneEnabled]
    rcases zoneStage_cases (beforePosting s) 0 with ⟨y, hy, -, hen⟩ | hy <;> rw [hy] at hz
    · cases hz; exact hen
    · cases hz
  · rw [project_out]
    exact before.service op z

theorem ZonesSound.evaluated (h : ZonesSound s) (hbanks : BanksSound s)
    (hrun : s.rct.opState = .run) {y : Fin 32} (hs : s.stage = .zones y) :
    ZonesSound (evaluateZone y s) := by
  have same := evaluateZone_same y s
  have enabled (z : Fin 32) : (evaluateZone y s).zoneEnabled z = s.zoneEnabled z :=
    zoneEnabled_congr same.pju z
  have service : (evaluateZone y s).out.service = s.out.service := by rw [same.out]
  refine ZonesSound.running h (by rw [same.rct]; exact hrun) (fun z => ?_) (fun z hz => ?_)
    (fun z hz => ?_) (by rw [same.out]) (fun z => ?_)
  · rw [evaluateZone_zone]
    split
    next => exact evaluatedZone_sound (h.records y) (hbanks.active.zones y)
    next => exact h.records z
  · have off : s.zoneEnabled z = false := by rw [← enabled z, hz]
    rw [evaluateZone_zone]
    split
    next hzy => rw [hzy, h.atZone y hs] at off; cases off
    next => exact h.disabled z off
  · rw [evaluateZone_stage] at hz
    refine (enabled z).trans ?_
    rcases zoneStage_cases s (y.val + 1) with ⟨x, hx, -, hen⟩ | hx <;> rw [hx] at hz
    · cases hz; exact hen
    · cases hz
  · rw [service]
    exact h.service hrun z

/-- OUT's sign pass visits a zone in RUN (R156). -/
theorem ZonesSound.signed (h : ZonesSound s) (hrun : s.rct.opState = .run) (y : Fin 32) :
    ZonesSound (signVisit s y) := by
  have signs := signVisit_signs s y
  have refresh (z : Fin 32) : ((signVisit s y).zone z).refresh ≤ 255 := by
    have old (z : Fin 32) := (h.records z).refresh
    have set (x : Zone) (u : State) (hu : u.znu = s.znu) (hx : x.refresh ≤ 255) :
        ((u.setZone y x).zone z).refresh ≤ 255 := by
      rw [State.zone_setZone]
      split
      next => exact hx
      next => rw [State.zone_congr hu]; exact old z
    have counted : ((s.zone y).countRefresh).refresh ≤ 255 := (Nat.sub_le _ _).trans (old y)
    unfold signVisit
    dsimp only
    split
    next =>
      split
      next =>
        split
        next => exact set _ _ rfl h.refresh.2
        next => exact set _ _ rfl counted
      next => exact set _ _ rfl counted
    next => exact old z
  have service : (signVisit s y).out = s.out := by
    unfold signVisit
    dsimp only
    split
    next =>
      split
      next => split <;> rfl
      next => rfl
    next => rfl
  refine ZonesSound.running h (by rw [signs.rct]; exact hrun) (fun z => ?_) (fun z hz => ?_)
    (fun z hz => ?_) (by rw [service]) (fun z => ?_)
  · exact (h.records z).signs (signs.zone z) (refresh z)
  · exact (h.disabled z (by rw [← signs.zoneEnabled z, hz])).signs (signs.zone z)
  · rw [signs.zoneEnabled]
    exact h.atZone z (by rw [← signs.stage, hz])
  · simp only [service]
    exact h.service hrun z

theorem ZonesSound.drained (h : ZonesSound s) (hop : s.rct.opState = .config)
    (hstage : s.stage = .idle) (y : Fin 32) : ZonesSound (drainVisit s y) := by
  have signs := drainVisit_signs s y
  have drained := SignsAtRest.drainVisit
    (⟨h.config hop, fun z => (h.records z).refresh, h.pending hop⟩ : SignsAtRest s) y
  exact zonesSound_resting (by rw [signs.rct]; exact hop) drained.rest drained.count
    (by rw [signs.stage]; exact hstage) (by rw [signs.refreshPeriod]; exact h.refresh) drained.pending

/-! ### Drills and RELAX -/

theorem ZonesSound.relaxed (h : ZonesSound s) (hrun : s.rct.opState = .run) {y : Fin 32}
    (hlevel : (s.zone y).level ≠ .clear) :
    ZonesSound (s.setZone y { s.zone y with hold := min (s.zone y).hold 2 }) := by
  refine ZonesSound.running h hrun (fun z => ?_) (fun z hz => ?_) (fun z hz => h.atZone z hz) rfl
    (h.service hrun)
  · rw [State.zone_setZone]
    split
    next =>
      have old := h.records y
      have raised : (s.zone y).hold ≠ 0 := fun hh => hlevel (old.holdClear.mp hh)
      have range := old.holdRange
      refine ⟨old.arrivals, old.xs, ?_, ⟨fun hh => ?_, fun hl => absurd hl hlevel⟩, old.effective,
        old.drill, old.refresh⟩
      · change min (s.zone y).hold 2 ≤ 255
        omega
      · change min (s.zone y).hold 2 = 0 at hh
        omega
    next => exact h.records z
  · rw [State.zone_setZone]
    split
    next hzy => exact absurd (h.disabled y (hzy ▸ hz)).level hlevel
    next => exact h.disabled z hz

/-- Drill timers of enabled zones may take any value up to 255 in RUN, and those of disabled zones
stay 0. -/
theorem ZonesSound.timers (h : ZonesSound s) (hrun : s.rct.opState = .run)
    {timer : Fin 32 → Zone → Nat} (hrange : ∀ z, timer z (s.zone z) ≤ 255)
    (hzero : ∀ z, s.zoneEnabled z = false → timer z (s.zone z) = 0) :
    ZonesSound (s.mapZones fun z r => { r with drillTimer := timer z r }) := by
  have enabled (z : Fin 32) :
      (s.mapZones fun z r => { r with drillTimer := timer z r }).zoneEnabled z = s.zoneEnabled z :=
    zoneEnabled_congr (State.mapZones_pju s _) z
  refine ZonesSound.running h (by rw [State.mapZones_rct]; exact hrun) (fun z => ?_)
    (fun z hz => ?_) (fun z hz => ?_) (by rw [State.mapZones_out])
    (fun z => by rw [State.mapZones_out]; exact h.service hrun z)
  · rw [State.zone_mapZones]
    have old := h.records z
    exact ⟨old.arrivals, old.xs, old.holdRange, old.holdClear, old.effective, hrange z, old.refresh⟩
  · rw [enabled] at hz
    rw [State.zone_mapZones]
    have old := h.disabled z hz
    exact ⟨old.arrivals, old.xs, old.level, old.hold, old.degraded, hzero z hz, old.effective⟩
  · rw [State.mapZones_stage] at hz
    rw [enabled]
    exact h.atZone z hz

theorem ZonesSound.sampled {c : SampleCopy} (h : ZonesSound s) (hs : Sampled c s t) :
    ZonesSound t := by
  obtain ⟨hop, -, hpju, -, hservice, hrefresh, -, -, hzone⟩ := hs.kept
  refine h.congr hzone (zoneEnabled_congr hpju) hop ?_ hrefresh hservice
  cases hs with
  | closed =>
    rw [closeRound_stage]
    intro z hz
    rcases pileStage_cases (countedOff (samplePlaced c s)) 0 with ⟨p, hp, -⟩ | hp <;> rw [hp] at hz
    all_goals cases hz
  | _ => exact fun _ hz => hz

end

/-- The zones are sound beside sound rounds and banks. -/
structure ZonesKept (s : State) : Prop where
  rounds : RoundsSound s
  banks : BanksSound s
  zones : ZonesSound s

theorem RoundsSound.run_of_stage {s : State} (h : RoundsSound s) (hs : s.stage ≠ .idle) :
    s.rct.opState = .run := h.run_of_phase (by rw [h.chain.mpr hs]; decide)

/-- Every event keeps the zones sound. -/
theorem zonesKept_kept : BlockKept ZonesKept where
  congr same h := ⟨h.rounds.blocks same, h.banks.blocks same, h.zones.blocks same⟩
  copyStarts r h hf hp :=
    ⟨roundsSound_kept.copyStarts r h.rounds hf hp, banksSound_kept.copyStarts r h.banks hf hp,
      h.zones.same rfl rfl rfl (fun _ hz => hz) rfl rfl⟩
  copyEnds r h hx :=
    ⟨roundsSound_kept.copyEnds r h.rounds hx, banksSound_kept.copyEnds r h.banks hx,
      h.zones.same rfl (Pju.active_setStandby _ _) rfl (fun _ hz => hz) rfl rfl⟩
  read {s} u t i f h :=
    have reads := clearOnRead_reads u t i f s
    ⟨roundsSound_kept.read u t i f h.rounds, banksSound_kept.read u t i f h.banks,
      h.zones.same reads.znu (by rw [reads.pju]) (by rw [reads.rct])
        (fun z hz => by rw [← hz, reads.stage]) (by rw [reads.out]) (by rw [reads.out])⟩
  write u n i f w t status h hf hw :=
    ⟨roundsSound_kept.write u n i f w t status h.rounds hf hw,
      banksSound_kept.write u n i f w t status h.banks hf hw, h.zones.write (writeField_written hw)⟩
  start r h hf hr :=
    ⟨roundsSound_kept.start r h.rounds hf hr, banksSound_kept.start r h.banks hf hr,
      h.zones.started⟩
  stop h hf hrun :=
    ⟨roundsSound_kept.stop h.rounds hf hrun, banksSound_kept.stop h.banks hf hrun, h.zones.stopped⟩
  probe h hop hp :=
    ⟨roundsSound_kept.probe h.rounds hop hp, banksSound_kept.probe h.banks hop hp,
      h.zones.same rfl rfl rfl (fun _ hz => hz) rfl rfl⟩
  swapNow {s} h hf hp hv hop := by
    refine ⟨roundsSound_kept.swapNow h.rounds hf hp hv hop,
      banksSound_kept.swapNow h.banks hf hp hv hop, ?_⟩
    have validated : ZonesSound (s.setPju s.pju.validated) :=
      h.zones.same rfl (Pju.active_setStandby _ _) rfl (fun _ hz => hz) rfl rfl
    refine validated.exchanged fun z => ?_
    rw [State.setPju_stage, h.rounds.config_stage hop]
    simp
  swapLater h hf hp hv hop :=
    ⟨roundsSound_kept.swapLater h.rounds hf hp hv hop, banksSound_kept.swapLater h.banks hf hp hv hop,
      h.zones.same rfl (Pju.active_setStandby _ _) rfl (fun _ hz => hz) rfl rfl⟩
  admission i h :=
    ⟨roundsSound_kept.admission i h.rounds, banksSound_kept.admission i h.banks,
      h.zones.same rfl rfl rfl (fun _ hz => hz) rfl rfl⟩
  relax z h hrun hl :=
    ⟨roundsSound_kept.relax z h.rounds hrun hl, banksSound_kept.relax z h.banks hrun hl,
      h.zones.relaxed hrun hl⟩
  drill {s} half mask d h hrun hlow hhigh := by
    refine ⟨roundsSound_kept.drill half mask d h.rounds hrun hlow hhigh,
      banksSound_kept.drill half mask d h.banks hrun hlow hhigh, ?_⟩
    have timers := h.zones.timers hrun
      (timer := fun z r => if drillSets half mask s z then d else r.drillTimer)
      (fun z => by split <;> [exact hhigh; exact (h.zones.records z).drill])
      (fun z hz => by
        rw [drillSets, hz, Bool.and_false, if_neg (by decide)]
        exact (h.zones.disabled z hz).drill)
    convert timers using 3
    split <;> rfl
  endDrill {s} half mask h hrun := by
    refine ⟨roundsSound_kept.endDrill half mask h.rounds hrun,
      banksSound_kept.endDrill half mask h.banks hrun, ?_⟩
    have timers := h.zones.timers hrun
      (timer := fun z r => if maskNames half mask z then min r.drillTimer 2 else r.drillTimer)
      (fun z => by have := (h.zones.records z).drill; split <;> omega)
      (fun z hz => by rw [(h.zones.disabled z hz).drill, Nat.zero_min, ite_self])
    unfold endDrillZones
    convert timers using 3
    split <;> rfl
  closing {s} h hrun hopen := by
    refine ⟨roundsSound_kept.closing h.rounds hrun hopen,
      banksSound_kept.closing h.banks hrun hopen, ?_⟩
    refine h.zones.congr (fun _ => rfl) (fun _ => rfl) rfl (fun z hz => ?_) rfl rfl
    change pileStage s 0 = _ at hz
    rcases pileStage_cases s 0 with ⟨p, hp, -⟩ | hp <;> rw [hp] at hz
    all_goals cases hz
  expiry h hrun hclosed hr :=
    ⟨roundsSound_kept.expiry h.rounds hrun hclosed hr, banksSound_kept.expiry h.banks hrun hclosed hr,
      h.zones.same rfl rfl rfl (fun _ hz => hz) rfl rfl⟩
  probeEnd h hp :=
    ⟨roundsSound_kept.probeEnd h.rounds hp, banksSound_kept.probeEnd h.banks hp,
      h.zones.same rfl rfl rfl (fun _ hz => hz) rfl rfl⟩
  pile {s} p h hs := by
    refine ⟨roundsSound_kept.pile p h.rounds hs, banksSound_kept.pile p h.banks hs, ?_⟩
    have same := visitPile_same p s
    refine h.zones.same same.znu (by rw [same.pju]; rfl) (by rw [same.rct]) (fun z hz => ?_)
      (by rw [same.out]) (by rw [same.out])
    rw [visitPile_stage] at hz
    rcases pileStage_cases s (p.val + 1) with ⟨q, hq, -⟩ | hq <;> rw [hq] at hz
    all_goals cases hz
  projection h hs :=
    ⟨roundsSound_kept.projection h.rounds hs, banksSound_kept.projection h.banks hs,
      h.zones.projected (h.rounds.run_of_stage (by rw [hs]; simp)) hs⟩
  zone z h hs :=
    ⟨roundsSound_kept.zone z h.rounds hs, banksSound_kept.zone z h.banks hs,
      h.zones.evaluated h.banks (h.rounds.run_of_stage (by rw [hs]; simp)) hs⟩
  completion {s} h hs := by
    refine ⟨roundsSound_kept.completion h.rounds hs, banksSound_kept.completion h.banks hs, ?_⟩
    rw [completed_eq]
    exact h.zones.congr (fun _ => rfl) (fun _ => rfl) rfl (fun z hz => by cases hz) rfl rfl
  sign z h₀ hs hop h :=
    ⟨roundsSound_kept.sign z h₀.rounds hs hop h.rounds, banksSound_kept.sign z h₀.banks hs hop h.banks,
      h.zones.signed (hop.trans (h₀.rounds.run_of_stage (by rw [hs]; simp))) z⟩
  drain z h hop :=
    ⟨roundsSound_kept.drain z h.rounds hop, banksSound_kept.drain z h.banks hop,
      h.zones.drained hop (h.rounds.config_stage hop) z⟩
  sample c h :=
    ⟨roundsSound_kept.sample c h.rounds, banksSound_kept.sample c h.banks,
      h.zones.sampled (takeSample_sampled c _)⟩
  yard y h := by
    refine ⟨roundsSound_kept.yard y h.rounds, banksSound_kept.yard y h.banks, ?_⟩
    unfold takeYard
    split
    next => exact h.zones.same rfl rfl rfl (fun _ hz => hz) rfl rfl
    next => exact h.zones.same rfl rfl rfl (fun _ hz => hz) rfl rfl

theorem zonesSound_reset (l : List Instr) (held : Option ResetCause) (x : Tif)
    (stu : Vector Station 48) (m : Mgu) :
    ZonesSound
      { State.reset with pending := l, resetHeld := held, tif := x, stu := stu, mgu := m } := by
  have zone (z : Fin 32) : State.reset.zone z = Zone.cleared := by
    simp [State.zone, State.reset, Znu.cleared]
  have service (z : Fin 32) : State.reset.out.service[z] = [] := by
    simp [State.reset, Out.cleared]
  have blocks : ZonesSound State.reset := by
    refine zonesSound_resting rfl (fun z => ?_) (fun z => ?_) rfl
      ⟨Nat.le_of_ble_eq_true rfl, Nat.le_of_ble_eq_true rfl⟩ (fun z => ?_)
    · rw [zone]
      exact ⟨replicate_arrivals, rfl, rfl, rfl, rfl, rfl, rfl⟩
    · rw [zone]
      exact Nat.le_of_ble_eq_true rfl
    · rw [zone, service]
      exact ⟨nofun, fun hl => absurd rfl hl⟩
  exact blocks.same rfl rfl rfl (fun _ hz => hz) rfl rfl

theorem zonesKept_keptByResets : KeptByResets ZonesKept where
  powerOn s t h hstep := by
    refine ⟨roundsSound_keptByResets.powerOn s t h.rounds hstep,
      banksSound_keptByResets.powerOn s t h.banks hstep, ?_⟩
    cases hstep
    exact zonesSound_reset _ _ _ _ _
  pin s t h hstep := by
    refine ⟨roundsSound_keptByResets.pin s t h.rounds hstep,
      banksSound_keptByResets.pin s t h.banks hstep, ?_⟩
    cases hstep
    exact zonesSound_reset _ _ _ _ _
  release cause addr h hheld :=
    ⟨roundsSound_keptByResets.release cause addr h.rounds hheld,
      banksSound_keptByResets.release cause addr h.banks hheld,
      h.zones.same rfl rfl rfl (fun _ hz => hz) rfl rfl⟩
  commands l h :=
    ⟨roundsSound_keptByResets.commands l h.rounds, banksSound_keptByResets.commands l h.banks,
      h.zones.same rfl rfl rfl (fun _ hz => hz) rfl rfl⟩

theorem ZonesKept.passTime {s : State} (h : ZonesKept s) (hr : RoundsSound s.passTime) :
    ZonesKept s.passTime :=
  ⟨hr, h.banks.passTime, h.zones.same rfl rfl rfl (fun _ hz => hz) rfl rfl⟩

theorem zonesKept_keptInTime : Kept ZonesKept :=
  { zonesKept_kept.keptNow with
    millisecond := fun h hs => hs.passTime h.rounds.settled.passTime }

/-- Settles O50: every event of sound rounds and banks keeps the zones sound. -/
theorem everyStepKeepsTheZonesSound : Obligations.EveryStepKeepsTheZonesSound := by
  intro s t hrounds hbanks hzones hstep
  exact (zonesKept_keptInTime.step zonesKept_keptByResets ⟨hrounds, hbanks, hzones⟩ hstep).zones

end Sys2Proof.Machine
end

section
/-! Proofs about TIF (chapter 1): what every operation of the trunk keeps of its capacities, and that
only an idle port with nothing to send stays idle. -/

namespace Sys2Proof.Machine

/-- One port keeps its capacities with `n` reservations and this MARK to send, and is, where `awake`,
idle only with nothing to send (R4, R5, R11 to R14). -/
structure PortKept (n : Nat) (mark : Option Frame) (awake : Prop) (x : PortState) : Prop where
  framer : x.framer.Sound
  transit : x.transit.length ≤ 8
  queue : x.queue.length + n ≤ 16
  reserved : x.reserved = n
  idle : awake → x.sending = none → x.transit = [] ∧ x.queue = [] ∧ mark = none

/-- Both ports do, with `held` reservations, but that a port that is `resting` may have yet to
select. -/
def TifSound (held : Port → Nat) (resting : Port → Prop) (t : Tif) : Prop :=
  ∀ p, PortKept (held p) (t.markFor p) (¬ resting p) (t.port p)

/-- No port has yet to select. -/
def nowhere : Port → Prop := fun _ => False

section
variable {held held' : Port → Nat} {resting resting' : Port → Prop} {t u : Tif} {p : Port}

@[simp] theorem Tif.markFor_modPort (t : Tif) (p q : Port) (g : PortState → PortState) :
    (t.modPort p g).markFor q = t.markFor q := by
  cases q <;> simp [Tif.markFor, Tif.modPort_markSlot]

theorem TifSound.mono (h : TifSound held resting t) (hr : ∀ q, resting q → resting' q) :
    TifSound held resting' t := fun q =>
  ⟨(h q).framer, (h q).transit, (h q).queue, (h q).reserved,
    fun ha => (h q).idle fun hq => ha (hr q hq)⟩

/-! ### Selection (R14) -/

/-- A port that has selected is idle only with nothing to send. -/
theorem PortKept.selected {n : Nat} {awake awake' : Prop} {x : PortState}
    (h : PortKept n none awake x) : PortKept n none awake' x.select := by
  obtain ⟨framer, transit, queue, reserved, -⟩ := h
  unfold PortState.select
  split
  next f fs q qs ht hq =>
    have fits : fs.length ≤ 8 := by rw [ht, List.length_cons] at transit; omega
    have room : qs.length + n ≤ 16 := by rw [hq, List.length_cons] at queue; omega
    split
    next => exact ⟨framer, fits, queue, reserved, nofun⟩
    next => exact ⟨framer, transit, room, reserved, nofun⟩
  next f fs ht hq =>
    have fits : fs.length ≤ 8 := by rw [ht, List.length_cons] at transit; omega
    exact ⟨framer, fits, queue, reserved, nofun⟩
  next q qs ht hq =>
    have room : qs.length + n ≤ 16 := by rw [hq, List.length_cons] at queue; omega
    exact ⟨framer, transit, room, reserved, nofun⟩
  next ht hq => exact ⟨framer, transit, queue, reserved, fun _ _ => ⟨ht, hq, rfl⟩⟩

theorem Tif.port_setMark (t : Tif) (m : Option Frame) (p : Port) :
    ({ t with markSlot := m } : Tif).port p = t.port p := by cases p <;> rfl

/-- A selection keeps the capacities, and its port has then selected. -/
theorem TifSound.select (h : TifSound held resting t) (p : Port) :
    TifSound held (fun q => resting q ∧ q ≠ p) (t.select p) := by
  intro q
  cases hm : t.markFor p with
  | some m =>
    have cleared : ({ t with markSlot := none } : Tif).markFor q = none := by cases q <;> rfl
    rw [Tif.select_mark t p m hm, Tif.markFor_modPort, Tif.port_modPort, cleared, Tif.port_setMark]
    obtain ⟨framer, transit, queue, reserved, idle⟩ := h q
    split
    next => exact ⟨framer, transit, queue, reserved, nofun⟩
    next hq =>
      refine ⟨framer, transit, queue, reserved, fun ha hs => ?_⟩
      obtain ⟨htransit, hqueue, -⟩ := idle (fun hr => ha ⟨hr, hq⟩) hs
      exact ⟨htransit, hqueue, rfl⟩
  | none =>
    rw [Tif.select_sources t p hm, Tif.markFor_modPort, Tif.port_modPort]
    split
    next hq =>
      have own := h p
      rw [hm] at own
      rw [hq, hm]
      exact own.selected
    next hq =>
      obtain ⟨framer, transit, queue, reserved, idle⟩ := h q
      exact ⟨framer, transit, queue, reserved, fun ha => idle fun hr => ha ⟨hr, hq⟩⟩

/-- A port that is woken has selected, or sends. -/
theorem TifSound.wake (h : TifSound held (fun q => resting q ∨ q = p) t) :
    TifSound held resting (t.wake p) := by
  cases hs : (t.port p).sending with
  | none =>
    rw [Tif.wake_idle t p hs]
    exact (h.select p).mono fun q hq => hq.1.resolve_right hq.2
  | some f =>
    rw [Tif.wake_busy t p (by rw [hs]; rfl)]
    intro q
    obtain ⟨framer, transit, queue, reserved, idle⟩ := h q
    refine ⟨framer, transit, queue, reserved, fun ha hq => ?_⟩
    by_cases hqp : q = p
    · rw [hqp, hs] at hq; cases hq
    · exact idle (fun hr => hr.elim ha hqp) hq

/-! ### What enters the sources (R11 to R13) -/

/-- A port whose sources change keeps its capacities where they say so, and has yet to select. -/
theorem TifSound.changed (h : TifSound held resting t) {g : PortState → PortState}
    (hheld : ∀ q, q ≠ p → held' q = held q) (hframer : (g (t.port p)).framer = (t.port p).framer)
    (htransit : (g (t.port p)).transit.length ≤ 8)
    (hqueue : (g (t.port p)).queue.length + held' p ≤ 16)
    (hreserved : (g (t.port p)).reserved = held' p) :
    TifSound held' (fun q => resting q ∨ q = p) (t.modPort p g) := by
  intro q
  rw [Tif.markFor_modPort, Tif.port_modPort]
  split
  next hq =>
    subst hq
    exact ⟨by rw [hframer]; exact (h q).framer, htransit, hqueue, hreserved,
      fun ha => absurd (.inr rfl) ha⟩
  next hq =>
    rw [hheld q hq]
    obtain ⟨framer, transit, queue, reserved, idle⟩ := h q
    exact ⟨framer, transit, queue, reserved, fun ha => idle fun hr => ha (.inl hr)⟩

theorem TifSound.offered (h : TifSound held resting t) {group : List Frame}
    (ho : t.offer p group = some u) : TifSound held resting u := by
  rw [Tif.offer_spec] at ho
  split at ho
  next hroom =>
    cases ho
    have own := h p
    refine (h.changed (fun _ _ => rfl) rfl own.transit ?_ own.reserved).wake
    have fits := own.queue
    rw [PortState.room, Config.queueDepth, own.reserved] at hroom
    rw [List.length_append]
    omega
  next => cases ho

theorem TifSound.enteredTransit (h : TifSound held resting t) {f : Frame}
    (he : t.enterTransit p f = some u) : TifSound held (fun q => resting q ∨ q = p) u := by
  unfold Tif.enterTransit at he
  split at he
  next hroom =>
    cases he
    refine h.changed (fun _ _ => rfl) rfl ?_ (h p).queue (h p).reserved
    rw [List.length_append]
    exact hroom
  next => cases he

theorem TifSound.placedMark (h : TifSound held resting t) (m : Frame) :
    TifSound held resting (t.placeMark m) := by
  unfold Tif.placeMark
  refine TifSound.wake fun q => ?_
  rw [Tif.port_setMark]
  obtain ⟨framer, transit, queue, reserved, idle⟩ := h q
  refine ⟨framer, transit, queue, reserved, fun ha hs => ?_⟩
  rw [not_or] at ha
  obtain ⟨htransit, hqueue, -⟩ := idle ha.1 hs
  cases q with
  | field => exact absurd rfl ha.2
  | quay => exact ⟨htransit, hqueue, rfl⟩

/-- A change of counters, or of the framer to a sound one, keeps the capacities. -/
theorem TifSound.received (h : TifSound held resting t) (p : Port) {g : PortState → PortState}
    (hg : ∀ x, (g x).transit = x.transit ∧ (g x).queue = x.queue ∧ (g x).reserved = x.reserved ∧
      (g x).sending = x.sending)
    (hframer : (g (t.port p)).framer.Sound) : TifSound held resting (t.modPort p g) := by
  intro q
  rw [Tif.markFor_modPort, Tif.port_modPort]
  split
  next hq =>
    subst hq
    obtain ⟨htransit, hqueue, hreserved, hsending⟩ := hg (t.port q)
    obtain ⟨framer, transit, queue, reserved, idle⟩ := h q
    constructor
    case framer => exact hframer
    case transit => rw [htransit]; exact transit
    case queue => rw [hqueue]; exact queue
    case reserved => rw [hreserved]; exact reserved
    case idle => rw [htransit, hqueue, hsending]; exact idle
  next => exact h q

theorem TifSound.counted (h : TifSound held resting t) (p : Port) {g : PortState → PortState}
    (hg : CountsOnly g) : TifSound held resting (t.modPort p g) := by
  refine h.received p (fun x => ?_) ?_
  · obtain ⟨-, htransit, hqueue, hreserved, hsending, -⟩ := hg x
    exact ⟨htransit, hqueue, hreserved, hsending⟩
  · rw [(hg (t.port p)).1]
    exact (h p).framer

/-- A place is reserved where there is room (R12). -/
theorem TifSound.reserved (h : TifSound held resting t) (hroom : 1 ≤ (t.port p).room) :
    TifSound (fun q => if p = q then held q + 1 else held q) resting (t.reserve p) := by
  intro q
  unfold Tif.reserve
  rw [Tif.markFor_modPort, Tif.port_modPort]
  obtain ⟨framer, transit, queue, reserved, idle⟩ := h q
  split
  next hq =>
    subst hq
    beta_reduce
    rw [if_pos rfl]
    rw [PortState.room, Config.queueDepth, reserved] at hroom
    exact ⟨framer, transit, by dsimp only; omega, by dsimp only; rw [reserved], idle⟩
  next hq =>
    beta_reduce
    rw [if_neg (Ne.symm hq)]
    exact ⟨framer, transit, queue, reserved, idle⟩

/-- A response enters its reserved place (R12). -/
theorem TifSound.responded (h : TifSound held resting t) {f : Frame} (hp : held p = 1) :
    TifSound (fun q => if p = q then 0 else held q) resting (t.enterReserved p f) := by
  unfold Tif.enterReserved
  have own := h p
  rw [hp] at own
  have queue := own.queue
  refine (h.changed (fun q hq => if_neg (Ne.symm hq)) rfl own.transit ?_ ?_).wake
  · rw [if_pos rfl, List.length_append, List.length_singleton]
    omega
  · rw [if_pos rfl]
    dsimp only
    rw [own.reserved]

end

/-! ### Framers (R3 to R5) -/

theorem FrameClass.frameBytes_bounds (c : FrameClass) : 12 ≤ c.frameBytes ∧ c.frameBytes ≤ 16 := by
  cases c <;> decide

/-- A framer never holds more than its frame may have. -/
theorem Framer.on_sound {f : Framer} (h : f.Sound) (rx : Line) : (f.on rx).next.Sound := by
  cases rx with
  | idle =>
    cases f with
    | unknown bytes pair => exact h
    | _ => trivial
  | byte b =>
    cases f with
    | hunt => unfold Framer.on Framer.onByte; dsimp only; split <;> trivial
    | sawA6 =>
      unfold Framer.on Framer.onByte
      dsimp only
      split_ifs <;> trivial
    | header =>
      unfold Framer.on Framer.onByte
      dsimp only
      split
      next c _ =>
        have bounds := c.frameBytes_bounds
        exact ⟨Nat.le_refl 3, show 3 < c.frameBytes by omega, bounds.2⟩
      next => exact ⟨Nat.le_refl 3, show 3 < 64 by decide⟩
    | known bytes length =>
      obtain ⟨hlow, hlen, hhigh⟩ := h
      unfold Framer.on Framer.onByte knownByte
      dsimp only
      split
      next hmore =>
        rw [List.length_append, List.length_singleton] at hmore
        exact ⟨by rw [List.length_append]; omega, by rw [List.length_append]; exact hmore, hhigh⟩
      next => trivial
    | unknown bytes pair =>
      obtain ⟨hlow, hlen⟩ := h
      unfold Framer.on Framer.onByte unknownByte
      dsimp only
      split_ifs with hsync hmore
      · trivial
      · exact ⟨by rw [List.length_append]; omega, hmore⟩
      · trivial

theorem framerAfter_sound (f : Frame) : (framerAfter f).Sound := by
  unfold framerAfter
  split <;> trivial

/-! ### The operations events are made of -/

/-- `Q` is kept by what the events of the other blocks do to TIF: groups are offered, MARKs are
placed, and counters and tallies change. -/
structure KeptByTraffic (Q : Tif → Prop) : Prop where
  offer : ∀ {t u} p group, t.offer p group = some u → Q t → Q u
  mark : ∀ {t} m, Q t → Q (t.placeMark m)
  counts : ∀ {t} p g, CountsOnly g → Q t → Q (t.modPort p g)

theorem tifSound_keptByTraffic (held : Port → Nat) (resting : Port → Prop) :
    KeptByTraffic (TifSound held resting) :=
  ⟨fun _ _ ho h => h.offered ho, fun m h => h.placedMark m, fun p _ hg h => h.counted p hg⟩

/-- From `s` to `t` TIF has kept `Q`, and the requests that wait or execute are the same. -/
structure Moved (Q : Tif → Prop) (s t : State) : Prop where
  tif : Q s.tif → Q t.tif
  requests : t.mgu.requests = s.mgu.requests
  executing : t.mgu.executing = s.mgu.executing
  copyTimer : t.mgu.copyTimer = s.mgu.copyTimer

section
variable {Q : Tif → Prop} {s t u : State}

theorem Moved.refl (s : State) : Moved Q s s := ⟨id, rfl, rfl, rfl⟩

theorem Moved.trans (h : Moved Q s t) (k : Moved Q t u) : Moved Q s u :=
  ⟨k.tif ∘ h.tif, k.requests.trans h.requests, k.executing.trans h.executing,
    k.copyTimer.trans h.copyTimer⟩

/-- Neither TIF nor MGU's requests have changed. -/
theorem moved_of_eq (htif : t.tif = s.tif) (hmgu : t.mgu = s.mgu) : Moved Q s t :=
  ⟨by rw [htif]; exact id, by rw [hmgu], by rw [hmgu], by rw [hmgu]⟩

theorem moved_setTif {x : Tif} (h : Q s.tif → Q x) : Moved Q s (s.setTif x) := ⟨h, rfl, rfl, rfl⟩

theorem moved_setNotices (s : State) (n : Notices) : Moved Q s (s.setNotices n) :=
  ⟨id, rfl, rfl, rfl⟩

theorem moved_foldl {α : Type} {f : State → α → State} (hf : ∀ s a, Moved Q s (f s a))
    (l : List α) (s : State) : Moved Q s (l.foldl f s) := by
  induction l generalizing s with
  | nil => exact Moved.refl s
  | cons a l ih => exact (hf s a).trans (ih _)

variable (k : KeptByTraffic Q)
include k

theorem moved_offer {p : Port} {group : List Frame} {x : Tif} (ho : s.tif.offer p group = some x) :
    Moved Q s (s.setTif x) := moved_setTif (k.offer p group ho)

theorem moved_modPort (s : State) (p : Port) {g : PortState → PortState} (hg : CountsOnly g) :
    Moved Q s (s.modPort p g) := moved_setTif (k.counts p g hg)

theorem moved_sendNotice (c : NoticeClass) (r : Report) (s : State) :
    Moved Q s (sendNotice c r s) := by
  unfold sendNotice
  dsimp only
  split
  next x ho => exact (moved_offer k ho).trans (moved_setNotices _ _)
  next => exact moved_setNotices _ _

theorem moved_raise (c : NoticeClass) (r : Report) (s : State) : Moved Q s (raise c r s) := by
  unfold raise
  dsimp only
  split
  next =>
    split
    next => exact moved_setNotices _ _
    next => exact (moved_setNotices _ _).trans (moved_sendNotice k c r _)
  next => exact Moved.refl s

theorem moved_raiseAll (l : List (NoticeClass × Report)) (s : State) :
    Moved Q s (raiseAll l s) := moved_foldl (f := fun s e => raise e.1 e.2 s) (fun s e => moved_raise k e.1 e.2 s) l s

omit k in
theorem countsOnly_clearTallies : CountsOnly PortState.clearTallies :=
  fun _ => ⟨rfl, rfl, rfl, rfl, rfl, rfl, Nat.le_refl _⟩

theorem moved_clearTallies (s : State) : Moved Q s (clearTallies s) :=
  (moved_modPort k s .field countsOnly_clearTallies).trans
    (moved_modPort k _ .quay countsOnly_clearTallies)

theorem moved_trunkNotice (p : Port) (s : State) : Moved Q s (trunkNotice p s) := by
  unfold trunkNotice
  dsimp only
  split
  next =>
    exact (moved_sendNotice k _ _ s).trans (moved_modPort k _ p countsOnly_clearTallies)
  next => exact moved_modPort k s p countsOnly_clearTallies

theorem moved_trunkNotices (s : State) : Moved Q s (trunkNotices s) :=
  (moved_trunkNotice k .field s).trans (moved_trunkNotice k .quay _)

theorem moved_trunkError (p : Port) (e : TrunkError) (s : State) :
    Moved Q s (trunkError p e s) := by
  have counts : CountsOnly fun ps => ps.countError (s.mgu.notices.trunk.enable && s.running) e := by
    intro x
    cases e <;> exact ⟨rfl, rfl, rfl, rfl, rfl, rfl, Nat.le_refl _⟩
  unfold trunkError
  dsimp only
  split
  next => exact (moved_modPort k s p counts).trans (moved_setNotices _ _)
  next => exact moved_modPort k s p counts

/-! ### The round cycle -/

theorem moved_openRound (s : State) : Moved Q s (openRound s) := by
  rw [openRound_eq]
  exact ⟨k.mark _, rfl, rfl, rfl⟩

theorem moved_closePass (s : State) : Moved Q s (closePass s) :=
  (moved_of_eq (State.mapStations_tif _ _) (State.mapStations_mgu _ _)).trans
    (moved_raiseAll k _ _)

theorem moved_closeRound (s : State) : Moved Q s (closeRound s) := by
  have judged : Moved Q s (raiseAll (syncLost s.rct) (s.setRct s.rct.close)) :=
    (moved_of_eq (State.setRct_tif _ _) (State.setRct_mgu _ _)).trans (moved_raiseAll k _ _)
  have emptied (u : State) : Moved Q u (u.mapIntakes fun _ it => it.closed) :=
    moved_of_eq (State.mapIntakes_tif _ _) (State.mapIntakes_mgu _ _)
  have recorded (u : State) (x : Znu) : Moved Q u (u.setZnu x) :=
    moved_of_eq (State.setZnu_tif _ _) (State.setZnu_mgu _ _)
  have shown (u : State) (x : EvalStage) : Moved Q u ((reevaluate u).setStage x) :=
    moved_of_eq (by rw [State.setStage_tif, reevaluate_tif])
      (by rw [State.setStage_mgu, reevaluate_mgu])
  unfold closeRound
  exact ((((judged.trans (emptied _)).trans (moved_trunkNotices k _)).trans (recorded _ _)).trans
    (moved_closePass k _)).trans (shown _ _)

theorem moved_exchange (s : State) : Moved Q s (exchange s) := by
  have blocks : Moved Q s (exchangedBlocks s) :=
    moved_of_eq (by simp only [exchangedBlocks]) (by simp only [exchangedBlocks])
  have shown (u : State) : Moved Q u (reevaluate u) :=
    moved_of_eq (reevaluate_tif u) (reevaluate_mgu u)
  rw [exchange_eq]
  exact (blocks.trans (moved_raiseAll k _ _)).trans (shown _)

theorem moved_project (s : State) : Moved Q s (project s) := by
  have before : Moved Q s (beforePosting s) := by
    unfold beforePosting
    split
    next => exact moved_exchange k s
    next => exact Moved.refl s
  have shares : Moved Q (beforePosting s) (posted s) :=
    moved_of_eq (by rw [(posted_posted s).same, State.setZnu_tif])
      (by rw [(posted_posted s).same, State.setZnu_mgu])
  rw [project_posted]
  exact (before.trans shares).trans (moved_of_eq (by rw [State.setStage_tif, State.setPju_tif])
    (by rw [State.setStage_mgu, State.setPju_mgu]))

theorem moved_visitPile (p : Fin 24) (s : State) : Moved Q s (visitPile p s) := by
  have raised (x : Pile) (l : List (NoticeClass × Report)) :
      Moved Q s (raiseAll l (s.setPile p x)) :=
    (moved_of_eq (State.setPile_tif _ _ _) (State.setPile_mgu _ _ _)).trans (moved_raiseAll k _ _)
  have handed (u : State) (x : Pju) (stage : EvalStage) :
      Moved Q u ((u.setPju x).setStage stage) :=
    moved_of_eq (by rw [State.setStage_tif, State.setPju_tif])
      (by rw [State.setStage_mgu, State.setPju_mgu])
  unfold visitPile
  exact (raised _ _).trans (handed _ _ _)

theorem moved_evaluateZone (z : Fin 32) (s : State) : Moved Q s (evaluateZone z s) := by
  have raised (x : Zone) (l : List (NoticeClass × Report)) :
      Moved Q s (raiseAll l (s.setZone z x)) :=
    (moved_of_eq (State.setZone_tif _ _ _) (State.setZone_mgu _ _ _)).trans (moved_raiseAll k _ _)
  have shown (u : State) (stage : EvalStage) : Moved Q u ((reevaluate u).setStage stage) :=
    moved_of_eq (by rw [State.setStage_tif, reevaluate_tif])
      (by rw [State.setStage_mgu, reevaluate_mgu])
  unfold evaluateZone
  exact (raised _ _).trans (shown _ _)

omit k in
theorem moved_completed (s : State) : Moved Q s (completed s) := by
  refine ⟨?_, completed_requests s, completed_executing s, completed_copyTimer s⟩
  rw [completed_eq]
  exact id

theorem moved_signVisit (s : State) (z : Fin 32) : Moved Q s (signVisit s z) := by
  unfold signVisit
  dsimp only
  split
  next =>
    split
    next =>
      split
      next x ho =>
        exact (moved_offer k ho).trans
          (moved_of_eq (State.setZone_tif _ _ _) (State.setZone_mgu _ _ _))
      next => exact moved_of_eq (State.setZone_tif _ _ _) (State.setZone_mgu _ _ _)
    next => exact moved_of_eq (State.setZone_tif _ _ _) (State.setZone_mgu _ _ _)
  next => exact Moved.refl s

theorem moved_drainVisit (s : State) (z : Fin 32) : Moved Q s (drainVisit s z) := by
  unfold drainVisit
  split
  next =>
    split
    next x ho =>
      refine (moved_offer k ho).trans (moved_of_eq ?_ ?_)
      · rw [State.setOut_tif, State.setZone_tif]
      · rw [State.setOut_mgu, State.setZone_mgu]
    next => exact Moved.refl s
  next => exact Moved.refl s

theorem moved_serviceVisit (s : State) (z : Fin 32) : Moved Q s (serviceVisit s z) := by
  unfold serviceVisit
  dsimp only
  split
  next =>
    split
    next x ho => exact moved_offer k ho
    next =>
      refine moved_of_eq ?_ ?_
      · rw [State.setOut_tif, State.setZone_tif]
      · rw [State.setOut_mgu, State.setZone_mgu]
  next => exact Moved.refl s

theorem moved_serviceSigns (s : State) : Moved Q s (serviceSigns s) :=
  moved_foldl (moved_serviceVisit k) _ s

/-! ### Commands to the units -/

theorem moved_startRun (s : State) : Moved Q s (startRun s) := by
  have blocks : Moved Q s (startedBlocks s) :=
    ⟨(moved_clearTallies k s).tif, rfl, rfl, rfl⟩
  rw [startRun_eq]
  exact (blocks.trans (moved_openRound k _)).trans (moved_of_eq (reevaluate_tif _) (reevaluate_mgu _))

theorem moved_stopRun (s : State) : Moved Q s (stopRun s) := by
  have blocks : Moved Q s (stoppedBlocks s) :=
    ⟨(moved_clearTallies k s).tif, rfl, rfl, rfl⟩
  rw [stopRun_eq]
  refine (blocks.trans (moved_serviceSigns k _)).trans (moved_of_eq ?_ ?_)
  · rw [reevaluate_tif, State.setPju_tif]
  · rw [reevaluate_mgu, State.setPju_mgu]

theorem moved_runStart (r : Request) (s : State) : Moved Q s (runStart r s).1 := by
  unfold runStart
  split
  next => exact Moved.refl s
  next => exact moved_startRun k s

theorem moved_runStop (r : Request) (s : State) : Moved Q s (runStop r s).1 := by
  unfold runStop
  split
  next => exact moved_stopRun k s
  next => exact Moved.refl s

theorem moved_runProbe (r : Request) (s : State) : Moved Q s (runProbe r s).1 := by
  unfold runProbe
  split
  next => exact Moved.refl s
  next => exact ⟨k.mark _, rfl, rfl, rfl⟩

theorem moved_runSwap (r : Request) (s : State) : Moved Q s (runSwap r s).1 := by
  unfold runSwap
  dsimp only
  split
  next => exact Moved.refl s
  next =>
    split
    next => exact Moved.refl s
    next =>
      split
      next => exact moved_of_eq rfl rfl
      next =>
        exact (moved_of_eq (State.setPju_tif _ _) (State.setPju_mgu _ _)).trans
          (moved_exchange k _)

theorem moved_runDrill (r : Request) (s : State) : Moved Q s (runDrill r s).1 := by
  have drilled (u : State) (f : Fin 32 → Zone → Zone) (l : List (NoticeClass × Report)) :
      Moved Q u (reevaluate (raiseAll l (u.mapZones f))) :=
    ((moved_of_eq (State.mapZones_tif _ _) (State.mapZones_mgu _ _)).trans
      (moved_raiseAll k _ _)).trans (moved_of_eq (reevaluate_tif _) (reevaluate_mgu _))
  unfold runDrill
  dsimp only
  split
  next => exact Moved.refl s
  next =>
    split
    next => exact drilled s _ _
    next => exact Moved.refl s

omit k in
theorem moved_runEndDrill (r : Request) (s : State) : Moved Q s (runEndDrill r s).1 := by
  unfold runEndDrill
  dsimp only
  split
  next => exact Moved.refl s
  next =>
    split
    next => exact moved_of_eq (State.mapZones_tif _ _) (State.mapZones_mgu _ _)
    next => exact Moved.refl s

omit k in
theorem moved_runSnap (r : Request) (s : State) : Moved Q s (runSnap r s).1 := by
  unfold runSnap
  split
  next => exact ⟨id, rfl, rfl, rfl⟩
  next => exact Moved.refl s

omit k in
theorem moved_runAdmit (r : Request) (s : State) : Moved Q s (runAdmit r s).1 := by
  unfold runAdmit
  split
  next =>
    exact (moved_of_eq (State.setStation_tif _ _ _) (State.setStation_mgu _ _ _)).trans
      (moved_of_eq (reevaluate_tif _) (reevaluate_mgu _))
  next => exact Moved.refl s

omit k in
theorem moved_runRelax (r : Request) (s : State) : Moved Q s (runRelax r s).1 := by
  unfold runRelax
  dsimp only
  split
  next =>
    split
    next => exact moved_of_eq (State.setZone_tif _ _ _) (State.setZone_mgu _ _ _)
    next => exact Moved.refl s
  next => exact Moved.refl s

theorem moved_runCommand (r : Request) (s : State) : Moved Q s (runCommand r s).1 := by
  unfold runCommand
  split
  case h_1 => exact moved_runStart k r s
  case h_2 => exact moved_runStop k r s
  case h_3 => exact moved_runProbe k r s
  case h_4 => exact moved_runSwap k r s
  case h_5 => exact moved_runSnap r s
  case h_6 => exact moved_runAdmit r s
  case h_7 => exact moved_runRelax r s
  case h_8 => exact moved_runDrill k r s
  case h_9 => exact moved_runEndDrill r s
  case h_10 => exact Moved.refl s

omit k in
theorem countsOnly_clearCounter (f : Nat) : CountsOnly fun x => x.clearCounter f := by
  intro x
  unfold PortState.clearCounter
  dsimp only
  split
  case h_4 => exact ⟨rfl, rfl, rfl, rfl, rfl, rfl, Nat.zero_le _⟩
  all_goals exact ⟨rfl, rfl, rfl, rfl, rfl, rfl, Nat.le_refl _⟩

theorem moved_clearOnRead (u t i f : Nat) (s : State) : Moved Q s (clearOnRead u t i f s) := by
  have reads := clearOnRead_reads u t i f s
  refine ⟨?_, reads.requests, reads.executing, reads.copyTimer⟩
  unfold clearOnRead
  split
  case h_1 =>
    split_ifs
    · exact k.counts .field _ (countsOnly_clearCounter f)
    · exact k.counts .quay _ (countsOnly_clearCounter f)
    all_goals exact id
  case h_2 => split_ifs <;> exact id
  case h_3 => split <;> exact id
  case h_4 => split_ifs <;> exact id
  case h_5 => exact id

theorem moved_writeField {u n i f : Nat} {w : Word} {status : Status}
    (h : writeField u n i f w s = .done t status) : Moved Q s t := by
  unfold writeField at h
  split at h
  case h_1 =>
    unfold writeRound at h
    split at h
    next => obtain ⟨v, r, -, -, rfl⟩ := storeJudged_done h; exact moved_of_eq rfl rfl
    next => cases h
  case h_2 =>
    unfold writeNotices at h
    split at h
    next =>
      obtain ⟨v, r, -, -, rfl⟩ := storeJudged_done h
      dsimp only
      split
      next => exact moved_setNotices _ _
      next => exact (moved_setNotices _ _).trans (moved_clearTallies k _)
    next => cases h
  case h_3 =>
    unfold writeStation at h
    split at h
    next => obtain ⟨v, r, -, -, rfl⟩ := storeJudged_done h; exact moved_of_eq rfl rfl
    next => cases h
  case h_4 =>
    unfold writePile at h
    split at h
    next => obtain ⟨v, r, -, -, rfl⟩ := storeJudged_done h; exact moved_of_eq rfl rfl
    next => cases h
  case h_5 =>
    unfold writePlume at h
    split at h
    next => obtain ⟨v, r, -, -, rfl⟩ := storeJudged_done h; exact moved_of_eq rfl rfl
    next => cases h
  case h_6 =>
    unfold writeZoneCfg at h
    split at h
    next => obtain ⟨v, r, -, -, rfl⟩ := storeJudged_done h; exact moved_of_eq rfl rfl
    next => cases h
  case h_7 =>
    unfold writeLineTable writeRefresh writeLine at h
    split at h
    next => obtain ⟨v, r, -, -, rfl⟩ := storeJudged_done h; exact moved_of_eq rfl rfl
    next =>
      split at h
      next => obtain ⟨v, r, -, -, rfl⟩ := storeJudged_done h; exact moved_of_eq rfl rfl
      next => cases h
  case h_8 =>
    unfold writePanelMode at h
    split at h
    next => obtain ⟨v, r, -, -, rfl⟩ := storeJudged_done h; exact moved_of_eq rfl rfl
    next => cases h
  case h_9 => cases h

theorem moved_runRequest (r : Request) (s : State) : Moved Q s (runRequest r s).1 := by
  unfold runRequest
  split_ifs
  · exact Moved.refl s
  · unfold runRead
    dsimp only
    split
    next => exact moved_clearOnRead k _ _ _ _ s
    next => exact Moved.refl s
  · unfold runWrite
    dsimp only
    split
    case h_4 t status hw => exact moved_writeField k hw
    all_goals exact Moved.refl s
  · exact moved_runCommand k r s
  · exact Moved.refl s

/-! ### Copies -/

theorem moved_takeSample (c : SampleCopy) (s : State) : Moved Q s (takeSample c s) := by
  have placed : Moved Q s (samplePlaced c s) := moved_of_eq rfl rfl
  have counted (u : State) : Moved Q u (countedOff u) := moved_of_eq rfl rfl
  have sampled := takeSample_sampled c s
  revert sampled
  generalize takeSample c s = t
  intro sampled
  cases sampled with
  | closed => exact (placed.trans (counted _)).trans (moved_closeRound k _)
  | _ => exact moved_of_eq rfl rfl

omit k in
theorem moved_takeYard (y : YardCopy) (s : State) : Moved Q s (takeYard y s) := by
  unfold takeYard
  split
  next => exact moved_of_eq rfl rfl
  next => exact moved_of_eq rfl rfl

theorem moved_probeExpires (s : State) : Moved Q s (probeExpires s) := by
  unfold probeExpires
  split
  next =>
    exact (moved_of_eq (State.setRct_tif _ _) (State.setRct_mgu _ _)).trans (moved_raise k _ _ _)
  next => exact Moved.refl s

end

end Sys2Proof.Machine
end

section
/-! Proofs about the trunk interface and the request queue (R4 to R14, R119, R167): every event keeps
their capacities, and no COPY outlasts its 2 ms. -/

namespace Sys2Proof.Machine

/-- The trunk is sound but that a port that is `resting` may have yet to select, and, where `c`, the
end of a COPY is not due. -/
structure TrunkQuiet (c : Prop) (resting : Port → Prop) (s : State) : Prop where
  tif : TifSound (reservedFor s) resting s.tif
  requests : s.mgu.requests.length ≤ 4
  copy : if s.mgu.executing.isSome = true then ∃ n, s.mgu.copyTimer = some n ∧ n ≤ 2
    else s.mgu.copyTimer = none
  early : c → ∀ n, s.mgu.copyTimer = some n → n < 2

theorem trunkSound_iff (s : State) : TrunkSound s ↔ TrunkQuiet False nowhere s := by
  constructor
  · rintro ⟨ports, requests, copy⟩
    refine ⟨fun p => ?_, requests, copy, nofun⟩
    obtain ⟨framer, transit, queue, reserved, idle⟩ := ports p
    exact ⟨framer, transit, by rw [← reserved]; exact queue, reserved, fun _ => idle⟩
  · rintro ⟨tif, requests, copy, -⟩
    refine ⟨fun p => ?_, requests, copy⟩
    obtain ⟨framer, transit, queue, reserved, idle⟩ := tif p
    exact ⟨framer, transit, by rw [reserved]; exact queue, reserved, idle id⟩

section
variable {c : Prop} {resting : Port → Prop} {s t : State}

theorem reservedFor_congr (h : t.mgu.executing = s.mgu.executing) : reservedFor t = reservedFor s := by
  funext p
  rw [reservedFor, h]
  rfl

/-- What the other blocks make of TIF keeps the trunk sound. -/
theorem TrunkQuiet.moved (h : TrunkQuiet c resting s)
    (hm : Moved (TifSound (reservedFor s) resting) s t) : TrunkQuiet c resting t := by
  obtain ⟨htif, hrequests, hexecuting, htimer⟩ := hm
  constructor
  case tif => rw [reservedFor_congr hexecuting]; exact htif h.tif
  case requests => rw [hrequests]; exact h.requests
  case copy => rw [hexecuting, htimer]; exact h.copy
  case early => rw [htimer]; exact h.early

theorem TrunkQuiet.setTif (h : TrunkQuiet c resting s) {resting' : Port → Prop} {x : Tif}
    (hx : TifSound (reservedFor s) resting' x) : TrunkQuiet c resting' (s.setTif x) :=
  ⟨hx, h.requests, h.copy, h.early⟩

/-! ### Executions (R12, R119, R168) -/

/-- The response of an execution that has ended takes the one place reserved. -/
theorem trunkQuiet_answered {r : Request} (a : Reply)
    (htif : TifSound (fun p => if r.port = p then 1 else 0) resting s.tif)
    (hrequests : s.mgu.requests.length ≤ 4) (hexecuting : s.mgu.executing = none)
    (htimer : s.mgu.copyTimer = none) : TrunkQuiet c resting (respond r a s) := by
  have nothing : reservedFor (respond r a s) = fun q => if r.port = q then 0 else
      if r.port = q then 1 else 0 := by
    funext q
    have idle : (respond r a s).mgu.executing = none := hexecuting
    rw [reservedFor, idle]
    dsimp only
    split <;> rfl
  constructor
  case tif => rw [nothing]; exact htif.responded (if_pos rfl)
  case requests => exact hrequests
  case copy =>
    have idle : (respond r a s).mgu.executing = none := hexecuting
    rw [idle]
    exact htimer
  case early => exact fun _ n hn => by rw [show s.mgu.copyTimer = some n from hn] at htimer; cases htimer

/-- A request is taken: its place is reserved, and a COPY keeps it until its end. -/
theorem TrunkQuiet.taken (h : TrunkQuiet c resting s) {r : Request} {rest : List Request}
    (hr : s.mgu.requests = r :: rest) (hc : canTake r s = true) :
    TrunkQuiet c resting (takeRequest r (s.setMgu { s.mgu with requests := rest })) := by
  have free := (canTake_free hc).executing
  have room : 1 ≤ (s.tif.port r.port).room := by
    simp only [canTake, Bool.and_eq_true, decide_eq_true_eq] at hc
    exact hc.2
  have length : rest.length ≤ 4 := by
    have := h.requests
    rw [hr, List.length_cons] at this
    omega
  have timer : s.mgu.copyTimer = none := by
    have := h.copy
    rwa [free, if_neg (by decide)] at this
  have reserved : TifSound (fun p => if r.port = p then 1 else 0) resting
      (s.tif.reserve r.port) := by
    have held := h.tif.reserved room
    have same : (fun q => if r.port = q then reservedFor s q + 1 else reservedFor s q) =
        fun p => if r.port = p then 1 else 0 := by
      funext q
      rw [reservedFor, free]
    rwa [same] at held
  unfold takeRequest
  dsimp only
  split
  next =>
    exact ⟨reserved, length, ⟨0, rfl, Nat.zero_le _⟩, fun _ n hn => by cases hn; decide⟩
  next =>
    obtain ⟨htif, hrequests, hexecuting, htimer⟩ :=
      moved_runRequest (tifSound_keptByTraffic (fun p => if r.port = p then 1 else 0) resting) r
        ((s.setMgu { s.mgu with requests := rest }).setTif (s.tif.reserve r.port))
    exact trunkQuiet_answered _ (htif reserved) ((congrArg List.length hrequests).trans_le length)
      (hexecuting.trans free) (htimer.trans timer)

/-- A COPY is done: its response enters the place kept for it. -/
theorem TrunkQuiet.copied (h : TrunkQuiet c resting s) {r : Request}
    (hx : s.mgu.executing = some r) : TrunkQuiet c resting (finishCopy s) := by
  have held : reservedFor s = fun p => if r.port = p then 1 else 0 := by
    funext p
    rw [reservedFor, hx]
  have tif := h.tif
  rw [held] at tif
  unfold finishCopy
  rw [hx]
  exact trunkQuiet_answered _ tif h.requests rfl rfl

/-! ### Forwarding (R9 to R11, R14) -/

/-- A frame offered to its transit FIFO enters it or is dropped; its port has then yet to select. -/
theorem TrunkQuiet.offered (h : TrunkQuiet c resting s) (p : Port) (f : Frame) :
    TrunkQuiet c (fun q => resting q ∨ q = otherPort p) (offerTransit p f s) := by
  unfold offerTransit
  split
  next x hx => exact h.setTif (h.tif.enteredTransit hx)
  next =>
    have asleep : TrunkQuiet c (fun q => resting q ∨ q = otherPort p) s :=
      ⟨h.tif.mono fun _ => .inl, h.requests, h.copy, h.early⟩
    exact asleep.moved (moved_trunkError (tifSound_keptByTraffic _ _) p .drop s)

/-- Its port selects at the end of the instant. -/
theorem TrunkQuiet.woken {p : Port} (h : TrunkQuiet c (fun q => resting q ∨ q = otherPort p) s) :
    TrunkQuiet c resting (wakeOutbound p s) := h.setTif h.tif.wake

end

theorem trunkQuiet_kept (c : Prop) : KeptNow (TrunkQuiet c nowhere) where
  waits {s} r h hroom := by
    refine ⟨h.tif, ?_, h.copy, h.early⟩
    change (s.mgu.requests ++ [r]).length ≤ 4
    rw [List.length_append]
    exact hroom
  dropped h := ⟨h.tif, h.requests, h.copy, h.early⟩
  take r rest h hr hc := h.taken hr hc
  copyEnds r h hx := h.copied hx
  deadline h _ _ _ := h.moved (moved_closeRound (tifSound_keptByTraffic _ _) _)
  expiry h _ _ _ := h.moved
    ((moved_of_eq (State.setRct_tif _ _) (State.setRct_mgu _ _)).trans
      (moved_openRound (tifSound_keptByTraffic _ _) _))
  probeEnd h _ := h.moved (moved_probeExpires (tifSound_keptByTraffic _ _) _)
  pile p h _ := h.moved (moved_visitPile (tifSound_keptByTraffic _ _) p _)
  projection h _ := h.moved (moved_project (tifSound_keptByTraffic _ _) _)
  zone z h _ := h.moved (moved_evaluateZone (tifSound_keptByTraffic _ _) z _)
  completion h _ := h.moved (moved_completed _)
  sign z _ _ _ h := h.moved (moved_signVisit (tifSound_keptByTraffic _ _) _ z)
  drain z h _ := h.moved (moved_drainVisit (tifSound_keptByTraffic _ _) _ z)
  left p h _ := h.setTif ((h.tif.select p).mono fun _ hq => hq.1)
  panel h := h.moved (moved_of_eq rfl rfl)
  framed p rx h := h.setTif
    (h.tif.received p (fun _ => ⟨rfl, rfl, rfl, rfl⟩) (Framer.on_sound (h.tif p).framer rx))
  framerReset p f h := h.setTif
    (h.tif.received p (fun _ => ⟨rfl, rfl, rfl, rfl⟩) (framerAfter_sound f))
  counted p g hg h := h.setTif (h.tif.counted p hg)
  crcError p h := h.moved (moved_trunkError (tifSound_keptByTraffic _ _) p .crc _)
  forwarded p f g hg h :=
    ((h.offered p f).moved (moved_modPort (tifSound_keptByTraffic _ _) _ p hg)).woken
  copied p f c h := ((h.offered p f).moved (moved_takeSample (tifSound_keptByTraffic _ _) c _)).woken
  sample c h := h.moved (moved_takeSample (tifSound_keptByTraffic _ _) c _)
  yard y h := h.moved (moved_takeYard y _)

theorem trunkQuiet_reset (l : List Instr) (held : Option ResetCause) (strap : BitVec 3)
    (stu : Vector Station 48) (cause : ResetCause) (n : Nat) :
    TrunkQuiet False nowhere
      { State.reset with
        pending := l, resetHeld := held, tif := .cleared strap, stu := stu
        mgu := .cleared cause n } := by
  refine ⟨fun p => ?_, Nat.zero_le _, rfl, nofun⟩
  cases p <;> exact ⟨trivial, Nat.zero_le _, Nat.zero_le _, rfl, fun _ _ => ⟨rfl, rfl, rfl⟩⟩

theorem trunkQuiet_keptByResets : KeptByResets (TrunkQuiet False nowhere) where
  powerOn s t _ hstep := by cases hstep; exact trunkQuiet_reset _ _ _ _ _ _
  pin s t _ hstep := by cases hstep; exact trunkQuiet_reset _ _ _ _ _ _
  release {s} cause addr h _ := by
    refine ⟨fun p => ?_, h.requests, h.copy, nofun⟩
    obtain ⟨framer, transit, queue, reserved, idle⟩ := h.tif p
    cases p <;> exact ⟨framer, transit, queue, reserved, idle⟩
  commands l h := ⟨h.tif, h.requests, h.copy, nofun⟩

/-- Where time passes no COPY is at its end (R119). -/
theorem TrunkQuiet.settled {s : State} (h : TrunkQuiet False nowhere s) :
    TrunkQuiet True nowhere (settle s) := by
  have queue := (trunkQuiet_kept False).serveQueue h
  have copied : TrunkQuiet True nowhere (copyOverdue (serveQueue s)) := by
    unfold copyOverdue
    split
    next hdue =>
      obtain ⟨r, hr⟩ := Option.isSome_iff_exists.mp hdue.1
      have ended := queue.copied hr
      have none : (finishCopy (serveQueue s)).mgu.copyTimer = none := by
        unfold finishCopy
        rw [hr]
        rfl
      have early : TrunkQuiet True nowhere (finishCopy (serveQueue s)) :=
        ⟨ended.tif, ended.requests, ended.copy, fun _ n hn => by rw [none] at hn; cases hn⟩
      exact (trunkQuiet_kept True).serveQueue ((trunkQuiet_kept True).look early)
    next hdue =>
      refine ⟨queue.tif, queue.requests, queue.copy, fun _ n hn => ?_⟩
      refine not_reached_iff.mp (fun hreached => hdue ⟨?_, hreached⟩) n hn
      by_contra hx
      have := queue.copy
      rw [if_neg hx, hn] at this
      cases this
  have k := trunkQuiet_kept True
  exact k.serveQueue (k.probeExpires (k.timerExpires (k.evaluationOverdue (k.deadlineFalls copied))))

theorem TrunkQuiet.passTime {s : State} (h : TrunkQuiet True nowhere s) :
    TrunkQuiet False nowhere s.passTime := by
  refine ⟨h.tif, h.requests, ?_, nofun⟩
  change if s.mgu.executing.isSome = true then
    ∃ n, s.mgu.copyTimer.map (· + 1) = some n ∧ n ≤ 2 else s.mgu.copyTimer.map (· + 1) = none
  have copy := h.copy
  split at copy
  next hx =>
    obtain ⟨n, hn, -⟩ := copy
    rw [if_pos hx]
    exact ⟨n + 1, by rw [hn]; rfl, h.early trivial n hn⟩
  next hx => rw [if_neg hx, copy]; rfl

theorem trunkQuiet_keptInTime : Kept (TrunkQuiet False nowhere) :=
  { trunkQuiet_kept False with millisecond := fun h _ => h.settled.passTime }

/-- Settles O14: every event keeps the trunk sound, and before a millisecond passes a COPY at its end
has ended. -/
theorem everyStepKeepsTheTrunkSound : Obligations.EveryStepKeepsTheTrunkSound := by
  intro s t h hstep
  rw [trunkSound_iff] at h ⊢
  exact trunkQuiet_keptInTime.step trunkQuiet_keptByResets h hstep

end Sys2Proof.Machine
end

section
/-! Proofs that every command completes, about the resets and what a held reset does, and that the
reset state is sound (chapter 1, sections 1.1 and 1.9, and the reset values of the other chapters). -/

namespace Sys2Proof.Machine

/-! ### Completion (R1) -/

/-- What no event inside the part touches: the waiting commands and the reset in force. -/
def Outside (l : List Instr) (held : Option ResetCause) (s : State) : Prop :=
  s.pending = l ∧ s.resetHeld = held

section
variable {l : List Instr} {held : Option ResetCause} {s t : State}

theorem Outside.same (h : Outside l held s) (hpending : t.pending = s.pending)
    (hheld : t.resetHeld = s.resetHeld) : Outside l held t :=
  ⟨hpending.trans h.1, hheld.trans h.2⟩

theorem Outside.blocks (h : Outside l held s) (same : SameBlocks s t) : Outside l held t :=
  h.same same.pending same.resetHeld

theorem Outside.signs (h : Outside l held s) (same : SignsOnly s t) : Outside l held t :=
  h.same same.pending same.resetHeld

theorem Outside.openRound (h : Outside l held s) : Outside l held (openRound s) := by
  rw [openRound_eq]; exact h

theorem startedBlocks_outside (s : State) :
    (startedBlocks s).pending = s.pending ∧ (startedBlocks s).resetHeld = s.resetHeld := ⟨rfl, rfl⟩

theorem stoppedBlocks_outside (s : State) :
    (stoppedBlocks s).pending = s.pending ∧ (stoppedBlocks s).resetHeld = s.resetHeld := ⟨rfl, rfl⟩

theorem Outside.started (h : Outside l held s) : Outside l held (startRun s) := by
  have started : Outside l held (startedBlocks s) :=
    h.same (startedBlocks_outside s).1 (startedBlocks_outside s).2
  rw [startRun_eq]
  exact started.openRound.same (reevaluate_pending _) (reevaluate_resetHeld _)

theorem Outside.stopped (h : Outside l held s) : Outside l held (stopRun s) := by
  have stopped : Outside l held (stoppedBlocks s) :=
    h.same (stoppedBlocks_outside s).1 (stoppedBlocks_outside s).2
  have signed := stopped.signs (serviceSigns_signs _)
  rw [stopRun_eq]
  exact signed.same (by rw [reevaluate_pending, State.setPju_pending])
    (by rw [reevaluate_resetHeld, State.setPju_resetHeld])

theorem Outside.exchange (h : Outside l held s) : Outside l held (exchange s) :=
  h.same (exchange_same s).pending (exchange_same s).resetHeld

theorem Outside.project (h : Outside l held s) : Outside l held (project s) := by
  have posting : Outside l held (beforePosting s) := by
    unfold beforePosting
    split
    · exact h.exchange
    · exact h
  rw [project_eq, (postContributions_posted _ _).same]
  exact posting

theorem Outside.write {w : Word} (h : Outside l held s) (hw : Written w s t) :
    Outside l held t := by
  cases hw with
  | blocks same => exact h.blocks same
  | round => exact h
  | station => exact h
  | pile => exact h
  | plume => exact h
  | zoneCfg => exact h
  | refresh => exact h

end

theorem outside_kept (l : List Instr) (held : Option ResetCause) :
    BlockKept (Outside l held) where
  congr same h := h.blocks same
  copyStarts _ h _ _ := h.same rfl rfl
  copyEnds _ h _ := h.same rfl rfl
  read u t i f h :=
    h.same (clearOnRead_reads u t i f _).pending (clearOnRead_reads u t i f _).resetHeld
  write _ _ _ _ _ _ _ h _ hw := h.write (writeField_written hw)
  start _ h _ _ := h.started
  stop h _ _ := h.stopped
  probe h _ _ := h.same rfl rfl
  swapNow {s} h _ _ _ _ := Outside.exchange (s := s.setPju s.pju.validated) (h.same rfl rfl)
  swapLater h _ _ _ _ := h.same rfl rfl
  admission _ h := h.same rfl rfl
  relax _ h _ _ := h.same rfl rfl
  drill _ _ _ h _ _ _ := h.same (State.mapZones_pending _ _) (State.mapZones_resetHeld _ _)
  endDrill _ _ h _ := h.same (by simp [endDrillZones]) (by simp [endDrillZones])
  closing h _ _ := h.same rfl rfl
  expiry {s} h _ _ _ := Outside.openRound (s := s.setRct s.rct.advance) (h.same rfl rfl)
  probeEnd h _ := h.same rfl rfl
  pile {s} p h _ := h.same (visitPile_same p s).pending (visitPile_same p s).resetHeld
  projection h _ := h.project
  zone {s} z h _ := h.same (evaluateZone_same z s).pending (evaluateZone_same z s).resetHeld
  completion {s} h _ := by rw [completed_eq]; exact h.same rfl rfl
  sign {_ s} z _ _ _ h := h.signs (signVisit_signs s z)
  drain {s} z h _ := h.signs (drainVisit_signs s z)
  sample {s} c h :=
    have ⟨_, _, _, _, _, _, hpending, hheld, _⟩ := (takeSample_sampled c s).kept
    h.same hpending hheld
  yard {s} y h := by
    unfold takeYard
    split
    next => exact h.same rfl rfl
    next => exact h.same rfl rfl

theorem outside_keptInTime (l : List Instr) (held : Option ResetCause) : Kept (Outside l held) :=
  { (outside_kept l held).keptNow with millisecond := fun _ h => h.same (State.passTime_pending _) (State.passTime_resetHeld _) }

/-- No command is refused or stops the part. -/
theorem exec_completes (c : Instr) (s : State) : ∃ t, exec c s = .next t := by
  cases c with
  | resetRelease addr =>
    simp only [exec, execResetRelease]
    split
    · exact ⟨_, rfl⟩
    · exact ⟨_, rfl⟩
  | standbyTableWrite e which b => cases which <;> exact ⟨_, rfl⟩
  | _ => exact ⟨_, rfl⟩

theorem exec_outside {c : Instr} {s t : State} (hstep : exec c s = .next t)
    (hpower : c ≠ .powerOnReset) (hpin : c ≠ .pinReset) (hrelease : ∀ a, c ≠ .resetRelease a) :
    t.pending = s.pending ∧ t.resetHeld = s.resetHeld :=
  (outside_keptInTime s.pending s.resetHeld).command c ⟨rfl, rfl⟩ hpower hpin hrelease hstep

/-- The release leaves the waiting commands as they are. -/
theorem resetRelease_pending {a : BitVec 3} {s t : State}
    (hstep : exec (.resetRelease a) s = .next t) : t.pending = s.pending := by
  simp only [exec, execResetRelease] at hstep
  split at hstep
  · cases hstep; rfl
  · cases hstep; rfl

/-- Settles O2: every event inside the part keeps the waiting commands and the reset in force, and the
resets and the release keep the waiting commands. -/
theorem everyCommandCompletes : Obligations.EveryCommandCompletes := by
  intro c s
  obtain ⟨t, ht⟩ := exec_completes c s
  refine ⟨t, ht, ?_, fun hpower hpin hrelease => (exec_outside ht hpower hpin hrelease).2⟩
  by_cases hpower : c = .powerOnReset
  · subst hpower; cases ht; rfl
  by_cases hpin : c = .pinReset
  · subst hpin; cases ht; rfl
  by_cases hrelease : ∃ a, c = .resetRelease a
  · obtain ⟨a, rfl⟩ := hrelease
    exact resetRelease_pending ht
  · exact (exec_outside ht hpower hpin fun a ha => hrelease ⟨a, ha⟩).1

/-! ### A held reset (R1, R7, R16) -/

theorem whenReleased_held {f : State → State} {s : State} (h : s.resetHeld.isSome = true) :
    whenReleased f s = .next s := by simp [whenReleased, h]

theorem whenReleased_free {f : State → State} {s : State} (h : s.resetHeld = none) :
    whenReleased f s = .next (f s) := by simp [whenReleased, h]

/-- Every command but the resets and the release is gated by the reset in force. -/
theorem exec_gated (c : Instr) (hpower : c ≠ .powerOnReset) (hpin : c ≠ .pinReset)
    (hrelease : ∀ a, c ≠ .resetRelease a) :
    ∃ f : State → State, ∀ s, exec c s = whenReleased f s := by
  cases c with
  | powerOnReset => exact absurd rfl hpower
  | pinReset => exact absurd rfl hpin
  | resetRelease a => exact absurd rfl (hrelease a)
  | standbyTableWrite e which b => cases which <;> exact ⟨_, fun _ => rfl⟩
  | _ => exact ⟨_, fun _ => rfl⟩

/-- Settles O3: all but the resets and the release is gated, and the release is what it says. -/
theorem heldResetHoldsUntilItsRelease : Obligations.HeldResetHoldsUntilItsRelease := by
  refine ⟨fun c s hheld hpower hpin hrelease => ?_, fun a cause s hheld => ?_, fun a s hheld => ?_⟩
  · obtain ⟨f, hf⟩ := exec_gated c hpower hpin hrelease
    rw [hf, whenReleased_held hheld]
  · simp only [exec, execResetRelease, hheld]
    rfl
  · simp only [exec, execResetRelease, hheld]

/-! ### Reset values (R16 and the reset columns of the other chapters) -/

/-- The part while a reset is held: what both resets leave, and what they leave differently. -/
def inReset (l : List Instr) (held : Option ResetCause) (strap : BitVec 3)
    (stu : Vector Station 48) (cause : ResetCause) (retired : Nat) : State :=
  { State.reset with
    pending := l, resetHeld := held, tif := .cleared strap, stu := stu
    mgu := .cleared cause retired }

/-- A station slot after a reset: only its fault count and its retirement depend on the reset. -/
structure Station.Reset (c : Instr) (before st : Station) : Prop where
  cfg : st.cfg = .default
  comp : st.comp = .cleared
  health : st.health =
    { HealthRecord.cleared with state := st.health.state, faults := st.health.faults }
  powerOn : c = .powerOnReset → st.health.state = .off ∧ st.health.faults = 0
  pin : c = .pinReset → st.health.faults = before.health.faults ∧
    st.health.state = if before.health.faults = 3 then .retired else .off

theorem exec_pinReset (s : State) :
    exec .pinReset s = .next (inReset s.pending (some (assertPin s.resetHeld)) s.tif.strap
      (tableMap (fun _ => Station.pinReset) s.stu) s.mgu.resetCause s.mgu.retiredAtRelease) := by
  simp only [exec, execPinReset, inReset]

theorem exec_reset (s : State) (c : Instr) (hc : c = .powerOnReset ∨ c = .pinReset) :
    ∃ held strap stu cause retired,
      exec c s = .next (inReset s.pending held strap stu cause retired) ∧
      (c = .powerOnReset → held = some .powerOn) ∧
      (c = .pinReset →
        held = some (if s.resetHeld = some .powerOn then .powerOn else .pin) ∧
        strap = s.tif.strap ∧ cause = s.mgu.resetCause ∧ retired = s.mgu.retiredAtRelease) ∧
      ∀ i : Fin 48, Station.Reset c (s.station i) stu[i] := by
  rcases hc with rfl | rfl
  · refine ⟨some .powerOn, 0, .replicate 48 .cleared, .powerOn, 0, rfl, fun _ => rfl, nofun,
      fun i => ?_⟩
    rw [Fin.getElem_fin, Vector.getElem_replicate]
    exact ⟨rfl, rfl, rfl, fun _ => ⟨rfl, rfl⟩, nofun⟩
  · refine ⟨some (assertPin s.resetHeld), s.tif.strap, tableMap (fun _ => Station.pinReset) s.stu,
      s.mgu.resetCause, s.mgu.retiredAtRelease, exec_pinReset s, nofun, fun _ => ⟨?_, rfl, rfl, rfl⟩,
      fun i => ?_⟩
    · rcases s.resetHeld with _ | _ | _ <;> rfl
    · rw [tableMap_get]
      exact ⟨rfl, rfl, rfl, nofun, fun _ => ⟨rfl, rfl⟩⟩

section
variable (l : List Instr) (held : Option ResetCause) (strap : BitVec 3) (stu : Vector Station 48)
  (cause : ResetCause) (retired : Nat)

theorem inReset_intake (i : Fin 48) :
    (inReset l held strap stu cause retired).intake i = Intake.cleared :=
  Vector.getElem_replicate i.isLt

theorem inReset_pile (p : Fin 24) :
    (inReset l held strap stu cause retired).pile p = { cfg := .default, dyn := .cleared } :=
  Vector.getElem_replicate p.isLt

theorem inReset_zone (z : Fin 32) :
    (inReset l held strap stu cause retired).zone z = Zone.cleared :=
  Vector.getElem_replicate z.isLt

end

theorem zone_cleared_atRest : Zone.cleared.AtRest :=
  ⟨fun t => Vector.getElem_replicate t.isLt, rfl, rfl, rfl, rfl, rfl, rfl⟩

theorem bank_cleared_values :
    Bank.cleared.valid = false ∧ (∀ i, plumeRead Bank.cleared.plume i = .cleared) ∧
      ∀ z : Fin 32, Bank.cleared.zones[z] = ZoneCfg.cleared :=
  ⟨rfl, fun _ => rfl, fun z => Vector.getElem_replicate z.isLt⟩

/-- Settles O4: both resets leave `inReset`, whose blocks are read off. -/
theorem resetValuesOfEveryBlock : Obligations.ResetValuesOfEveryBlock := by
  intro s c hc
  obtain ⟨held, strap, stu, cause, retired, hexec, hpower, hpin, hstu⟩ := exec_reset s c hc
  refine ⟨_, hexec, hpower, hpin, rfl, rfl, rfl, inReset_intake _ _ _ _ _ _, fun i => ?_,
    inReset_pile _ _ _ _ _ _, rfl, rfl, rfl, rfl, ?_, fun z => Vector.getElem_replicate z.isLt,
    fun z => ?_, fun n => ⟨Vector.getElem_replicate n.isLt, Vector.getElem_replicate n.isLt⟩,
    rfl, rfl, rfl, rfl, fun z => Vector.getElem_replicate z.isLt, fun k => ?_, rfl, rfl, rfl, rfl,
    rfl, rfl, fun i => Vector.getElem_replicate i.isLt, fun z => Vector.getElem_replicate z.isLt,
    rfl, rfl, rfl, rfl, rfl, rfl, fun p => ?_⟩
  · obtain ⟨hcfg, hcomp, hhealth, hpowered, hpinned⟩ := hstu i
    refine ⟨stu[i].health, ?_, ?_, ?_, ?_, ?_, hpowered, hpinned⟩
    · change stu[i] = { health := stu[i].health, cfg := .default, comp := .cleared }
      rw [← hcfg, ← hcomp]
    all_goals rw [hhealth]; rfl
  · rintro b (rfl | rfl) <;> exact bank_cleared_values
  · rw [inReset_zone]
    exact ⟨zone_cleared_atRest, rfl, rfl, rfl⟩
  · cases k <;> rfl
  · cases p <;> exact ⟨rfl, rfl, rfl, rfl, rfl, rfl, rfl, rfl, rfl, rfl, rfl, rfl, rfl, rfl, rfl, rfl⟩

/-- Settles O5: what `Station.pinReset` and the power-on values give slot by slot. -/
theorem pinResetKeepsRetirements : Obligations.PinResetKeepsRetirements := by
  refine ⟨fun s => ⟨_, rfl, fun i => Vector.getElem_replicate i.isLt⟩, fun s => ?_⟩
  obtain ⟨_, _, stu, _, _, hexec, -, -, hstu⟩ := exec_reset s .pinReset (Or.inr rfl)
  refine ⟨_, hexec, fun i => ?_⟩
  obtain ⟨hcfg, hcomp, hhealth, -, hpinned⟩ := hstu i
  obtain ⟨hfaults, hstate⟩ := hpinned rfl
  refine ⟨hcfg, hcomp, ?_⟩
  rw [hfaults, hstate] at hhealth
  exact hhealth

/-- Settles O60: each invariant holds of the values the reset leaves. -/
theorem invariantsHoldAtReset : Obligations.InvariantsHoldAtReset := by
  refine ⟨trunkSound_iff _ |>.mpr ?_, ?_, ?_, ?_, ?_, ?_, ?_⟩
  · exact trunkQuiet_reset [] (some .powerOn) 0 (.replicate 48 .cleared) .powerOn 0
  · exact roundsSound_reset [] (some .powerOn) (.cleared 0) (.replicate 48 .cleared)
      (.cleared .powerOn 0)
  · exact outstandingSound_unopened List.nodup_nil nofun
  · refine stationsSound_reset [] (some .powerOn) (.cleared 0) (stu := .replicate 48 .cleared)
      (.cleared .powerOn 0) fun i => ?_
    rw [Fin.getElem_fin, Vector.getElem_replicate]
    exact station_cleared_sound
  · exact banksSound_reset [] (some .powerOn) (.cleared 0) (.replicate 48 .cleared)
      (.cleared .powerOn 0)
  · exact zonesSound_reset [] (some .powerOn) (.cleared 0) (.replicate 48 .cleared)
      (.cleared .powerOn 0)
  · exact linesSound_of_config rfl rfl rfl

end Sys2Proof.Machine
end

section
/-! Proofs about the passing of time on an empty queue of commands: what is due comes first, and
commanding it beforehand is the same (R22, R23, R34, R119, R168). -/

namespace Sys2Proof.Machine

/-! ### Executions that are not at their end (R119) -/

/-- No COPY in execution has come to the end of its 2 ms. -/
def CopyFresh (s : State) : Prop :=
  s.mgu.executing.isSome = true → ∀ n, s.mgu.copyTimer = some n → n < 2

/-- What TIF is does not matter here. -/
theorem keptByTraffic_true : KeptByTraffic fun _ => True :=
  ⟨fun _ _ _ _ => trivial, fun _ _ => trivial, fun _ _ _ _ => trivial⟩

section
variable {s t : State}

theorem CopyFresh.moved (h : CopyFresh s) (hm : Moved (fun _ => True) s t) : CopyFresh t := by
  intro hx n hn
  rw [hm.executing] at hx
  rw [hm.copyTimer] at hn
  exact h hx n hn

/-- A request that is taken starts a COPY afresh, or leaves none in execution. -/
theorem copyFresh_taken {r : Request} (hfree : s.mgu.executing = none) :
    CopyFresh (takeRequest r s) := by
  unfold takeRequest
  dsimp only
  split
  next => intro _ n hn; cases hn; decide
  next =>
    intro hx
    have kept := moved_runRequest keptByTraffic_true r (s.setTif (s.tif.reserve r.port))
    rw [show (respond r _ _).mgu.executing = none from kept.executing.trans hfree] at hx
    cases hx

theorem copyFresh_finished (s : State) : CopyFresh (finishCopy s) := by
  unfold finishCopy
  split
  next => exact fun hx => by cases hx
  next hx => exact fun hsome => by rw [hx] at hsome; cases hsome

theorem moved_offerTransit (p : Port) (f : Frame) (s : State) :
    Moved (fun _ => True) s (offerTransit p f s) := by
  unfold offerTransit
  split
  next => exact moved_setTif fun _ => trivial
  next => exact moved_trunkError keptByTraffic_true p .drop s

end

theorem copyFresh_kept : KeptNow CopyFresh where
  waits _ h _ := h
  dropped h := h
  take _ _ _ _ hc := copyFresh_taken (canTake_free hc).executing
  copyEnds {s} _ _ _ := copyFresh_finished s
  deadline h _ _ _ := h.moved (moved_closeRound keptByTraffic_true _)
  expiry h _ _ _ := h.moved
    ((moved_of_eq (State.setRct_tif _ _) (State.setRct_mgu _ _)).trans
      (moved_openRound keptByTraffic_true _))
  probeEnd h _ := h.moved (moved_probeExpires keptByTraffic_true _)
  pile p h _ := h.moved (moved_visitPile keptByTraffic_true p _)
  projection h _ := h.moved (moved_project keptByTraffic_true _)
  zone z h _ := h.moved (moved_evaluateZone keptByTraffic_true z _)
  completion h _ := h.moved (moved_completed _)
  sign z _ _ _ h := h.moved (moved_signVisit keptByTraffic_true _ z)
  drain z h _ := h.moved (moved_drainVisit keptByTraffic_true _ z)
  left _ h _ := h
  panel h := h
  framed _ _ h := h
  framerReset _ _ h := h
  counted _ _ _ h := h
  crcError p h := h.moved (moved_trunkError keptByTraffic_true p .crc _)
  forwarded p f _ hg h :=
    ((h.moved (moved_offerTransit p f _)).moved (moved_modPort keptByTraffic_true _ p hg)).moved
      (moved_setTif fun _ => trivial)
  copied p f c h :=
    ((h.moved (moved_offerTransit p f _)).moved (moved_takeSample keptByTraffic_true c _)).moved
      (moved_setTif fun _ => trivial)
  sample c h := h.moved (moved_takeSample keptByTraffic_true c _)
  yard y h := h.moved (moved_takeYard y _)

theorem copyOverdue_fresh {s : State} (h : CopyFresh s) : copyOverdue s = s :=
  copyOverdue_early s fun ⟨hx, hreached⟩ => not_reached_iff.mpr (h hx) hreached

/-! ### What is due (R22, R23, R34, R119) -/

theorem reached_iff {ms : Nat} {timer : Option Nat} :
    reached ms timer = true ↔ ∃ n, timer = some n ∧ ms ≤ n := by
  cases timer <;> simp [reached]

theorem canTake_iff (r : Request) (s : State) : canTake r s = true ↔ MayTake r s := by
  simp only [canTake, Bool.and_eq_true, Option.isNone_iff_eq_none, bne_iff_ne, ne_eq,
    decide_eq_true_eq]
  exact ⟨fun ⟨⟨hx, hp⟩, hroom⟩ => ⟨hx, hp, hroom⟩, fun ⟨hx, hp, hroom⟩ => ⟨⟨hx, hp⟩, hroom⟩⟩

theorem serveQueue_waits {s : State}
    (h : ∀ r rest, s.mgu.requests = r :: rest → ¬ MayTake r s) : serveQueue s = s :=
  serve_waits _ s fun r rest hr => by
    rw [← Bool.not_eq_true, canTake_iff]
    exact h r rest hr

theorem serveQueue_evaluating {s : State} (h : s.rct.phase = .evaluating) : serveQueue s = s :=
  serveQueue_waits fun _ _ _ may => may.phase h

section
variable {s t : State}

theorem atCopyEnd_iff (hr : s.resetHeld = none) : ¬ AtCopyEnd s ↔ CopyFresh s := by
  constructor
  · intro h hx n hn
    by_contra hlate
    exact h ⟨hr, hx, n, hn, by omega⟩
  · rintro h ⟨-, hx, n, hn, hlate⟩
    have := h hx n hn
    omega

theorem atDeadline_iff (hr : s.resetHeld = none) :
    AtDeadline s ↔ s.rct.opState = .run ∧ s.rct.phase = .opened ∧
      reached s.rct.deadlineMs s.rct.roundTimer = true := by
  rw [reached_iff]
  have late (n : Nat) : s.rct.deadlineMs ≤ n ↔ s.rct.period * 50 ≤ n + 100 := by
    change s.rct.period * 50 - 100 ≤ n ↔ _
    omega
  simp only [late]
  exact ⟨fun ⟨_, hrun, hphase, htimer⟩ => ⟨hrun, hphase, htimer⟩,
    fun ⟨hrun, hphase, htimer⟩ => ⟨hr, hrun, hphase, htimer⟩⟩

theorem atExpiry_iff (hr : s.resetHeld = none) :
    AtExpiry s ↔ s.rct.opState = .run ∧ s.rct.phase = .closed ∧
      reached s.rct.periodMs s.rct.roundTimer = true := by
  rw [reached_iff]
  exact ⟨fun ⟨_, hrun, hphase, htimer⟩ => ⟨hrun, hphase, htimer⟩,
    fun ⟨hrun, hphase, htimer⟩ => ⟨hr, hrun, hphase, htimer⟩⟩

theorem atProbeEnd_iff (hr : s.resetHeld = none) :
    AtProbeEnd s ↔ s.rct.probing = true ∧ reached s.rct.periodMs s.rct.probeTimer = true := by
  rw [reached_iff]
  exact ⟨fun ⟨_, hprobe, htimer⟩ => ⟨hprobe, htimer⟩,
    fun ⟨hprobe, htimer⟩ => ⟨hr, hprobe, htimer⟩⟩

/-- Where nothing is due and no request may be taken, time has nothing to do first. -/
theorem settle_of_nothing_due (hr : s.resetHeld = none)
    (hwait : ∀ r rest, s.mgu.requests = r :: rest → ¬ MayTake r s) (hdue : ∀ c, ¬ Due c s) :
    settle s = s := by
  have copy : ¬ AtCopyEnd s := fun h => hdue _ (.inl ⟨rfl, h⟩)
  have other (c : Instr) (h : (c = .closeDeadline ∧ AtDeadline s) ∨
      (c = .roundTimerExpiry ∧ AtExpiry s) ∨ (c = .probeTimerExpiry ∧ AtProbeEnd s) ∨
      EvaluationLate c s) : False := hdue c (.inr ⟨copy, h⟩)
  have deadline := fun h => other _ (.inl ⟨rfl, (atDeadline_iff hr).mpr h⟩)
  have expiry := fun h => other _ (.inr (.inl ⟨rfl, (atExpiry_iff hr).mpr h⟩))
  have probe := fun h => other _ (.inr (.inr (.inl ⟨rfl, (atProbeEnd_iff hr).mpr h⟩)))
  have late : ¬ (s.rct.phase = .evaluating ∧
      reached Config.closeReserveMs s.rct.closeTimer = true) := fun ⟨hphase, htimer⟩ =>
    other _ (.inr (.inr (.inr ⟨hr, hphase, reached_iff.mp htimer, rfl⟩)))
  rw [settle, serveQueue_waits hwait, copyOverdue_fresh ((atCopyEnd_iff hr).mp copy),
    deadlineFalls_early s deadline, evaluationOverdue_early s late, timerExpires_early s expiry,
    probeExpires_early s probe, serveQueue_waits hwait]

/-! ### Commanding what is due -/

/-- A selection takes at most one frame of the insertion queue. -/
theorem PortState.queue_le_select (ps : PortState) :
    ps.queue.length ≤ ps.select.queue.length + 1 := by
  unfold PortState.select
  split
  next hq => split <;> simp [PortState.takeTransit, PortState.takeInsertion, hq]
  next hq => simp [PortState.takeTransit, hq]
  next hq => simp [PortState.takeInsertion, hq]
  next hq => simp [hq]

theorem PortState.select_reserved (ps : PortState) : ps.select.reserved = ps.reserved := by
  unfold PortState.select
  split
  · split <;> rfl
  all_goals rfl

/-- A MARK that is placed takes no room of an insertion queue (R13). -/
theorem Tif.room_placeMark (m : Frame) (t : Tif) (p : Port) :
    ((t.placeMark m).port p).room = (t.port p).room := by
  unfold Tif.placeMark Tif.wake
  split
  next =>
    rw [Tif.select_mark _ .field m rfl, Tif.port_modPort]
    split
    next hp => subst hp; rfl
    next => cases p <;> rfl
  next => cases p <;> rfl

/-- A frame offered to an insertion queue frees no room. -/
theorem Tif.room_offer {t u : Tif} {r : Port} {f : Frame} (ho : t.offer r [f] = some u)
    (p : Port) : (u.port p).room ≤ (t.port p).room := by
  rw [Tif.offer_spec] at ho
  split at ho
  next =>
    cases ho
    unfold Tif.wake
    split
    next =>
      by_cases hp : p = r
      · subst hp
        cases hm : Tif.markFor (t.modPort p fun ps => { ps with queue := ps.queue ++ [f] }) p with
        | some m =>
          rw [Tif.select_mark _ p m hm]
          cases p <;> simp [Tif.modPort, Tif.setPort, Tif.port, PortState.room] <;> omega
        | none =>
          rw [Tif.select_sources _ p hm, Tif.port_modPort, if_pos rfl, Tif.port_modPort, if_pos rfl]
          have held := PortState.queue_le_select { t.port p with queue := (t.port p).queue ++ [f] }
          have reserved :=
            PortState.select_reserved { t.port p with queue := (t.port p).queue ++ [f] }
          simp only [List.length_append, List.length_singleton] at held
          simp only [PortState.room, reserved]
          omega
      · rw [Tif.select_other _ r p hp, Tif.port_modPort, if_neg hp]
    next =>
      rw [Tif.port_modPort]
      split
      · simp only [PortState.room, List.length_append]; omega
      · exact Nat.le_refl _
  next => cases ho

/-- A head that may not be taken may not be taken where an execution, the phase and the room have
not changed for it. -/
theorem serveQueue_still (hwait : ∀ r rest, s.mgu.requests = r :: rest → ¬ MayTake r s)
    (hphase : s.rct.phase ≠ .evaluating) (hrequests : t.mgu.requests = s.mgu.requests)
    (hexecuting : t.mgu.executing = s.mgu.executing)
    (hroom : ∀ p, (t.tif.port p).room ≤ (s.tif.port p).room) : serveQueue t = t :=
  serveQueue_waits fun r rest hr may =>
    hwait r rest (by rw [← hrequests, hr]) ⟨by rw [← hexecuting, may.executing], hphase,
      may.room.trans (hroom r.port)⟩

/-- A COPY ended at its end is the COPY that time ends. -/
theorem settle_copyDone (hwait : ∀ r rest, s.mgu.requests = r :: rest → ¬ MayTake r s)
    (hend : AtCopyEnd s) : settle s = settle (copyDone s) := by
  have ended : copyOverdue s = serveQueue (copyDone s) :=
    if_pos ⟨hend.executing, reached_iff.mpr hend.timer⟩
  have fresh : CopyFresh (serveQueue (copyDone s)) :=
    copyFresh_kept.serveQueue (copyFresh_kept.look (copyFresh_finished s))
  rw [settle, settle, serveQueue_waits hwait, ended, copyOverdue_fresh fresh]

/-- So is a close at its deadline. -/
theorem settle_closeRound (hwait : ∀ r rest, s.mgu.requests = r :: rest → ¬ MayTake r s)
    (hr : s.resetHeld = none) (fresh : CopyFresh s) (hat : AtDeadline s) :
    settle s = settle (closeRound s) := by
  have closes : deadlineFalls s = closeRound s := if_pos ((atDeadline_iff hr).mp hat)
  have phase : (closeRound s).rct.phase = .evaluating := by rw [(closeRound_same s).rct]; rfl
  have fresh' : CopyFresh (closeRound s) := fresh.moved (moved_closeRound keptByTraffic_true s)
  have once : deadlineFalls (closeRound s) = closeRound s :=
    deadlineFalls_early _ fun ⟨_, hopen, _⟩ => by rw [phase] at hopen; cases hopen
  rw [settle, settle, serveQueue_waits hwait, copyOverdue_fresh fresh, closes,
    serveQueue_evaluating phase, copyOverdue_fresh fresh', once]

/-- So is an opening at the round timer's expiry. -/
theorem settle_openRound (hwait : ∀ r rest, s.mgu.requests = r :: rest → ¬ MayTake r s)
    (hr : s.resetHeld = none) (sound : RoundsSound s) (fresh : CopyFresh s) (hat : AtExpiry s) :
    settle s = settle (openRound (s.setRct s.rct.advance)) := by
  have expiry := (atExpiry_iff hr).mp hat
  have opens : timerExpires s = openRound (s.setRct s.rct.advance) := if_pos expiry
  have closed : s.rct.phase ≠ .evaluating := by rw [hat.phase]; simp
  have quiet : deadlineFalls s = s :=
    deadlineFalls_early s fun ⟨_, hopen, _⟩ => by rw [hat.phase] at hopen; cases hopen
  have early (u : State) (hu : u.rct.phase ≠ .evaluating) : evaluationOverdue u = u :=
    evaluationOverdue_early u fun ⟨hev, _⟩ => hu hev
  have waits : serveQueue (openRound (s.setRct s.rct.advance)) =
      openRound (s.setRct s.rct.advance) := by
    rw [openRound_eq]
    exact serveQueue_still hwait closed rfl rfl fun p => by
      change ((s.tif.placeMark _).port p).room ≤ _
      rw [Tif.room_placeMark]
  have fresh' : CopyFresh (openRound (s.setRct s.rct.advance)) :=
    copyFresh_kept.expiry fresh expiry.1 expiry.2.1 expiry.2.2
  have deadline : deadlineFalls (openRound (s.setRct s.rct.advance)) =
      openRound (s.setRct s.rct.advance) := by
    refine deadlineFalls_early _ fun ⟨_, _, hreached⟩ => ?_
    obtain ⟨n, hn, hlate⟩ := reached_iff.mp hreached
    have zero : n = 0 := by rw [openRound_eq] at hn; cases hn; rfl
    have period := sound.period
    change s.rct.period * 50 - 100 ≤ n at hlate
    omega
  have opened : (openRound (s.setRct s.rct.advance)).rct.phase = .opened := by rw [openRound_eq]; rfl
  have once : timerExpires (openRound (s.setRct s.rct.advance)) =
      openRound (s.setRct s.rct.advance) :=
    timerExpires_early _ fun ⟨_, hclosed, _⟩ => by rw [opened] at hclosed; cases hclosed
  rw [settle, settle, serveQueue_waits hwait, copyOverdue_fresh fresh, quiet, early s closed, opens,
    waits, copyOverdue_fresh fresh', deadline, early _ (by rw [opened]; simp), once]

/-- A raised event frees no room (R172). -/
theorem room_raise (c : NoticeClass) (r : Report) (s : State) (p : Port) :
    ((raise c r s).tif.port p).room ≤ (s.tif.port p).room := by
  unfold raise
  dsimp only
  split
  · split
    · exact Nat.le_refl _
    · unfold sendNotice
      dsimp only
      split
      next ho => exact Tif.room_offer ho p
      next => exact Nat.le_refl _
  · exact Nat.le_refl _

/-- So is the end of a probe at its timer's expiry. -/
theorem settle_probeExpires (hwait : ∀ r rest, s.mgu.requests = r :: rest → ¬ MayTake r s)
    (hr : s.resetHeld = none) (sound : RoundsSound s) (fresh : CopyFresh s) (hat : AtProbeEnd s) :
    settle s = settle (probeExpires s) := by
  have expiry := (atProbeEnd_iff hr).mp hat
  have config := (sound.config_of_probing hat.probing).1
  have phase : s.rct.phase ≠ .evaluating := by rw [(sound.config config).phase]; simp
  have ends : probeExpires s = raise .round { subject := 1, old := 0, new := 0, flags := 0 }
      (s.setRct { s.rct with probing := false, probeTimer := none }) := if_pos expiry
  have rct : (probeExpires s).rct = { s.rct with probing := false, probeTimer := none } := by
    rw [ends, raise_rct, State.setRct_rct]
  have moved := moved_probeExpires keptByTraffic_true s
  have fresh' : CopyFresh (probeExpires s) := fresh.moved moved
  have waits : serveQueue (probeExpires s) = probeExpires s :=
    serveQueue_still hwait phase moved.requests moved.executing fun p => by
      rw [ends]; exact room_raise _ _ _ p
  have quiet (u : State) (hu : u.rct.opState = .config) (hphase : u.rct.phase ≠ .evaluating) :
      timerExpires (evaluationOverdue (deadlineFalls u)) = u := by
    have notRun : ¬ u.rct.opState = .run := by rw [hu]; simp
    rw [deadlineFalls_early u fun ⟨hrun, _⟩ => notRun hrun,
      evaluationOverdue_early u fun ⟨hev, _⟩ => hphase hev,
      timerExpires_early u fun ⟨hrun, _⟩ => notRun hrun]
  have once : probeExpires (probeExpires s) = probeExpires s :=
    probeExpires_early _ fun ⟨hprobe, _⟩ => by rw [rct] at hprobe; cases hprobe
  rw [settle, settle, serveQueue_waits hwait, copyOverdue_fresh fresh, quiet s config phase, waits,
    copyOverdue_fresh fresh', quiet _ (by rw [rct]; exact config) (by rw [rct]; exact phase), once, waits]

/-! ### The end of an evaluation (R139) -/

/-- No command to a unit begins an evaluation. -/
theorem runCommand_stage_idle (r : Request) (h : s.stage = .idle) :
    (runCommand r s).1.stage = .idle := by
  unfold runCommand
  split
  case h_1 =>
    unfold runStart
    split
    next => exact h
    next => rw [startRun_eq, reevaluate_stage, openRound_eq]; rfl
  case h_2 =>
    unfold runStop
    split
    next =>
      rw [stopRun_eq, reevaluate_stage, State.setPju_stage, (serviceSigns_signs _).stage]
      rfl
    next => exact h
  case h_3 =>
    unfold runProbe
    split
    next => exact h
    next => exact h
  case h_4 =>
    unfold runSwap
    dsimp only
    split
    next => exact h
    next =>
      split
      next => exact h
      next =>
        split
        next => exact h
        next => exact (exchange_same (s.setPju s.pju.validated)).stage.trans h
  case h_5 =>
    unfold runSnap
    split
    next => exact h
    next => exact h
  case h_6 =>
    unfold runAdmit
    split
    next => exact h
    next => exact h
  case h_7 =>
    unfold runRelax
    dsimp only
    split
    next =>
      split
      next => exact h
      next => exact h
    next => exact h
  case h_8 =>
    unfold runDrill
    dsimp only
    split
    next => exact h
    next =>
      split
      next => rw [drillZones, reevaluate_stage, raiseAll_stage, State.mapZones_stage, h]
      next => exact h
  case h_9 =>
    unfold runEndDrill
    dsimp only
    split
    next => exact h
    next =>
      split
      next => rw [endDrillZones, State.mapZones_stage, h]
      next => exact h
  case h_10 => exact h

theorem Written.stage {w : Word} (h : Written w s t) : t.stage = s.stage := by
  cases h with
  | blocks same => exact same.stage
  | round => rfl
  | station => rfl
  | pile => rfl
  | plume => rfl
  | zoneCfg => rfl
  | refresh => rfl

theorem runRequest_stage_idle (r : Request) (h : s.stage = .idle) :
    (runRequest r s).1.stage = .idle := by
  unfold runRequest
  split_ifs
  · exact h
  · unfold runRead
    dsimp only
    split
    next => exact (clearOnRead_reads _ _ _ _ s).stage.trans h
    next => exact h
  · unfold runWrite
    dsimp only
    split
    case h_4 hw => exact (writeField_written hw).stage.trans h
    all_goals exact h
  · exact runCommand_stage_idle r h
  · exact h

theorem look_stage_idle (h : s.stage = .idle) : (look s).stage = .idle := by
  unfold look
  split
  next => exact h
  next r rest _ =>
    split
    next =>
      unfold takeRequest
      dsimp only
      split
      next => exact h
      next =>
        exact runRequest_stage_idle (s := (s.setMgu { s.mgu with requests := rest }).setTif
          (s.tif.reserve r.port)) r h
    next => exact h

theorem evaluationEnds_stage (s : State) : (evaluationEnds [] s).stage = .idle := by
  rw [evaluationEnds_eq]
  refine look_stage_idle ?_
  change ((enabledZones (completed s)).foldl signVisit (completed s)).stage = .idle
  rw [(SignsOnly.foldl signVisit_signs _ (completed s)).stage, completed_eq]

/-- Every event of an evaluation brings its end nearer. -/
theorem evaluationStep_onward (s : State) :
    (evaluationStep s).stage = .idle ∨
      stepsLeft (evaluationStep s).stage < stepsLeft s.stage := by
  unfold evaluationStep
  cases hs : s.stage with
  | idle => exact .inl hs
  | piles p => exact .inr (by rw [visitPile_stage]; exact stepsLeft_pileStage s p)
  | projecting =>
    refine .inr ?_
    dsimp only
    rw [project_eq, State.setStage_stage]
    exact Nat.lt_of_le_of_lt (stepsLeft_zoneStage _ 0) (by decide)
  | zones z =>
    refine .inr ?_
    dsimp only
    rw [evaluateZone_stage]
    have := stepsLeft_zoneStage s (z.val + 1)
    change stepsLeft (zoneStage s (z.val + 1)) < 33 - z.val
    omega
  | done => exact .inl (evaluationEnds_stage s)

/-- An evaluation has ended after as many events as are left of it. -/
theorem evaluationSteps_stage (n : Nat) (s : State) (hn : stepsLeft s.stage ≤ n) :
    (evaluationSteps n s).stage = .idle := by
  induction n generalizing s with
  | zero =>
    cases hs : s.stage with
    | idle => exact hs
    | piles p | zones p => rw [hs, stepsLeft] at hn; omega
    | projecting | done => rw [hs] at hn; simp [stepsLeft] at hn
  | succ n ih =>
    rcases evaluationStep_onward s with ended | nearer
    · rw [evaluationSteps, evaluationSteps_idle _ _ ended, ended]
    · exact ih _ (by omega)

/-- Events after the end of an evaluation change nothing, however many follow. -/
theorem evaluationSteps_succ (n : Nat) (s : State) (h : (evaluationSteps n s).stage = .idle) :
    evaluationSteps (n + 1) s = evaluationSteps n s := by
  induction n generalizing s with
  | zero => exact evaluationStep_idle s h
  | succ n ih => exact ih (evaluationStep s) h

/-- So is an evaluation whose next event is commanded when its 100 ms have passed. -/
theorem settle_evaluationStep (sound : RoundsSound s) (fresh : CopyFresh s)
    (hphase : s.rct.phase = .evaluating)
    (htimer : reached Config.closeReserveMs s.rct.closeTimer = true) :
    settle s = settle (evaluationStep s) := by
  have overdue : evaluationOverdue s = serveQueue (evaluationSteps 57 (evaluationStep s)) :=
    if_pos ⟨hphase, htimer⟩
  have notOpen : deadlineFalls s = s :=
    deadlineFalls_early s fun ⟨_, hopen, _⟩ => by rw [hphase] at hopen; cases hopen
  have first : settle s =
      serveQueue (probeExpires (timerExpires
        (serveQueue (evaluationSteps 57 (evaluationStep s))))) := by
    rw [settle, serveQueue_evaluating hphase, copyOverdue_fresh fresh, notOpen, overdue]
  have fresh' : CopyFresh (evaluationStep s) := copyFresh_kept.evaluationStep fresh
  have left : stepsLeft s.stage ≤ 58 := stepsLeft_le s.stage
  have last : (evaluationSteps 57 (evaluationStep s)).stage = .idle := by
    rcases evaluationStep_onward s with ended | nearer
    · rw [evaluationSteps_idle _ _ ended, ended]
    · exact evaluationSteps_stage 57 _ (by omega)
  by_cases hended : (evaluationStep s).stage = .idle
  · have quiet : RoundsQuiet True True False False (evaluationStep s) := by
      have start : RoundsQuiet True False False False s :=
        ⟨sound, fun _ hp => (by rw [hphase] at hp; cases hp), nofun, nofun, nofun⟩
      rcases start.evaluationStep with ended | ⟨kept, -⟩
      · exact ended
      · exact ⟨kept.sound, kept.deadline, fun _ hp => absurd hended (kept.sound.chain.mp hp),
          fun _ => nofun, kept.probe⟩
    have served : RoundsQuiet True True False False (serveQueue (evaluationStep s)) :=
      (roundsQuiet_kept True True False False).keptNow.serveQueue quiet
    have fresh'' : CopyFresh (serveQueue (evaluationStep s)) := copyFresh_kept.serveQueue fresh'
    have deadline : deadlineFalls (serveQueue (evaluationStep s)) =
        serveQueue (evaluationStep s) := by
      refine deadlineFalls_early _ fun ⟨_, hopen, hreached⟩ => ?_
      obtain ⟨n, hn, hlate⟩ := reached_iff.mp hreached
      have := served.deadline trivial hopen n hn
      change (serveQueue (evaluationStep s)).rct.period * 50 - 100 ≤ n at hlate
      omega
    have late : evaluationOverdue (serveQueue (evaluationStep s)) =
        serveQueue (evaluationStep s) :=
      evaluationOverdue_early _ fun ⟨hev, hreached⟩ =>
        not_reached_iff.mpr (served.evaluation trivial hev) hreached
    rw [first, evaluationSteps_idle _ _ hended, settle, copyOverdue_fresh fresh'', deadline, late]
  · have sound' : RoundsSound (evaluationStep s) := roundsSound_kept.keptNow.evaluationStep sound
    have phase : (evaluationStep s).rct.phase = .evaluating := sound'.chain.mpr hended
    have rct : (evaluationStep s).rct = s.rct := by
      unfold evaluationStep at hended ⊢
      cases hs : s.stage with
      | idle => rfl
      | piles p => exact (visitPile_same p s).rct
      | projecting => exact project_rct s
      | zones z => exact (evaluateZone_same z s).rct
      | done => rw [hs] at hended; exact absurd (evaluationEnds_stage s) hended
    have notOpen' : deadlineFalls (evaluationStep s) = evaluationStep s :=
      deadlineFalls_early _ fun ⟨_, hopen, _⟩ => by rw [phase] at hopen; cases hopen
    have overdue' : evaluationOverdue (evaluationStep s) =
        serveQueue (evaluationSteps (57 + 1) (evaluationStep s)) :=
      if_pos ⟨phase, by rw [rct]; exact htimer⟩
    rw [first, settle, serveQueue_evaluating phase, copyOverdue_fresh fresh', notOpen', overdue',
      evaluationSteps_succ 57 _ last]

/-! ### Steps on an empty queue of commands -/

/-- The command that is the next event of an evaluation in progress is that event. -/
theorem exec_evaluationLate {c : Instr} (sound : RoundsSound s) (h : EvaluationLate c s) :
    exec c s = .next (evaluationStep s) := by
  have running : s.stage ≠ .idle := sound.chain.mp h.phase
  have hc := h.next
  unfold evaluationStep
  cases hs : s.stage with
  | idle => exact absurd hs running
  | _ =>
    rw [hs] at hc
    subst hc
    refine (whenReleased_free h.released).trans ?_
    simp only [pileTurn, projectionTurn, zoneTurn, completionTurn, hs]

theorem exec_due {c : Instr} (hr : s.resetHeld = none) (sound : RoundsSound s)
    (hwait : ∀ r rest, s.mgu.requests = r :: rest → ¬ MayTake r s) (hdue : Due c s) :
    ∃ t, exec c s = .next t ∧ settle s = settle t := by
  rcases hdue with ⟨rfl, hend⟩ | ⟨hend, ⟨rfl, hat⟩ | ⟨rfl, hat⟩ | ⟨rfl, hat⟩ | hlate⟩
  · exact ⟨_, whenReleased_free hr, settle_copyDone hwait hend⟩
  all_goals have fresh := (atCopyEnd_iff hr).mp hend
  · refine ⟨_, whenReleased_free hr, ?_⟩
    rw [show deadlineFalls s = closeRound s from if_pos ((atDeadline_iff hr).mp hat)]
    exact settle_closeRound hwait hr fresh hat
  · refine ⟨_, whenReleased_free hr, ?_⟩
    rw [show timerExpires s = openRound (s.setRct s.rct.advance) from
      if_pos ((atExpiry_iff hr).mp hat)]
    exact settle_openRound hwait hr sound fresh hat
  · exact ⟨_, whenReleased_free hr, settle_probeExpires hwait hr sound fresh hat⟩
  · exact ⟨_, exec_evaluationLate sound hlate, settle_evaluationStep sound fresh hlate.phase
      (reached_iff.mpr hlate.timer)⟩

theorem step_idle (hp : s.pending = []) (hr : s.resetHeld = none) :
    step s = .next (settle s).passTime := by
  unfold step
  rw [hp]
  exact whenReleased_free hr

/-- No event that is due is a reset or a release. -/
theorem due_not_reset {c : Instr} (h : Due c s) :
    c ≠ .powerOnReset ∧ c ≠ .pinReset ∧ ∀ a, c ≠ .resetRelease a := by
  rcases h with ⟨rfl, -⟩ | ⟨-, ⟨rfl, -⟩ | ⟨rfl, -⟩ | ⟨rfl, -⟩ | hlate⟩
  case inr.inr.inr.inr =>
    have hc := hlate.next
    cases hs : s.stage <;> rw [hs] at hc <;> subst hc <;> exact ⟨nofun, nofun, nofun⟩
  all_goals exact ⟨nofun, nofun, nofun⟩

/-- Settles O1: what is due comes first, whether it is commanded or time brings it. -/
theorem stepRunsTheFrontCommand : Obligations.StepRunsTheFrontCommand := by
  refine ⟨fun c rest s hp => ?_, fun s hp => ⟨fun hheld => ?_, fun hr sound hwait =>
    ⟨fun hdue => ?_, fun c t hdue hexec => ?_⟩⟩⟩
  · unfold step
    rw [hp]
  · unfold step
    rw [hp]
    exact whenReleased_held hheld
  · rw [step_idle hp hr, settle_of_nothing_due hr hwait hdue]
    rfl
  · obtain ⟨u, hu, same⟩ := exec_due hr sound hwait hdue
    cases hu.symm.trans hexec
    obtain ⟨hpower, hpin, hrelease⟩ := due_not_reset hdue
    obtain ⟨hpending, hheld⟩ := exec_outside hexec hpower hpin hrelease
    rw [step_idle hp hr, step_idle (hpending.trans hp) (hheld.trans hr), same]

end

end Sys2Proof.Machine
end

section
/-! Proofs about the receive framer and the frames the part originates (R2 to R6, R8). -/

namespace Sys2Proof.Machine

/-! ### The framer (R3 to R5) -/

section
variable {p : Port} {s : State}

theorem elapse_resetHeld (n : Nat) (s : State) : (s.elapse n).resetHeld = s.resetHeld :=
  ((outside_keptInTime s.pending s.resetHeld).elapse n ⟨rfl, rfl⟩).2

/-- The port's framer after what its port presents, with the stray bytes counted. -/
def framerBecomes (p : Port) (next : Framer) (strays : Nat) (s : State) : State :=
  s.modPort p fun ps =>
    { ps with framer := next, strayBytes := min 65535 (ps.strayBytes + strays) }

theorem framed_eq (p : Port) (rx : Line) (s : State) :
    framed p rx s = framerBecomes p ((s.tif.port p).framer.on rx).next
      ((s.tif.port p).framer.on rx).strays s := rfl

/-- Where no frame arrives the port's framer moves on, and that is all. -/
theorem receive_quiet {rx : Line} {next : Framer} {strays : Nat}
    (h : (s.tif.port p).framer.on rx = { next := next, strays := strays, arrived := none }) :
    receive p rx s = framerBecomes p next strays s := by
  rw [receive_eq, framed_eq, h]

theorem framerBecomes_framer (p : Port) (next : Framer) (strays : Nat) (s : State) :
    ((framerBecomes p next strays s).tif.port p).framer = next := by
  unfold framerBecomes State.modPort
  rw [State.setTif_tif, Tif.port_modPort, if_pos rfl]

/-- A frame meets a framer in HEADER: it is disposed of, and the framer is left behind it. -/
theorem frameArrives_header {f : Frame} (harr : arrivable f = true)
    (hframer : (s.tif.port p).framer = .header) :
    frameArrives p f s = disposeFrame p f (framerReset p f s) := by
  have opened : syncArrives p s = s := if_pos hframer
  unfold frameArrives
  rw [opened]
  simp only [harr, hframer, beq_self_eq_true, Bool.and_self, if_true]
  rfl

/-- A framer's frame is the arrival of that frame. -/
theorem receive_arrived {rx : Line} {f : Frame} (harr : arrivable f = true)
    (h : (s.tif.port p).framer.on rx =
      { next := framerAfter f, strays := 0, arrived := some f }) :
    receive p rx s = frameArrives p f (framerBecomes p .header 0 s) := by
  have same : framerReset p f (framerBecomes p .header 0 s) = framed p rx s := by
    rw [framed_eq, h]
    unfold framerReset framerBecomes State.modPort
    rw [State.setTif_tif, State.setTif_twice, Tif.modPort_modPort]
  rw [receive_eq, h, frameArrives_header harr (framerBecomes_framer p .header 0 s), same]

theorem exec_strayByte (after : Nat) (rx : Line) (hr : s.resetHeld = none) :
    exec (.strayByte after p rx) s = .next (receive p rx (s.elapse after)) :=
  whenReleased_free (f := fun s => receive p rx (s.elapse after)) hr

theorem exec_frameArrival (after : Nat) (f : Frame) (hr : s.resetHeld = none) :
    exec (.frameArrival after p f) s = .next (frameArrives p f (s.elapse after)) :=
  whenReleased_free (f := fun s => frameArrives p f (s.elapse after)) hr

theorem classOfByte_code (c : FrameClass) : classOfByte c.code = some c := by cases c <;> rfl

theorem classOfByte_none {b : Byte} (h : ∀ c : FrameClass, b ≠ c.code) : classOfByte b = none := by
  simp only [classOfByte, show b ≠ 0x11 from h .sample, show b ≠ 0x12 from h .yard,
    show b ≠ 0x21 from h .mark, show b ≠ 0x22 from h .sign, show b ≠ 0x31 from h .mreq,
    show b ≠ 0x32 from h .mrsp, show b ≠ 0x41 from h .notice, if_false]

/-- Inside an unknown-class frame only the 0x3D of a sync pattern is not one more byte of it. -/
theorem unknownByte_inside (bytes : Frame) {pair : Bool} {b : Byte} (h : pair = false ∨ b ≠ 0x3D) :
    unknownByte bytes pair b =
      if (bytes ++ [b]).length < 64 then .quiet (.unknown (bytes ++ [b]) (b == 0xA6))
      else { next := .hunt, strays := 0, arrived := some (bytes ++ [b]) } := by
  refine if_neg ?_
  rcases h with rfl | hb
  · exact Bool.false_ne_true
  · rw [Bool.and_eq_true, beq_iff_eq]
    exact fun ⟨_, hb'⟩ => hb hb'

theorem framerAfter_known {f : Frame} {c : FrameClass} (h : frameClass f = some c) :
    framerAfter f = .hunt := by simp [framerAfter, h]

theorem framerAfter_short {f : Frame} (h : frameClass f = none) (hl : f.length < 64) :
    framerAfter f = .header := by
  have hl' : f.length < Config.longestFrame := hl
  simp [framerAfter, h, hl']

theorem framerAfter_long {f : Frame} (hl : ¬ f.length < 64) : framerAfter f = .hunt := by
  have hl' : ¬ f.length < Config.longestFrame := hl
  simp [framerAfter, hl']

end

/-- Settles O6: each line of R3 to R5 is one line of the framer. -/
theorem framerFollowsTheSyncTable : Obligations.FramerFollowsTheSyncTable := by
  intro after p s hr u framer becomes gives arrives
  have free : u.resetHeld = none := (elapse_resetHeld after s).trans hr
  have quiet (rx : Line) (next : Framer) (strays : Nat)
      (h : framer.on rx = { next := next, strays := strays, arrived := none }) :
      gives rx next strays := by
    change exec (.strayByte after p rx) s = .next (framerBecomes p next strays u)
    rw [exec_strayByte after rx hr, receive_quiet h]
  have arrived (rx : Line) (f : Frame) (harr : arrivable f = true)
      (h : framer.on rx = { next := framerAfter f, strays := 0, arrived := some f }) :
      arrives rx f := by
    change exec (.strayByte after p rx) s = exec (.frameArrival 0 p f) (framerBecomes p .header 0 u)
    rw [exec_strayByte after rx hr, exec_frameArrival 0 f (s := framerBecomes p .header 0 u) free, State.elapse_zero,
      receive_arrived harr h]
  refine ⟨?_, ?_, ?_, ?_, ?_, ?_, ?_, ?_, ?_, ?_, ?_, ?_, ?_, ?_, ?_, ?_, ?_⟩
  · exact fun hf => quiet _ _ _ (by rw [hf]; rfl)
  · exact fun hf b hb => quiet _ _ _ (by rw [hf]; exact if_neg hb)
  · exact fun hf => quiet _ _ _ (by rw [hf]; rfl)
  · exact fun hf => quiet _ _ _ (by rw [hf]; rfl)
  · exact fun hf => quiet _ _ _ (by rw [hf]; rfl)
  · intro hf b hb hb'
    refine quiet _ _ _ ?_
    rw [hf]
    exact (if_neg hb).trans (if_neg hb')
  · exact fun hf => quiet _ _ _ (by rw [hf]; rfl)
  · intro hf c
    refine quiet _ _ _ ?_
    rw [hf]
    cases c <;> rfl
  · intro hf b hb
    refine quiet _ _ _ ?_
    rw [hf]
    simp only [Framer.on, Framer.onByte, classOfByte_none hb]
    rfl
  · exact fun hf => quiet _ _ _ (by rw [hf]; rfl)
  · intro bytes length b hf hl
    refine quiet _ _ _ ?_
    have short : (bytes ++ [b]).length < length := by simpa using hl
    rw [hf]
    exact if_pos short
  · intro bytes length b c hf hl harr hc
    refine arrived _ _ harr ?_
    have long : ¬ (bytes ++ [b]).length < length := by simpa using hl
    rw [hf, framerAfter_known hc]
    exact if_neg long
  · intro bytes length c hf harr hc
    refine arrived _ _ harr ?_
    rw [hf, framerAfter_known hc]
    rfl
  · intro bytes pair b hf hl hpair
    refine quiet _ _ _ ?_
    have short : (bytes ++ [b]).length < 64 := by simpa using hl
    rw [hf]
    exact (unknownByte_inside bytes hpair).trans (if_pos short)
  · intro bytes pair b hf hl hpair harr hc
    refine arrived _ _ harr ?_
    have long : ¬ (bytes ++ [b]).length < 64 := by simpa using hl.ge
    rw [hf, framerAfter_long long]
    exact (unknownByte_inside bytes hpair).trans (if_neg long)
  · intro bytes hf hl harr hc
    refine arrived _ _ harr ?_
    rw [hf, framerAfter_short hc (by simp; omega)]
    rfl
  · exact fun bytes pair hf => quiet _ _ _ (by rw [hf]; rfl)

/-! ### Frames do not move the framers they do not come from (R3) -/

/-- No framer has moved, and no stray byte has been counted. -/
def FramersKept (t u : Tif) : Prop :=
  ∀ q, (u.port q).framer = (t.port q).framer ∧ (u.port q).strayBytes ≤ (t.port q).strayBytes

section
variable {t u v : Tif}

theorem FramersKept.refl (t : Tif) : FramersKept t t := fun _ => ⟨rfl, Nat.le_refl _⟩

theorem FramersKept.trans (h : FramersKept t u) (k : FramersKept u v) : FramersKept t v :=
  fun q => ⟨(k q).1.trans (h q).1, (k q).2.trans (h q).2⟩

theorem framersKept_modPort (t : Tif) (p : Port) {g : PortState → PortState}
    (hg : ∀ x, (g x).framer = x.framer ∧ (g x).strayBytes ≤ x.strayBytes) :
    FramersKept t (t.modPort p g) := by
  intro q
  rw [Tif.port_modPort]
  split
  · exact hg _
  · exact ⟨rfl, Nat.le_refl _⟩

theorem framersKept_counts (t : Tif) (p : Port) {g : PortState → PortState} (hg : CountsOnly g) :
    FramersKept t (t.modPort p g) :=
  framersKept_modPort t p fun x =>
    have ⟨hframer, _, _, _, _, _, hstray⟩ := hg x
    ⟨hframer, hstray⟩

theorem framersKept_setMark (t : Tif) (m : Option Frame) :
    FramersKept t { t with markSlot := m } := by
  intro q
  cases q <;> exact ⟨rfl, Nat.le_refl _⟩

theorem PortState.select_framer (ps : PortState) :
    ps.select.framer = ps.framer ∧ ps.select.strayBytes ≤ ps.strayBytes := by
  unfold PortState.select
  split
  · split <;> exact ⟨rfl, Nat.le_refl _⟩
  all_goals exact ⟨rfl, Nat.le_refl _⟩

theorem framersKept_select (p : Port) (t : Tif) : FramersKept t (t.select p) := by
  unfold Tif.select
  split
  · exact (framersKept_setMark t none).trans
      (framersKept_modPort _ p fun _ => ⟨rfl, Nat.le_refl _⟩)
  · exact framersKept_modPort t p PortState.select_framer

theorem framersKept_wake (p : Port) (t : Tif) : FramersKept t (t.wake p) := by
  unfold Tif.wake
  split
  · exact framersKept_select p t
  · exact FramersKept.refl t

theorem framersKept_offer {p : Port} {group : List Frame} (h : t.offer p group = some u) :
    FramersKept t u := by
  rw [Tif.offer_spec] at h
  split at h
  · cases h
    refine FramersKept.trans ?_ (framersKept_wake p _)
    exact framersKept_modPort t p fun _ => ⟨rfl, Nat.le_refl _⟩
  · cases h

theorem framersKept_keptByTraffic (t₀ : Tif) : KeptByTraffic (FramersKept t₀) where
  offer _ _ ho h := h.trans (framersKept_offer ho)
  mark m h := h.trans ((framersKept_setMark _ (some m)).trans (framersKept_wake .field _))
  counts p _ hg h := h.trans (framersKept_counts _ p hg)

end

section
variable {s t : State}

theorem framersKept_takeRequest (r : Request) (s : State) :
    FramersKept s.tif (takeRequest r s).tif := by
  have reserved : FramersKept s.tif (s.tif.reserve r.port) :=
    framersKept_modPort s.tif r.port fun _ => ⟨rfl, Nat.le_refl _⟩
  unfold takeRequest
  dsimp only
  split
  next => exact reserved
  next =>
    have ran := (moved_runRequest (framersKept_keptByTraffic s.tif) r
      (s.setTif (s.tif.reserve r.port))).tif reserved
    refine ran.trans (FramersKept.trans ?_ (framersKept_wake r.port _))
    exact framersKept_modPort _ r.port fun _ => ⟨rfl, Nat.le_refl _⟩

theorem framersKept_look (s : State) : FramersKept s.tif (look s).tif := by
  unfold look
  split
  next => exact FramersKept.refl _
  next r rest _ =>
    split
    next => exact framersKept_takeRequest r (s.setMgu { s.mgu with requests := rest })
    next => exact FramersKept.refl _

theorem framersKept_serve (n : Nat) (s : State) : FramersKept s.tif (serve n s).tif := by
  induction n generalizing s with
  | zero => exact FramersKept.refl _
  | succ n ih => exact (framersKept_look s).trans (ih (look s))

theorem framersKept_requestArrives (r : Request) (s : State) :
    FramersKept s.tif (requestArrives r s).tif := by
  unfold requestArrives
  dsimp only
  split
  next => exact framersKept_serve _ (requestWaits r s)
  next => exact FramersKept.refl _

theorem framersKept_offerTransit (p : Port) (f : Frame) (s : State) :
    FramersKept s.tif (offerTransit p f s).tif := by
  unfold offerTransit
  split
  next x hx =>
    unfold Tif.enterTransit at hx
    split at hx
    · cases hx
      exact framersKept_modPort s.tif _ fun _ => ⟨rfl, Nat.le_refl _⟩
    · cases hx
  next =>
    exact (moved_trunkError (framersKept_keptByTraffic s.tif) p .drop s).tif (FramersKept.refl _)

theorem framersKept_wakeOutbound (p : Port) (s : State) :
    FramersKept s.tif (wakeOutbound p s).tif := framersKept_wake _ _

theorem framersKept_forwardFrame (p : Port) (f : Frame) (s : State) :
    FramersKept s.tif (forwardFrame p f s).tif :=
  (framersKept_offerTransit p f s).trans (framersKept_wakeOutbound p _)

theorem framersKept_disposeGood (p : Port) (c : FrameClass) (f : Frame) (s : State) :
    FramersKept s.tif (disposeGood p c f s).tif := by
  have counted : FramersKept s.tif
      (s.modPort p fun ps => { ps with goodFrames := bump ps.goodFrames }).tif :=
    framersKept_modPort s.tif p fun _ => ⟨rfl, Nat.le_refl _⟩
  refine counted.trans ?_
  unfold disposeGood
  cases c with
  | sample =>
    dsimp only
    unfold disposeSample
    refine (framersKept_offerTransit p f _).trans ?_
    dsimp only
    split
    next =>
      exact ((moved_takeSample (framersKept_keptByTraffic _) _ _).tif (FramersKept.refl _)).trans
        (framersKept_wakeOutbound p _)
    next =>
      refine FramersKept.trans ?_ (framersKept_wakeOutbound p _)
      exact framersKept_modPort _ p fun _ => ⟨rfl, Nat.le_refl _⟩
  | yard =>
    refine (framersKept_forwardFrame p f _).trans ?_
    exact (moved_takeYard (Q := FramersKept _) _ _).tif (FramersKept.refl _)
  | mreq =>
    dsimp only
    unfold disposeRequest
    split
    next => exact framersKept_requestArrives _ _
    next => exact framersKept_forwardFrame p f _
  | mark | sign | mrsp | notice => exact framersKept_forwardFrame p f _

/-- What becomes of a frame moves no framer. -/
theorem framersKept_disposeFrame (p : Port) (f : Frame) (s : State) :
    FramersKept s.tif (disposeFrame p f s).tif := by
  unfold disposeFrame
  split
  next c _ =>
    split
    next => exact framersKept_disposeGood p c f s
    next =>
      exact ((moved_trunkError (framersKept_keptByTraffic s.tif) p .crc s).tif
        (FramersKept.refl _)).trans (framersKept_forwardFrame p f _)
  next =>
    refine FramersKept.trans ?_ (framersKept_forwardFrame p f _)
    exact framersKept_modPort s.tif p fun _ => ⟨rfl, Nat.le_refl _⟩

end

/-! ### Frames byte by byte (R3 to R5) -/

section
variable {p : Port} {s : State}

/-- A framer goes where its table says, whatever the frame that arrives with it does. -/
theorem receive_framer (p : Port) (rx : Line) (s : State) :
    ((receive p rx s).tif.port p).framer = ((s.tif.port p).framer.on rx).next ∧
      ((receive p rx s).tif.port p).strayBytes ≤ 65535 := by
  have moved : ((framed p rx s).tif.port p).framer = ((s.tif.port p).framer.on rx).next ∧
      ((framed p rx s).tif.port p).strayBytes ≤ 65535 := by
    rw [framed_eq]
    unfold framerBecomes State.modPort
    rw [State.setTif_tif, Tif.port_modPort, if_pos rfl]
    exact ⟨rfl, Nat.min_le_left _ _⟩
  rw [receive_eq]
  split
  next f _ =>
    obtain ⟨hframer, hstray⟩ := framersKept_disposeFrame p f (framed p rx s) p
    exact ⟨hframer.trans moved.1, hstray.trans moved.2⟩
  next => exact moved

theorem receive_resetHeld (p : Port) (rx : Line) (hr : s.resetHeld = none) :
    (receive p rx s).resetHeld = none :=
  (exec_outside (exec_strayByte (p := p) 0 rx hr) nofun nofun nofun).2.trans hr

/-- The sync pattern puts a framer it opens in HEADER. -/
theorem receiveAll_sync (hopens : (s.tif.port p).framer.opens = true)
    (hheader : (s.tif.port p).framer ≠ .header) :
    ((receiveAll p [sync1, sync2] s).tif.port p).framer = .header ∧
      ((receiveAll p [sync1, sync2] s).tif.port p).strayBytes ≤ 65535 := by
  have first := (receive_framer p (.byte sync1) s).1
  obtain ⟨second, hstray⟩ := receive_framer p (.byte sync2) (receive p (.byte sync1) s)
  refine ⟨second.trans ?_, hstray⟩
  rw [first]
  cases hf : (s.tif.port p).framer with
  | hunt => rfl
  | sawA6 => rfl
  | header => exact absurd hf hheader
  | known bytes length => rw [hf] at hopens; cases hopens
  | unknown bytes pair =>
    have short : (bytes ++ [sync1]).length < 64 := by
      rw [hf] at hopens
      simp only [Framer.opens, decide_eq_true_eq] at hopens
      simp only [List.length_append, List.length_singleton]
      omega
    have inside : (Framer.unknown bytes pair).on (.byte sync1) =
        .quiet (.unknown (bytes ++ [sync1]) true) :=
      (unknownByte_inside bytes (.inr (by decide))).trans (if_pos short)
    rw [inside]
    rfl

/-- At such a framer a frame is its sync pattern and then the frame. -/
theorem frameArrives_opens {f : Frame} (hopens : (s.tif.port p).framer.opens = true)
    (hheader : (s.tif.port p).framer ≠ .header) (harr : arrivable f = true) :
    frameArrives p f s =
      disposeFrame p f (framerReset p f (receiveAll p [sync1, sync2] s)) := by
  have synced : syncArrives p s = receiveAll p [sync1, sync2] s := if_neg hheader
  unfold frameArrives
  rw [synced]
  simp only [harr, (receiveAll_sync hopens hheader).1, beq_self_eq_true, Bool.and_self, if_true]
  rfl

theorem framerBecomes_twice (next later : Framer) (s : State) :
    framerBecomes p later 0 (framerBecomes p next 0 s) = framerBecomes p later 0 s := by
  unfold framerBecomes State.modPort
  rw [State.setTif_tif, State.setTif_twice, Tif.modPort_modPort]
  simp

/-- The rest of a known-class frame, byte by byte, is the frame's disposal. -/
theorem receiveAll_known {bytes rest : Frame} {length : Nat} (hrest : rest ≠ [])
    (hlength : bytes.length + rest.length = length)
    (hf : (s.tif.port p).framer = .known bytes length) :
    receiveAll p rest s = disposeFrame p (bytes ++ rest) (framerBecomes p .hunt 0 s) := by
  induction rest generalizing bytes s with
  | nil => exact absurd rfl hrest
  | cons b rest ih =>
    have taken : (s.tif.port p).framer.on (.byte b) = knownByte bytes length b := by rw [hf]; rfl
    simp only [List.length_cons] at hlength
    cases rest with
    | nil =>
      have long : ¬ (bytes ++ [b]).length < length := by simp at hlength ⊢; omega
      have last : (s.tif.port p).framer.on (.byte b) =
          { next := .hunt, strays := 0, arrived := some (bytes ++ [b]) } :=
        taken.trans (if_neg long)
      change receive p (.byte b) s = _
      rw [receive_eq, last, framed_eq, last]
    | cons b' rest =>
      have short : (bytes ++ [b]).length < length := by simp at hlength ⊢; omega
      have inside : receive p (.byte b) s =
          framerBecomes p (.known (bytes ++ [b]) length) 0 s :=
        receive_quiet (taken.trans (if_pos short))
      have later := ih (s := receive p (.byte b) s) (bytes := bytes ++ [b]) (by simp)
        (by simp at hlength ⊢; omega) (by rw [inside, framerBecomes_framer])
      change receiveAll p (b' :: rest) (receive p (.byte b) s) = _
      rw [later, inside, framerBecomes_twice, List.append_assoc]
      rfl

theorem runAll_strayBytes (f : Frame) (hr : s.resetHeld = none) :
    runAll (f.map fun b => .strayByte 0 p (.byte b)) s = .next (receiveAll p f s) := by
  induction f generalizing s with
  | nil => rfl
  | cons b f ih =>
    simp only [List.map_cons, runAll]
    rw [exec_strayByte 0 (.byte b) hr]
    exact ih (receive_resetHeld p (.byte b) hr)

/-- A frame of correct length of a known class can arrive. -/
theorem arrivable_known {c : FrameClass} {f : Frame} (h0 : frameByte f 0 = 0xA6)
    (h1 : frameByte f 1 = 0x3D) (h2 : frameByte f 2 = c.code)
    (hl : f.length = 8 + c.payloadBytes) : frameClass f = some c ∧ arrivable f = true := by
  have known : frameClass f = some c := by
    unfold frameClass
    rw [h2, classOfByte_code]
  refine ⟨known, ?_⟩
  have enough : f.length ≥ 3 := by omega
  have fits : f.length ≤ c.frameBytes := hl.le
  simp [arrivable, known, enough, h0, h1, sync1, sync2, fits]

/-- A frame long enough begins with its three first bytes. -/
theorem frame_cons {f : Frame} (h : 3 ≤ f.length) :
    ∃ rest, f = frameByte f 0 :: frameByte f 1 :: frameByte f 2 :: rest := by
  match f, h with
  | a :: b :: c :: rest, _ => exact ⟨rest, rfl⟩

/-- Byte by byte a known-class frame of correct length is its arrival. -/
theorem receiveAll_frame {c : FrameClass} {f : Frame}
    (hopens : (s.tif.port p).framer.opens = true) (hheader : (s.tif.port p).framer ≠ .header)
    (h0 : frameByte f 0 = 0xA6) (h1 : frameByte f 1 = 0x3D) (h2 : frameByte f 2 = c.code)
    (hl : f.length = 8 + c.payloadBytes) : receiveAll p f s = frameArrives p f s := by
  obtain ⟨known, harr⟩ := arrivable_known h0 h1 h2 hl
  obtain ⟨hframer, hstray⟩ := receiveAll_sync hopens hheader
  obtain ⟨rest, hf⟩ := frame_cons (f := f) (by omega)
  rw [h0, h1, h2] at hf
  have hrest : rest.length = 5 + c.payloadBytes := by
    have := congrArg List.length hf
    simp only [List.length_cons] at this
    omega
  have class_ : receive p (.byte c.code) (receiveAll p [sync1, sync2] s) =
      framerBecomes p (.known [sync1, sync2, c.code] c.frameBytes) 0
        (receiveAll p [sync1, sync2] s) := by
    refine receive_quiet ?_
    rw [hframer]
    simp only [Framer.on, Framer.onByte, classOfByte_code]
    rfl
  have split : receiveAll p f s =
      receiveAll p rest (receive p (.byte c.code) (receiveAll p [sync1, sync2] s)) := by
    rw [hf]
    rfl
  have hunt : framerBecomes p .hunt 0 (receiveAll p [sync1, sync2] s) =
      framerReset p f (receiveAll p [sync1, sync2] s) := by
    unfold framerBecomes framerReset State.modPort Tif.modPort
    dsimp only
    rw [framerAfter_known known, Nat.add_zero, Nat.min_eq_right hstray]
  rw [frameArrives_opens hopens hheader harr, split, class_,
    receiveAll_known (by rintro rfl; simp at hrest; omega) ?_ (framerBecomes_framer p _ 0 _),
    framerBecomes_twice, hunt]
  · rw [hf]
    rfl
  · simp only [List.length_cons, List.length_nil, FrameClass.frameBytes]
    omega

end

/-- Settles O7: the bytes of a frame are its sync pattern, its class byte and the rest. -/
theorem knownFramesAreFramedWhole : Obligations.KnownFramesAreFramedWhole := by
  refine ⟨fun p c f s hr hopens hheader h0 h1 h2 hl => ?_, fun after p f s hr hopens hheader harr => ?_⟩
  · rw [runAll_strayBytes f hr, exec_frameArrival 0 f hr, State.elapse_zero,
      receiveAll_frame hopens hheader h0 h1 h2 hl]
  · have free : (s.elapse after).resetHeld = none := (elapse_resetHeld after s).trans hr
    have free₁ := receive_resetHeld p (.byte 0xA6) free
    have free₂ := receive_resetHeld p (.byte 0x3D) free₁
    simp only [runAll]
    rw [exec_strayByte after _ hr]
    dsimp only
    rw [exec_strayByte 0 _ free₁]
    dsimp only
    rw [State.elapse_zero, exec_frameArrival 0 f free₂, exec_frameArrival after f hr,
      State.elapse_zero, frameArrives_opens hopens hheader harr]
    dsimp only
    exact congrArg Host.Outcome.next
      (frameArrives_header harr (receiveAll_sync hopens hheader).1)

/-! ### Frames the part originates (R2, R6, R8) -/

theorem joinBytes_hi_lo (w : Word) : joinBytes (hiByte w) (loByte w) = w := by
  apply BitVec.eq_of_toNat_eq
  have := w.isLt
  simp only [joinBytes, hiByte, loByte, BitVec.toNat_append, BitVec.extractLsb'_toNat,
    Nat.shiftRight_zero, ← Nat.shiftLeft_add_eq_or_of_lt (Nat.mod_lt _ (by decide : 0 < 2 ^ 8))]
  rw [Nat.shiftRight_eq_div_pow, Nat.shiftLeft_eq]
  omega

/-- What a frame's CRC covers, and the frame built around it. -/
theorem buildFrame_eq (c : FrameClass) (dest src round : Byte) (payload : List Byte) :
    buildFrame c dest src round payload =
      sync1 :: sync2 :: ((c.code :: dest :: src :: round :: payload) ++
        [hiByte (crc16 (c.code :: dest :: src :: round :: payload)),
          loByte (crc16 (c.code :: dest :: src :: round :: payload))]) := rfl

theorem buildFrame_length {c : FrameClass} {dest src round : Byte} {payload : List Byte}
    (h : payload.length = c.payloadBytes) :
    (buildFrame c dest src round payload).length = 8 + c.payloadBytes := by
  simp only [buildFrame_eq, List.length_cons, List.length_append, List.length_nil, h]
  omega

theorem coveredBytes_framed (covered : List Byte) (a b hi lo : Byte) :
    coveredBytes (a :: b :: (covered ++ [hi, lo])) = covered := by
  simp [coveredBytes]

theorem carriedCrc_framed (covered : List Byte) (a b hi lo : Byte) :
    carriedCrc (a :: b :: (covered ++ [hi, lo])) = joinBytes hi lo := by
  simp [carriedCrc, frameByte]

theorem buildFrame_good {c : FrameClass} {dest src round : Byte} {payload : List Byte}
    (h : payload.length = c.payloadBytes) :
    isGood c (buildFrame c dest src round payload) = true := by
  have length := buildFrame_length (dest := dest) (src := src) (round := round) h
  unfold isGood
  rw [length, buildFrame_eq, coveredBytes_framed, carriedCrc_framed, joinBytes_hi_lo]
  simp [FrameClass.frameBytes]

theorem payloadByte_buildFrame {c : FrameClass} {dest src round : Byte} {payload : List Byte}
    {i : Nat} (hi : i < payload.length) :
    payloadByte (buildFrame c dest src round payload) i = payload.getD i 0 := by
  have shift : 6 + i = i + 1 + 1 + 1 + 1 + 1 + 1 := by omega
  unfold payloadByte frameByte
  rw [buildFrame_eq, shift]
  simp [List.getElem?_append_left hi]

/-- Settles O8: a built frame is its header, its payload and their CRC. -/
theorem originatedFramesAreGood : Obligations.OriginatedFramesAreGood := by
  intro c dest src round payload h f
  refine ⟨buildFrame_length h, classOfByte_code c, buildFrame_good h, rfl, rfl, rfl, fun i hi => ?_⟩
  exact payloadByte_buildFrame (by omega)

end Sys2Proof.Machine
end

section
/-! Proofs about what enters the outbound ports: frames that are offered, responses, the MARK, and the
notices of raised events, at a port that is sending or has nothing to send (R12 to R14, R172). -/

namespace Sys2Proof.Machine

/-! ### Frames that enter a port (R12 to R14) -/

/-- The port is sending a frame or has nothing to send (R14). -/
def Ready (t : Tif) (p : Port) : Prop := (t.port p).sending.isSome = true ∨ NothingToSend t p

/-- What an idle port sends, in order, once a MARK and these frames have entered it. -/
def sentOf (p : Port) (mark : Option Frame) (frames : List Frame) : List Frame :=
  if p = .field then mark.toList ++ frames else frames

/-- The frames, and a MARK where one is placed, enter port `p` between `t` and `u`. -/
structure Entered (p : Port) (mark : Option Frame) (frames : List Frame) (t u : Tif) : Prop where
  busy : (t.port p).sending.isSome = true →
    (u.port p).sending = (t.port p).sending ∧ (u.port p).transit = (t.port p).transit ∧
      (u.port p).queue = (t.port p).queue ++ frames
  idle : NothingToSend t p →
    (u.port p).sending = (sentOf p mark frames).head? ∧ (u.port p).transit = [] ∧
      (u.port p).queue = (sentOf p mark frames).tail
  rests : mark = none → p = .field → t.markSlot = none → u.markSlot = none

section
variable {p : Port} {mark : Option Frame} {a b : List Frame} {t u v : Tif}

theorem Entered.queued {s₁ s₂ : State} (h : Entered p mark a s₁.tif s₂.tif) :
    Queued p mark a s₁ s₂ := ⟨h.busy, h.idle⟩

/-- A change that leaves what the port sends and holds. -/
theorem entered_nothing (hsending : (u.port p).sending = (t.port p).sending)
    (htransit : (u.port p).transit = (t.port p).transit)
    (hqueue : (u.port p).queue = (t.port p).queue)
    (hmark : p = .field → t.markSlot = none → u.markSlot = none) : Entered p none [] t u where
  busy _ := ⟨hsending, htransit, by rw [hqueue, List.append_nil]⟩
  idle h := by
    obtain ⟨hs, ht, hq, -⟩ := h
    rw [hsending, htransit, hqueue, hs, ht, hq]
    unfold sentOf
    split <;> exact ⟨rfl, rfl, rfl⟩
  rests _ := hmark

theorem Entered.refl (p : Port) (t : Tif) : Entered p none [] t t :=
  entered_nothing rfl rfl rfl fun _ h => h

/-- A port that has nothing to send still has not where nothing entered it. -/
theorem Entered.nothing (h : Entered p mark a t u) (hn : NothingToSend t p)
    (hempty : sentOf p mark a = []) : NothingToSend u p := by
  obtain ⟨hs, ht, hq⟩ := h.idle hn
  rw [hempty] at hs hq
  refine ⟨hs, ht, hq, fun hp => h.rests ?_ hp (hn.2.2.2 hp)⟩
  rw [sentOf, if_pos hp] at hempty
  cases mark with
  | none => rfl
  | some m => cases hempty

theorem Entered.ready (h : Entered p mark a t u) (hr : Ready t p) : Ready u p := by
  rcases hr with hbusy | hn
  · exact .inl (by rw [(h.busy hbusy).1]; exact hbusy)
  · cases hsent : sentOf p mark a with
    | nil => exact .inr (h.nothing hn hsent)
    | cons f rest =>
      left
      rw [(h.idle hn).1, hsent]
      rfl

/-- Frames that enter one after another. -/
theorem Entered.trans (h : Entered p mark a t u) (k : Entered p none b u v) :
    Entered p mark (a ++ b) t v where
  busy hbusy := by
    obtain ⟨hs, ht, hq⟩ := h.busy hbusy
    obtain ⟨ks, kt, kq⟩ := k.busy (by rw [hs]; exact hbusy)
    exact ⟨ks.trans hs, kt.trans ht, by rw [kq, hq, List.append_assoc]⟩
  idle hn := by
    obtain ⟨hs, ht, hq⟩ := h.idle hn
    have sent : sentOf p mark (a ++ b) = sentOf p mark a ++ b := by
      unfold sentOf
      split
      · rw [List.append_assoc]
      · rfl
    have later : sentOf p none b = b := by
      unfold sentOf
      split <;> rfl
    cases hsent : sentOf p mark a with
    | nil =>
      have := k.idle (h.nothing hn hsent)
      rw [later] at this
      rw [sent, hsent, List.nil_append]
      exact this
    | cons f rest =>
      rw [hsent] at hs hq
      obtain ⟨ks, kt, kq⟩ := k.busy (by rw [hs]; rfl)
      rw [sent, hsent]
      exact ⟨ks.trans hs, kt.trans ht, by rw [kq, hq]; rfl⟩
  rests hmark hp ht := k.rests rfl hp (h.rests hmark hp ht)

/-- What leaves the port as it was may come first. -/
theorem Entered.after (h : Entered p none [] t u) (k : Entered p mark a u v) :
    Entered p mark a t v where
  busy hbusy := by
    obtain ⟨hs, ht, hq⟩ := h.busy hbusy
    obtain ⟨ks, kt, kq⟩ := k.busy (by rw [hs]; exact hbusy)
    exact ⟨ks.trans hs, kt.trans ht, by rw [kq, hq, List.append_nil]⟩
  idle hn := k.idle (h.nothing hn (by unfold sentOf; split <;> rfl))
  rests hmark hp ht := k.rests hmark hp (h.rests rfl hp ht)

/-! ### The operations of TIF (R12 to R14) -/

theorem PortState.select_nothing {ps : PortState} (ht : ps.transit = []) (hq : ps.queue = []) :
    ps.select = { ps with sending := none } := by
  unfold PortState.select
  simp only [ht, hq]

theorem PortState.select_transit {ps : PortState} {f : Frame} {rest : List Frame}
    (ht : ps.transit = f :: rest) (h : ps.queue = [] ∨ ps.lastTaken = .insertion) :
    ps.select = ps.takeTransit f rest := by
  unfold PortState.select
  rcases h with hq | hl
  · simp only [ht, hq]
  · cases hq : ps.queue <;> simp only [ht, hl]

theorem PortState.select_insertion {ps : PortState} {f : Frame} {rest : List Frame}
    (hq : ps.queue = f :: rest) (h : ps.transit = [] ∨ ps.lastTaken = .transit) :
    ps.select = ps.takeInsertion f rest := by
  unfold PortState.select
  rcases h with ht | hl
  · simp only [ht, hq]
  · cases ht : ps.transit <;> simp only [hq, hl]

theorem Tif.markFor_none (hn : NothingToSend t p) : t.markFor p = none := by
  cases p with
  | field => exact hn.2.2.2 rfl
  | quay => rfl

theorem Tif.select_markSlot (p : Port) (t : Tif) (h : t.markSlot = none) :
    (t.select p).markSlot = none := by
  unfold Tif.select
  split
  · exact Tif.modPort_markSlot _ _ _
  · exact (Tif.modPort_markSlot _ _ _).trans h

theorem Tif.wake_markSlot (p : Port) (t : Tif) (h : t.markSlot = none) :
    (t.wake p).markSlot = none := by
  unfold Tif.wake
  split
  · exact Tif.select_markSlot p t h
  · exact h

/-- Frames put behind the newest, whatever else of the port changes beside what it sends and holds;
an idle port then selects. -/
theorem entered_append {g : PortState → PortState} (group : List Frame)
    (hg : ∀ x, (g x).sending = x.sending ∧ (g x).transit = x.transit ∧
      (g x).queue = x.queue ++ group) :
    Entered p none group t ((t.modPort p g).wake p) := by
  have port : (t.modPort p g).port p = g (t.port p) := by rw [Tif.port_modPort, if_pos rfl]
  obtain ⟨gs, gt, gq⟩ := hg (t.port p)
  constructor
  case busy =>
    intro hbusy
    rw [Tif.wake_busy _ _ (by rw [port, gs]; exact hbusy), port]
    exact ⟨gs, gt, gq⟩
  case idle =>
    intro hn
    have mark : (t.modPort p g).markFor p = none := by
      rw [Tif.markFor_modPort]
      exact Tif.markFor_none hn
    obtain ⟨hs, ht, hq, -⟩ := hn
    rw [ht] at gt
    rw [hq, List.nil_append] at gq
    rw [Tif.wake_idle _ _ (by rw [port, gs]; exact hs), Tif.select_sources _ _ mark,
      Tif.port_modPort, if_pos rfl, port]
    have sent : sentOf p none group = group := by unfold sentOf; split <;> rfl
    rw [sent]
    cases group with
    | nil => rw [PortState.select_nothing gt gq]; exact ⟨rfl, gt, gq⟩
    | cons f rest => rw [PortState.select_insertion gq (.inl gt)]; exact ⟨rfl, gt, rfl⟩
  case rests => exact fun _ _ hmark =>
    Tif.wake_markSlot p _ ((Tif.modPort_markSlot _ _ _).trans hmark)

theorem entered_offer {group : List Frame} (ho : t.offer p group = some u) :
    Entered p none group t u := by
  rw [Tif.offer_spec] at ho
  split at ho
  · cases ho
    exact entered_append group fun _ => ⟨rfl, rfl, rfl⟩
  · cases ho

theorem entered_enterReserved (f : Frame) : Entered p none [f] t (t.enterReserved p f) :=
  entered_append [f] fun _ => ⟨rfl, rfl, rfl⟩

/-- What happens at one port leaves the other as it was. -/
theorem entered_other {r : Port} (hport : u.port p = t.port p)
    (hmark : p = .field → r = .quay → u.markSlot = t.markSlot) (hr : p ≠ r) :
    Entered p none [] t u := by
  refine entered_nothing (by rw [hport]) (by rw [hport]) (by rw [hport]) fun hp hm => ?_
  cases r with
  | field => exact absurd hp hr
  | quay => rw [hmark hp rfl, hm]

theorem Tif.modPort_other (t : Tif) {p r : Port} (g : PortState → PortState) (h : p ≠ r) :
    (t.modPort r g).port p = t.port p := by rw [Tif.port_modPort, if_neg h]

theorem Tif.wake_other (t : Tif) {p r : Port} (h : p ≠ r) : (t.wake r).port p = t.port p := by
  unfold Tif.wake
  split
  · exact Tif.select_other t r p h
  · rfl

/-- Only the field port takes the MARK slot. -/
theorem Tif.wake_quay_markSlot (t : Tif) : (t.wake .quay).markSlot = t.markSlot := by
  unfold Tif.wake Tif.select Tif.markFor
  split
  · exact Tif.modPort_markSlot _ _ _
  · rfl

theorem entered_append_other {r : Port} (g : PortState → PortState) (h : p ≠ r) :
    Entered p none [] t ((t.modPort r g).wake r) := by
  refine entered_other (r := r) ?_ (fun _ hr => ?_) h
  · rw [Tif.wake_other _ h, Tif.modPort_other _ _ h]
  · subst hr
    rw [Tif.wake_quay_markSlot, Tif.modPort_markSlot]

theorem entered_offer_other {r : Port} {group : List Frame} (ho : t.offer r group = some u)
    (h : p ≠ r) : Entered p none [] t u := by
  rw [Tif.offer_spec] at ho
  split at ho
  · cases ho
    exact entered_append_other _ h
  · cases ho

/-- A counter, a tally or a reservation is nothing that enters. -/
theorem entered_modPort {r : Port} {g : PortState → PortState}
    (hg : ∀ x, (g x).sending = x.sending ∧ (g x).transit = x.transit ∧ (g x).queue = x.queue) :
    Entered p none [] t (t.modPort r g) := by
  obtain ⟨gs, gt, gq⟩ := hg (t.port p)
  have port : (t.modPort r g).port p = if p = r then g (t.port p) else t.port p :=
    Tif.port_modPort t r p g
  refine entered_nothing ?_ ?_ ?_ fun _ hm => (Tif.modPort_markSlot _ _ _).trans hm
  all_goals rw [port]; split
  all_goals first | assumption | rfl

theorem entered_placeMark (m : Frame) : Entered p (some m) [] t (t.placeMark m) := by
  have slot : ∀ q, ({ t with markSlot := some m } : Tif).port q = t.port q := by
    intro q; cases q <;> rfl
  cases p with
  | field =>
    constructor
    case busy =>
      intro hbusy
      rw [Tif.placeMark, Tif.wake_busy _ _ (by rw [slot]; exact hbusy), slot, List.append_nil]
      exact ⟨rfl, rfl, rfl⟩
    case idle =>
      intro hn
      obtain ⟨hs, ht, hq, -⟩ := hn
      rw [Tif.placeMark, Tif.wake_idle _ _ (by rw [slot]; exact hs), Tif.select_mark _ .field m rfl]
      exact ⟨rfl, ht, hq⟩
    case rests => exact nofun
  | quay =>
    have same : (t.placeMark m).port .quay = t.port .quay := by
      rw [Tif.placeMark, Tif.wake_other _ (by decide), slot]
    have quiet : Entered .quay none [] t (t.placeMark m) :=
      entered_nothing (by rw [same]) (by rw [same]) (by rw [same]) nofun
    exact ⟨quiet.busy, quiet.idle, nofun⟩

end

/-! ### Room (R12) -/

section
variable {p : Port} {t u v : Tif}

theorem Tif.wake_reserved (p q : Port) (t : Tif) :
    ((t.wake p).port q).reserved = (t.port q).reserved := by
  unfold Tif.wake
  split
  · by_cases hq : q = p
    · subst hq; exact (Tif.select_kept t q).1
    · rw [Tif.select_other _ _ _ hq]
  · rfl

theorem offer_reserved {group : List Frame} (ho : t.offer p group = some u) (q : Port) :
    (u.port q).reserved = (t.port q).reserved := by
  rw [Tif.offer_spec] at ho
  split at ho
  · cases ho
    rw [Tif.wake_reserved, Tif.port_modPort]
    split <;> rfl
  · cases ho

theorem offer_some_iff (t : Tif) (p : Port) (group : List Frame) :
    (∃ u, t.offer p group = some u) ↔ group.length ≤ (t.port p).room := by
  rw [Tif.offer_spec]
  split
  next h => exact ⟨fun _ => h, fun _ => ⟨_, rfl⟩⟩
  next h => exact ⟨nofun, fun hl => absurd hl h⟩

theorem offer_none_iff (t : Tif) (p : Port) (group : List Frame) :
    t.offer p group = none ↔ (t.port p).room < group.length := by
  rw [← Nat.not_le, ← offer_some_iff]
  cases t.offer p group <;> simp

/-- The room a group leaves: an idle port sends its first frame, whose place is free again. -/
theorem room_offer_ready (hr : Ready t p) {group : List Frame} (ho : t.offer p group = some u) :
    (u.port p).room = (t.port p).room - group.length +
      if (t.port p).sending.isNone && !group.isEmpty then 1 else 0 := by
  have fits : group.length ≤ (t.port p).room := (offer_some_iff t p group).mp ⟨u, ho⟩
  have entered := entered_offer ho
  have reserved := offer_reserved ho p
  unfold PortState.room at fits ⊢
  rw [reserved]
  rcases hr with hbusy | hn
  · have notIdle : (t.port p).sending.isNone = false := by
      rw [Option.isNone_eq_false_iff]; exact hbusy
    rw [(entered.busy hbusy).2.2, notIdle, List.length_append]
    simp only [Bool.false_and, Bool.false_eq_true, if_false]
    omega
  · have sent : sentOf p none group = group := by unfold sentOf; split <;> rfl
    have queue := (entered.idle hn).2.2
    obtain ⟨hs, -, hq, -⟩ := hn
    rw [queue, sent, hs, hq]
    rw [hq] at fits
    cases group with
    | nil => simp
    | cons f rest =>
      simp only [List.length_cons, List.length_nil, List.tail_cons, Option.isNone_none,
        List.isEmpty_cons, Bool.not_false, Bool.and_self, if_true] at fits ⊢
      omega

/-- A frame that is taken fills one of the places there were. -/
theorem placesFor_taken (hr : Ready t p) {f : Frame} (ho : t.offer p [f] = some u) :
    placesFor p 0 t = placesFor p 0 u + 1 := by
  have fits : 1 ≤ (t.port p).room := (offer_some_iff t p [f]).mp ⟨u, ho⟩
  have room := room_offer_ready hr ho
  have busy : (u.port p).sending.isSome = true := by
    rcases hr with hbusy | hn
    · rw [((entered_offer ho).busy hbusy).1]; exact hbusy
    · rw [((entered_offer ho).idle hn).1]
      unfold sentOf
      split <;> rfl
  unfold placesFor
  rw [busy, room]
  cases hs : (t.port p).sending with
  | none =>
    have positive : ((t.port p).room == 0) = false := by rw [beq_eq_false_iff_ne]; omega
    simp [positive]
    omega
  | some g =>
    simp
    omega

theorem placesFor_full {f : Frame} (ho : t.offer p [f] = none) : placesFor p 0 t = 0 := by
  have full : (t.port p).room = 0 := by
    have := (offer_none_iff t p [f]).mp ho
    simpa using this
  simp [placesFor, full]

/-- A place that is reserved is a place kept back. -/
theorem placesFor_reserve (p : Port) (t : Tif) :
    placesFor p 1 t = placesFor p 0 (t.reserve p) := by
  have port : (t.reserve p).port p =
      { t.port p with reserved := (t.port p).reserved + 1 } := by
    rw [Tif.reserve, Tif.port_modPort, if_pos rfl]
  have room : ((t.reserve p).port p).room = (t.port p).room - 1 := by
    rw [port]
    unfold PortState.room
    dsimp only
    omega
  unfold placesFor
  rw [room, port]
  rfl

theorem placesFor_congr (hport : u.port p = t.port p) (k : Nat) :
    placesFor p k u = placesFor p k t := by
  unfold placesFor
  rw [hport]

end

/-! ### Notices (R172) -/

/-- Between `t` and `u` these notices were sent: those that find places enter the quay queue. -/
structure Noticed (notices : List Frame) (t u : Tif) : Prop where
  entered : Entered .quay none (notices.take (placesFor .quay 0 t)) t u
  places : placesFor .quay 0 u = placesFor .quay 0 t - notices.length

section
variable {a b : List Frame} {s : State} {t u v : Tif}

theorem Noticed.refl (t : Tif) : Noticed [] t t := ⟨by rw [List.take_nil]; exact Entered.refl .quay t, rfl⟩

theorem Noticed.trans (h : Noticed a t u) (k : Noticed b u v) : Noticed (a ++ b) t v := by
  refine ⟨?_, ?_⟩
  · rw [List.take_append, ← h.places]
    exact h.entered.trans k.entered
  · rw [k.places, h.places, List.length_append]
    omega

theorem Noticed.ready (h : Noticed a t u) (hr : Ready t .quay) : Ready u .quay := h.entered.ready hr

/-- Changes of counters, of tallies or of the field port send nothing. -/
theorem noticed_nothing (hentered : Entered .quay none [] t u)
    (hroom : (u.port .quay).room = (t.port .quay).room)
    (hsending : (u.port .quay).sending = (t.port .quay).sending) : Noticed [] t u :=
  ⟨by rw [List.take_nil]; exact hentered, by simp only [placesFor, hroom, hsending]; rfl⟩

/-- The frame of a report of class `c`, as the state numbers and addresses it (R174). -/
def reportFrame (s : State) (c : NoticeClass) (r : Report) : Frame :=
  noticeFrame s.tif.strap s.rct.roundNumber c.code r.subject r.old r.new r.flags

theorem sendNotice_noticed (hr : Ready s.tif .quay) (c : NoticeClass) (r : Report) :
    Noticed [reportFrame s c r] s.tif (sendNotice c r s).tif := by
  unfold sendNotice
  dsimp only
  split
  next x hx =>
    have places := placesFor_taken hr hx
    refine ⟨?_, ?_⟩
    · rw [places, List.take_succ_cons, List.take_nil]
      exact entered_offer hx
    · change placesFor .quay 0 x = _
      rw [places]
      rfl
  next hx =>
    have full := placesFor_full hx
    refine ⟨?_, ?_⟩
    · rw [full]
      exact Entered.refl .quay _
    · change placesFor .quay 0 s.tif = _
      rw [full]
      rfl

/-- What a class's flags make of an event (R172). -/
def Notices.shows (n : Notices) (c : NoticeClass) : Bool :=
  (n.flags c).enable && !(n.flags c).mask

/-- Under its class's mask an event sets the status alone. -/
theorem raise_masked {c : NoticeClass} (r : Report) (hen : (s.mgu.notices.flags c).enable = true)
    (hmask : (s.mgu.notices.flags c).mask = true) :
    raise c r s = s.setNotices (s.mgu.notices.setStatus c) := by
  unfold raise
  simp only [hen, hmask, if_true]

theorem raise_shown {c : NoticeClass} (r : Report) (hen : (s.mgu.notices.flags c).enable = true)
    (hmask : (s.mgu.notices.flags c).mask = false) :
    raise c r s = sendNotice c r (s.setNotices (s.mgu.notices.setStatus c)) := by
  unfold raise
  simp only [hen, hmask, if_true, Bool.false_eq_true, if_false]

/-- An event is shown by its notice, or by its status alone, or not at all (R172). -/
theorem raise_noticed (hr : Ready s.tif .quay) (c : NoticeClass) (r : Report) :
    Noticed (if s.mgu.notices.shows c then [reportFrame s c r] else []) s.tif
      (raise c r s).tif := by
  unfold Notices.shows
  cases hen : (s.mgu.notices.flags c).enable with
  | false =>
    rw [raise_disabled c r s hen]
    exact Noticed.refl s.tif
  | true =>
    cases hmask : (s.mgu.notices.flags c).mask with
    | true =>
      rw [raise_masked r hen hmask]
      exact Noticed.refl s.tif
    | false =>
      rw [raise_shown r hen hmask]
      exact sendNotice_noticed (s := s.setNotices (s.mgu.notices.setStatus c)) hr c r

theorem Notices.setStatus_flags (n : Notices) (c k : NoticeClass) :
    ((n.setStatus c).flags k).enable = (n.flags k).enable ∧
      ((n.setStatus c).flags k).mask = (n.flags k).mask ∧
      ((n.setStatus c).flags k).status = (decide (k = c) || (n.flags k).status) := by
  cases c <;> cases k <;> exact ⟨rfl, rfl, rfl⟩

/-- Sending a notice moves no flag of a class. -/
theorem sendNotice_flags (c k : NoticeClass) (r : Report) (s : State) :
    (sendNotice c r s).mgu.notices.flags k = s.mgu.notices.flags k := by
  unfold sendNotice
  dsimp only
  split <;> cases k <;> rfl

/-- A raised event sets the status of its class while that is enabled, and no other flag (R172). -/
theorem raise_flags (c k : NoticeClass) (r : Report) (s : State) :
    ((raise c r s).mgu.notices.flags k).enable = (s.mgu.notices.flags k).enable ∧
      ((raise c r s).mgu.notices.flags k).mask = (s.mgu.notices.flags k).mask ∧
      ((raise c r s).mgu.notices.flags k).status =
        ((decide (k = c) && (s.mgu.notices.flags k).enable) || (s.mgu.notices.flags k).status) := by
  have set := Notices.setStatus_flags s.mgu.notices c k
  unfold raise
  dsimp only
  split
  next hen =>
    have status : (decide (k = c) && (s.mgu.notices.flags k).enable) = decide (k = c) := by
      by_cases hk : k = c
      · subst hk; simp [hen]
      · simp [hk]
    rw [status]
    split
    next => exact set
    next => rw [sendNotice_flags]; exact set
  next hen =>
    have status : (decide (k = c) && (s.mgu.notices.flags k).enable) = false := by
      by_cases hk : k = c
      · subst hk; simp [hen]
      · simp [hk]
    rw [status]
    exact ⟨rfl, rfl, rfl⟩

theorem raise_shows (c k : NoticeClass) (r : Report) (s : State) :
    (raise c r s).mgu.notices.shows k = s.mgu.notices.shows k := by
  obtain ⟨hen, hmask, -⟩ := raise_flags c k r s
  unfold Notices.shows
  rw [hen, hmask]

/-- No event moves the strap. -/
theorem strap_keptByTraffic (x : BitVec 3) : KeptByTraffic fun t => t.strap = x where
  offer p group ho h := by
    rw [Tif.offer_spec] at ho
    split at ho
    · cases ho
      unfold Tif.wake
      split
      · rw [(Tif.select_kept _ _).2.2, Tif.modPort_strap, h]
      · rw [Tif.modPort_strap, h]
    · cases ho
  mark m h := by
    unfold Tif.placeMark Tif.wake
    split
    · rw [(Tif.select_kept _ _).2.2]; exact h
    · exact h
  counts p g _ h := (Tif.modPort_strap _ _ _).trans h

theorem raise_strap (c : NoticeClass) (r : Report) (s : State) :
    (raise c r s).tif.strap = s.tif.strap :=
  (moved_raise (strap_keptByTraffic s.tif.strap) c r s).tif rfl

theorem raiseAll_strap (events : List (NoticeClass × Report)) (s : State) :
    (raiseAll events s).tif.strap = s.tif.strap :=
  (moved_raiseAll (strap_keptByTraffic s.tif.strap) events s).tif rfl

theorem raise_reportFrame (c k : NoticeClass) (r q : Report) (s : State) :
    reportFrame (raise c r s) k q = reportFrame s k q := by
  unfold reportFrame
  rw [raise_strap, raise_rct]

/-- The notices of the events that are shown, in their order. -/
def shownFrames (s : State) (events : List (NoticeClass × Report)) : List Frame :=
  (events.filter fun e => s.mgu.notices.shows e.1).map fun e => reportFrame s e.1 e.2

theorem shownFrames_cons (s : State) (e : NoticeClass × Report)
    (events : List (NoticeClass × Report)) :
    shownFrames s (e :: events) =
      (if s.mgu.notices.shows e.1 then [reportFrame s e.1 e.2] else []) ++ shownFrames s events := by
  unfold shownFrames
  rw [List.filter_cons]
  split <;> rfl

theorem raiseAll_noticed (events : List (NoticeClass × Report)) (hr : Ready s.tif .quay) :
    Noticed (shownFrames s events) s.tif (raiseAll events s).tif := by
  induction events generalizing s with
  | nil => exact Noticed.refl _
  | cons e events ih =>
    have first := raise_noticed hr e.1 e.2
    have rest := ih (first.ready hr)
    have same : shownFrames (raise e.1 e.2 s) events = shownFrames s events := by
      unfold shownFrames
      simp only [raise_shows, raise_reportFrame]
    rw [same] at rest
    rw [shownFrames_cons]
    exact first.trans rest

/-- A list of events sets the status of each enabled class that occurs in it, and no other flag. -/
theorem raiseAll_flags (events : List (NoticeClass × Report)) (k : NoticeClass) (s : State) :
    ((raiseAll events s).mgu.notices.flags k).enable = (s.mgu.notices.flags k).enable ∧
      ((raiseAll events s).mgu.notices.flags k).mask = (s.mgu.notices.flags k).mask ∧
      ((raiseAll events s).mgu.notices.flags k).status =
        ((events.any (fun e => decide (k = e.1)) && (s.mgu.notices.flags k).enable) ||
          (s.mgu.notices.flags k).status) := by
  induction events generalizing s with
  | nil => exact ⟨rfl, rfl, by simp⟩
  | cons e events ih =>
    obtain ⟨hen, hmask, hstatus⟩ := raise_flags e.1 k e.2 s
    obtain ⟨ken, kmask, kstatus⟩ := ih (raise e.1 e.2 s)
    refine ⟨ken.trans hen, kmask.trans hmask, kstatus.trans ?_⟩
    rw [hstatus, hen, List.any_cons]
    cases decide (k = e.1) <;> cases (s.mgu.notices.flags k).enable <;> simp

/-- Where one class alone is shown, the notices sent are those of its events. -/
theorem shownFrames_class {c : NoticeClass} (hen : (s.mgu.notices.flags c).enable = true)
    (hmask : (s.mgu.notices.flags c).mask = false)
    (hothers : ∀ k, k ≠ c → (s.mgu.notices.flags k).mask = true)
    (events : List (NoticeClass × Report)) :
    shownFrames s events =
      ((events.filter fun e => decide (e.1 = c)).map fun e => e.2).map (reportFrame s c) := by
  have shows (k : NoticeClass) : s.mgu.notices.shows k = decide (k = c) := by
    unfold Notices.shows
    by_cases hk : k = c
    · subst hk; simp [hen, hmask]
    · simp [hothers k hk, hk]
  unfold shownFrames
  simp only [shows, List.map_map]
  refine List.map_congr_left fun e he => ?_
  have hc : e.1 = c := by simpa using (List.mem_filter.mp he).2
  rw [Function.comp_apply, hc]

/-- A command whose notices are those of these events reports them (R172, R174). -/
theorem notified_of_noticed {c : NoticeClass} {l : List Report} {s t : State}
    {notices : List Frame}
    (hframes : (s.mgu.notices.flags c).enable = true → (s.mgu.notices.flags c).mask = false →
      (∀ k, k ≠ c → (s.mgu.notices.flags k).mask = true) → notices = l.map (reportFrame s c))
    (h : Ready s.tif .quay → Noticed notices s.tif t.tif) : Notified c l s t := by
  intro hen hmask hothers
  have frames := hframes hen hmask hothers
  have entered (hr : Ready s.tif .quay) : Queued .quay none
      ((l.take (placesFor .quay 0 s.tif)).map (reportFrame s c) ++ []) s t := by
    have := (h hr).entered.queued
    rwa [frames, ← List.map_take, ← List.append_nil (List.map _ _)] at this
  exact ⟨fun hbusy => (entered (.inl hbusy)).1 hbusy, fun hn => (entered (.inr hn)).2 hn⟩

end

end Sys2Proof.Machine
end

section
/-! Proofs about management requests that are taken at once and change no frame of their own: what is
refused, and the commands COPY, ADMIT and RELAX (R20, R90, R112 to R120, R142, R168, R169). -/

namespace Sys2Proof.Machine

/-! ### A request that is taken at once (R168, R169) -/

section
variable {u : Nat} {op table : Byte} {e : Envelope} {b : Body} {s : State}

/-- What a request does that leaves TIF and the round number as they are: it is counted, done and
answered. -/
theorem ask_answers (h : TakesAtOnce e.port s)
    (hc : ((ownRequest u op table e b s).isCopy && !s.pju.swapPending) = false)
    {f : State → State} {a : Reply}
    (hrun : runRequest (ownRequest u op table e b s) (takenState e.port s) =
      (f (takenState e.port s), a))
    (hf : f (takenState e.port s) = (received (f s)).setTif (takenState e.port s).tif)
    (htif : (f s).tif = s.tif) (hround : (f s).rct.roundNumber = s.rct.roundNumber) :
    ask u op table e b s = received (answered u e a (f s)) := by
  rw [ask_taken u op table e b s h hc, hrun]
  dsimp only
  rw [respond_taken u op table e b a s (f (takenState e.port s)) (by rw [hf]; rfl)
    (by rw [hf]; exact hround), hf]
  have answer : answeredTif u e a (f s) = answeredTif u e a s := by
    unfold answeredTif responseTo
    rw [htif, hround]
  unfold answered
  rw [answer]
  rfl

/-- A request that is refused, or that only answers, is counted and answered. -/
theorem ask_unchanged (h : TakesAtOnce e.port s)
    (hc : ((ownRequest u op table e b s).isCopy && !s.pju.swapPending) = false) {a : Reply}
    (hrun : runRequest (ownRequest u op table e b s) (takenState e.port s) =
      (takenState e.port s, a)) :
    ask u op table e b s = received (answered u e a s) :=
  ask_answers (f := id) h hc hrun rfl rfl rfl

theorem ownRequest_isCopy (hu : u < 4) :
    (ownRequest u op table e b s).isCopy = (op == 3 && u == 0 && table == 5) := by
  unfold Request.isCopy
  rw [ownRequest_unit u hu]
  rfl

theorem notCopy_of_op (hu : u < 4) (hop : op ≠ 3) :
    ((ownRequest u op table e b s).isCopy && !s.pju.swapPending) = false := by
  rw [ownRequest_isCopy hu, beq_eq_false_iff_ne.mpr hop]
  rfl

theorem notCopy_of_table (hu : u < 4) (htable : u ≠ 0 ∨ table ≠ 5) :
    ((ownRequest u op table e b s).isCopy && !s.pju.swapPending) = false := by
  rw [ownRequest_isCopy hu]
  rcases htable with h | h
  · rw [beq_eq_false_iff_ne.mpr h, Bool.and_false]; rfl
  · rw [beq_eq_false_iff_ne.mpr h, Bool.and_false]; rfl

/-- A COMMAND other than COPY runs by its unit and code (R171). -/
theorem runRequest_command (hu : u < 4) (htable : u ≠ 0 ∨ table ≠ 5) (x : State) :
    runRequest (ownRequest u 3 table e b s) x = runCommand (ownRequest u 3 table e b s) x := by
  have notCopy : (ownRequest u 3 table e b s).isCopy = false := by
    rw [ownRequest_isCopy hu]
    rcases htable with h | h
    · rw [beq_eq_false_iff_ne.mpr h, Bool.and_false]; rfl
    · rw [beq_eq_false_iff_ne.mpr h, Bool.and_false]
  have op : (ownRequest u 3 table e b s).op = 3 := rfl
  unfold runRequest
  rw [notCopy, op]
  rfl

theorem runRequest_read (hu : u < 4) (x : State) :
    runRequest (ownRequest u 1 table e b s) x = runRead (ownRequest u 1 table e b s) x := by
  have notCopy : (ownRequest u 1 table e b s).isCopy = false := by
    rw [ownRequest_isCopy hu]; rfl
  have op : (ownRequest u 1 table e b s).op = 1 := rfl
  unfold runRequest
  rw [notCopy, op]
  rfl

theorem runRequest_write (hu : u < 4) (x : State) :
    runRequest (ownRequest u 2 table e b s) x = runWrite (ownRequest u 2 table e b s) x := by
  have notCopy : (ownRequest u 2 table e b s).isCopy = false := by
    rw [ownRequest_isCopy hu]; rfl
  have op : (ownRequest u 2 table e b s).op = 2 := rfl
  unfold runRequest
  rw [notCopy, op]
  rfl

/-- A taken command runs in the state it is taken in. -/
theorem ask_command (hu : u < 4) (htable : u ≠ 0 ∨ table ≠ 5) (h : TakesAtOnce e.port s) :
    ask u 3 table e b s =
      respond (ownRequest u 3 table e b s)
        (runCommand (ownRequest u 3 table e b s) (takenState e.port s)).2
        (runCommand (ownRequest u 3 table e b s) (takenState e.port s)).1 := by
  rw [ask_taken u 3 table e b s h (notCopy_of_table hu htable), runRequest_command hu htable]

/-- A command that leaves TIF and the round number as they are. -/
theorem command_answers (hu : u < 4) (htable : u ≠ 0 ∨ table ≠ 5) (h : TakesAtOnce e.port s)
    {f : State → State} {a : Reply}
    (hrun : runCommand (ownRequest u 3 table e b s) (takenState e.port s) =
      (f (takenState e.port s), a))
    (hf : f (takenState e.port s) = (received (f s)).setTif (takenState e.port s).tif)
    (htif : (f s).tif = s.tif) (hround : (f s).rct.roundNumber = s.rct.roundNumber) :
    ask u 3 table e b s = received (answered u e a (f s)) :=
  ask_answers h (notCopy_of_table hu htable) (by rw [runRequest_command hu htable, hrun]) hf htif
    hround

theorem command_unchanged (hu : u < 4) (htable : u ≠ 0 ∨ table ≠ 5) (h : TakesAtOnce e.port s)
    {a : Reply}
    (hrun : runCommand (ownRequest u 3 table e b s) (takenState e.port s) =
      (takenState e.port s, a)) :
    ask u 3 table e b s = received (answered u e a s) :=
  command_answers (f := id) hu htable h hrun rfl rfl rfl

end

/-! ### The commands of the units (R171, R182) -/

section
variable {e : Envelope} {b : Body} {s x : State}

theorem runCommand_start :
    runCommand (ownRequest 0 3 1 e b s) x = runStart (ownRequest 0 3 1 e b s) x := by
  unfold runCommand
  rw [ownRequest_unit 0 (by decide)]
  rfl

theorem runCommand_stop :
    runCommand (ownRequest 0 3 2 e b s) x = runStop (ownRequest 0 3 2 e b s) x := by
  unfold runCommand
  rw [ownRequest_unit 0 (by decide)]
  rfl

theorem runCommand_probe :
    runCommand (ownRequest 0 3 3 e b s) x = runProbe (ownRequest 0 3 3 e b s) x := by
  unfold runCommand
  rw [ownRequest_unit 0 (by decide)]
  rfl

theorem runCommand_swap :
    runCommand (ownRequest 0 3 4 e b s) x = runSwap (ownRequest 0 3 4 e b s) x := by
  unfold runCommand
  rw [ownRequest_unit 0 (by decide)]
  rfl

theorem runCommand_snap :
    runCommand (ownRequest 0 3 6 e b s) x = runSnap (ownRequest 0 3 6 e b s) x := by
  unfold runCommand
  rw [ownRequest_unit 0 (by decide)]
  rfl

theorem runCommand_admit :
    runCommand (ownRequest 1 3 1 e b s) x = runAdmit (ownRequest 1 3 1 e b s) x := by
  unfold runCommand
  rw [ownRequest_unit 1 (by decide)]
  rfl

theorem runCommand_relax :
    runCommand (ownRequest 3 3 1 e b s) x = runRelax (ownRequest 3 3 1 e b s) x := by
  unfold runCommand
  rw [ownRequest_unit 3 (by decide)]
  rfl

theorem runCommand_drill :
    runCommand (ownRequest 3 3 2 e b s) x = runDrill (ownRequest 3 3 2 e b s) x := by
  unfold runCommand
  rw [ownRequest_unit 3 (by decide)]
  rfl

theorem runCommand_endDrill :
    runCommand (ownRequest 3 3 3 e b s) x = runEndDrill (ownRequest 3 3 3 e b s) x := by
  unfold runCommand
  rw [ownRequest_unit 3 (by decide)]
  rfl

end

/-! ### RELAX (R142) -/

/-- Settles O47: RELAX checks the zone, the state and the record, and lowers the hold. -/
theorem relaxShortensAHold : Obligations.RelaxShortensAHold := by
  intro e b s h
  have run (x : State) : runCommand (ownRequest 3 3 1 e b s) x =
      runRelax (ownRequest 3 3 1 e b s) x := runCommand_relax
  refine ⟨fun hindex => ?_, fun z hindex => ?_⟩
  · refine (whenReleased_free h.released).trans (congrArg _ ?_)
    refine command_unchanged (by decide) (.inl (by decide)) h ?_
    rw [run]
    unfold runRelax
    rw [show (ownRequest 3 3 1 e b s).body = b from rfl, indexOf_beyond hindex]
    rfl
  have index : indexOf 32 (ownRequest 3 3 1 e b s).body.index.toNat = some z := indexOf_val hindex
  have allowed : (takenState e.port s).zoneCfg z = s.zoneCfg z := rfl
  have zone : (takenState e.port s).zone z = s.zone z := rfl
  have running : (takenState e.port s).running = s.running := rfl
  refine ⟨fun hno => ?_, fun hrun hallow hlevel => ?_, fun hrun hallow hlevel => ?_⟩
  · refine (whenReleased_free h.released).trans (congrArg _ ?_)
    refine command_unchanged (by decide) (.inl (by decide)) h ?_
    have no : (s.running && (s.zoneCfg z).relaxAllowed) = false := by
      rcases hno with hconfig | hallow
      · rw [(not_running_iff _).mpr hconfig]; rfl
      · rw [hallow, Bool.and_false]
    rw [run]
    unfold runRelax
    rw [index]
    dsimp only
    rw [running, allowed, no]
    rfl
  all_goals
    refine (whenReleased_free h.released).trans (congrArg _ ?_)
    have yes : (s.running && (s.zoneCfg z).relaxAllowed) = true := by
      rw [(running_iff _).mpr hrun, hallow]; rfl
  · refine command_answers (f := fun x => x.setZone z { s.zone z with hold := min (s.zone z).hold 2 })
      (by decide) (.inl (by decide)) h ?_ rfl rfl rfl
    rw [run]
    unfold runRelax
    rw [index]
    dsimp only
    rw [running, allowed, yes, zone, if_pos rfl, if_neg hlevel]
    rfl
  · refine command_unchanged (by decide) (.inl (by decide)) h ?_
    rw [run]
    unfold runRelax
    rw [index]
    dsimp only
    rw [running, allowed, yes, zone, if_pos rfl, if_pos hlevel]
    rw [← zone, State.setZone_self]
    rfl

/-! ### ADMIT (R90) -/

/-- ADMIT clears the counts and gives a station that was out its place back. -/
theorem admitted_eq (st : Station) :
    st.admitted =
      { st with
        health :=
          { st.health with
            state :=
              if st.health.state = .retired ∨ st.health.state = .stale then
                if st.cfg.inService then .unseen else .off
              else st.health.state
            faults := 0, missed := 0 } } := by
  unfold Station.admitted
  cases h : st.health.state <;> simp [h]

theorem inService_iff (c : StationCfg) :
    c.inService = true ↔ c.kind ≠ .absent ∧ c.enable = true := by
  simp [StationCfg.inService]

/-- Settles O31: ADMIT's new health state is a case of the old one and of the service. -/
theorem admitBringsAStationBack : Obligations.AdmitBringsAStationBack := by
  intro e b s h
  refine ⟨fun hindex => ?_, fun i hindex => ?_⟩
  · refine (whenReleased_free h.released).trans (congrArg _ ?_)
    refine command_unchanged (by decide) (.inl (by decide)) h ?_
    rw [runCommand_admit]
    unfold runAdmit
    rw [show (ownRequest 1 3 1 e b s).body = b from rfl, indexOf_beyond hindex]
    rfl
  intro rec inService gives
  have station : (takenState e.port s).station i = s.station i := rfl
  have given : gives (s.station i).admitted.health.state := by
    refine ⟨_, whenReleased_free h.released, ?_⟩
    have run : runCommand (ownRequest 1 3 1 e b s) (takenState e.port s) =
        (reevaluate ((takenState e.port s).setStation i (s.station i).admitted),
          (ownRequest 1 3 1 e b s).reply .ok (s.station i).admitted.health.state.code) := by
      rw [runCommand_admit]
      unfold runAdmit
      rw [show indexOf 48 (ownRequest 1 3 1 e b s).body.index.toNat = some i from indexOf_val hindex]
      dsimp only
      rw [station]
    have answered := respond_taken 1 3 1 e b
      ((ownRequest 1 3 1 e b s).reply .ok (s.station i).admitted.health.state.code) s
      (reevaluate ((takenState e.port s).setStation i (s.station i).admitted)) rfl rfl
    rw [ask_command (by decide) (.inl (by decide)) h, run]
    dsimp only
    rw [answered]
    refine ⟨?_, rfl, rfl, rfl, rfl, rfl, rfl, rfl, rfl, rfl,
      (linesSound_setTif _ _).mpr (linesSound_reevaluate _)⟩
    change tableSet s.stu i (s.station i).admitted = _
    rw [admitted_eq]
  have state : (s.station i).admitted.health.state =
      if rec.state = .retired ∨ rec.state = .stale then
        if (s.station i).cfg.inService then .unseen else .off
      else rec.state := by rw [admitted_eq]
  rw [state] at given
  refine ⟨fun hout hin => ?_, fun hout hin => ?_, fun hret hstale => ?_⟩
  · rwa [if_pos hout, if_pos ((inService_iff _).mpr hin)] at given
  · rwa [if_pos hout, if_neg (fun hs => hin ((inService_iff _).mp hs))] at given
  · rwa [if_neg (not_or.mpr ⟨hret, hstale⟩)] at given

/-! ### COPY (R119) -/

theorem finishCopy_of_executing {r : Request} (s : State) (hr : s.mgu.executing = some r) :
    finishCopy s = respond r (r.reply .ok (flagCode s.pju.copied.standby.valid))
      ((s.setPju s.pju.copied).setMgu { s.mgu with executing := none, copyTimer := none }) := by
  unfold finishCopy
  rw [hr]
  rfl

theorem copied_active (p : Pju) : p.copied.active = p.active := by
  unfold Pju.copied Pju.setStandby Pju.active
  cases p.activeIs1 <;> simp

theorem copied_standby (p : Pju) : p.copied.standby = p.active := by
  unfold Pju.copied Pju.setStandby Pju.standby Pju.active
  cases p.activeIs1 <;> simp

/-- Settles O42: the copy's place is reserved when it is accepted, and its response takes it. -/
theorem copyRunsAndAnswers : Obligations.CopyRunsAndAnswers := by
  refine ⟨fun e b s h hno => ?_, fun r s hfree hr hempty => ?_⟩
  · refine ⟨ownRequest 0 3 5 e b s, rfl, ?_⟩
    refine (whenReleased_free h.released).trans (congrArg _ ?_)
    rw [ask_copy e b s h hno]
    rfl
  · refine ⟨_, whenReleased_free hfree, ?_⟩
    rw [copyDone, look_empty _ (by rw [finishCopy_of_executing s hr]; exact hempty),
      finishCopy_of_executing s hr, copied_standby]
    refine ⟨rfl, copied_standby _, copied_active _, rfl, rfl, rfl, rfl, rfl, rfl, rfl, rfl, ?_⟩
    unfold respond Tif.enterReserved
    rfl

end Sys2Proof.Machine
end

section
/-! Proofs about what SWAP and START validate, which failure they name, and what the exchange of an
accepted SWAP does (R20, R112 to R121). -/

namespace Sys2Proof.Machine

/-! ### The first failure (R114, R120) -/

/-- The first index that a search finds something at is where it stops. -/
theorem findSome_indices {α : Type} {n : Nat} {f : Fin n → Option α} {i : Fin n} {x : α}
    (hbefore : ∀ j, j < i → f j = none) (hi : f i = some x) : (indices n).findSome? f = some x := by
  rw [indices, List.findSome?_eq_some_iff]
  refine ⟨(List.finRange n).take i, i, (List.finRange n).drop (i + 1), ?_, hi, fun j hj => ?_⟩
  · have split := List.drop_eq_getElem_cons (l := List.finRange n) (i := i.val) (by simp)
    rw [List.getElem_finRange] at split
    exact ((List.take_append_drop i.val _).symm.trans (congrArg _ split))
  · refine hbefore j ?_
    obtain ⟨k, hk, rfl⟩ := List.mem_take_iff_getElem.mp hj
    rw [List.getElem_finRange]
    exact Fin.mk_lt_of_lt_val (by simp at hk; omega)

theorem firstFailure_some {zones : Vector ZoneCfg 32} {check : ZoneCfg → FailedField} {z : Fin 32}
    {field : Nat} (hbefore : ∀ y : Fin 32, y < z → zones[y].enable = true → check zones[y] = none)
    (henable : zones[z].enable = true) (hz : check zones[z] = some field) :
    firstFailure zones check = some (z, field) := by
  refine findSome_indices (i := z) (fun y hy => ?_) ?_
  · cases hen : zones[y].enable with
    | true => exact (if_pos rfl).trans (congrArg (Option.map _) (hbefore y hy hen))
    | false => rfl
  · rw [if_pos henable, hz]
    rfl

section
variable {kindOf : Fin 48 → Kind} {c : ZoneCfg}

/-- The slot names a station that is no DUST station. -/
def NotDust (kindOf : Fin 48 → Kind) (slot : Option (Fin 48)) : Prop :=
  ∃ i, slot = some i ∧ kindOf i ≠ .dust

theorem any_notDust (slot : Option (Fin 48)) :
    (slot.any fun i => kindOf i ≠ .dust) = true ↔ NotDust kindOf slot := by
  cases slot <;> simp [NotDust]

theorem dust_of_notDust_none :
    (∀ i, some i ∈ c.confirmSlots → kindOf i = .dust) ↔
      ∀ slot ∈ c.confirmSlots, ¬ NotDust kindOf slot := by
  constructor
  · rintro h slot hslot ⟨i, rfl, hi⟩
    exact hi (h i hslot)
  · intro h i hi
    by_contra hkind
    exact h _ hi ⟨i, rfl, hkind⟩

theorem checkConfirmKinds_first (h1 : NotDust kindOf c.confirm1) :
    checkConfirmKinds kindOf c = some 10 := if_pos ((any_notDust _).mpr h1)

theorem checkConfirmKinds_second (h1 : ¬ NotDust kindOf c.confirm1)
    (h2 : NotDust kindOf c.confirm2) : checkConfirmKinds kindOf c = some 11 :=
  (if_neg (mt (any_notDust _).mp h1)).trans (if_pos ((any_notDust _).mpr h2))

theorem checkConfirmKinds_third (h1 : ¬ NotDust kindOf c.confirm1)
    (h2 : ¬ NotDust kindOf c.confirm2) (h3 : NotDust kindOf c.confirm3) :
    checkConfirmKinds kindOf c = some 12 :=
  (if_neg (mt (any_notDust _).mp h1)).trans
    ((if_neg (mt (any_notDust _).mp h2)).trans (if_pos ((any_notDust _).mpr h3)))

theorem any_badSign (slot : Option Byte) :
    (slot.any fun a => !isSignAddress a) = true ↔
      ∃ a, slot = some a ∧ ¬ (64 ≤ a.toNat ∧ a.toNat ≤ 191) := by
  cases slot with
  | none => simp
  | some a => simp [isSignAddress, imp_iff_not_or]

/-- The record passes its checks up to those of its signs. -/
theorem checkZoneRecord_signs {inRun : Bool} (hrising : c.watch < c.warn ∧ c.warn < c.alert)
    (hnamed : c.confirmRequired = true → ∃ i, some i ∈ c.confirmSlots)
    (hkinds : inRun = true → ∀ slot ∈ c.confirmSlots, ¬ NotDust kindOf slot) :
    checkZoneRecord inRun kindOf c = checkSigns c := by
  have kinds : (if inRun then checkConfirmKinds kindOf c else none) = none := by
    rw [ite_eq_right_iff]
    intro hrun
    exact (checkConfirmKinds_none _ _).mpr (dust_of_notDust_none.mpr (hkinds hrun))
  unfold checkZoneRecord
  rw [(checkThresholds_none c).mpr hrising, (checkConfirmNamed_none c).mpr hnamed, kinds]
  rfl

theorem checkZoneRecord_kinds (hrising : c.watch < c.warn ∧ c.warn < c.alert)
    (hnamed : c.confirmRequired = true → ∃ i, some i ∈ c.confirmSlots) {field : Nat}
    (hkinds : checkConfirmKinds kindOf c = some field) :
    checkZoneRecord true kindOf c = some field := by
  unfold checkZoneRecord
  rw [(checkThresholds_none c).mpr hrising, (checkConfirmNamed_none c).mpr hnamed, if_pos rfl, hkinds]
  rfl

theorem checkZoneRecord_named {inRun : Bool} (hrising : c.watch < c.warn ∧ c.warn < c.alert)
    (hnamed : ¬ (c.confirmRequired = true → ∃ i, some i ∈ c.confirmSlots)) :
    checkZoneRecord inRun kindOf c = some 10 := by
  have fails : checkConfirmNamed c = some 10 := by
    have some_of := mt (checkConfirmNamed_none c).mp hnamed
    unfold checkConfirmNamed at some_of ⊢
    exact (ite_eq_left_iff.mpr fun hno => absurd (if_neg hno) some_of)
  unfold checkZoneRecord
  rw [(checkThresholds_none c).mpr hrising, fails]
  rfl

theorem checkZoneRecord_thresholds {inRun : Bool}
    (hrising : ¬ (c.watch < c.warn ∧ c.warn < c.alert)) :
    checkZoneRecord inRun kindOf c = some 3 := by
  unfold checkZoneRecord checkThresholds
  rw [if_neg hrising]
  rfl

end

/-! ### START's refusals (R20, R120) -/

section
variable {e : Envelope} {b : Body} {s : State}

theorem start_refused (h : TakesAtOnce e.port s) {a : Reply}
    (hrefuse : startRefusal (ownRequest 0 3 1 e b s) s = some a) :
    exec (.start e b) s = .next (received (answered 0 e a s)) := by
  refine (whenReleased_free h.released).trans (congrArg _ ?_)
  refine command_unchanged (by decide) (.inr (by decide)) h ?_
  have refuse : startRefusal (ownRequest 0 3 1 e b s) (takenState e.port s) = some a := hrefuse
  rw [runCommand_start]
  unfold runStart
  rw [refuse]

theorem startRefusal_wrongState (r : Request)
    (h : s.rct.opState = .run ∨ s.rct.probing = true ∨ s.pju.active.valid = false) :
    startRefusal r s = some (r.refuse .wrongState) := by
  unfold startRefusal
  by_cases hrun : (s.running || s.rct.probing) = true
  · rw [if_pos hrun]
  · rw [if_neg hrun, if_pos]
    rw [Bool.or_eq_true, running_iff, not_or] at hrun
    tauto

theorem startRefusal_cross (r : Request) (hop : s.rct.opState = .config)
    (hprobe : s.rct.probing = false) (hvalid : s.pju.active.valid = true) {c : CrossFailure}
    (hc : crossFailure s = some c) :
    startRefusal r s = some (namedFailure c.table c.index c.field c.unit) := by
  unfold startRefusal
  rw [(not_running_iff _).mpr hop, hprobe, hvalid, hc]
  rfl

theorem pileFailure_some {p : Fin 24} {field : Nat}
    (hbefore : ∀ q, q < p → (s.pile q).cfg.enable = true →
      s.kindOf (s.pile q).cfg.primary = .anemo ∧
        ∀ i, (s.pile q).cfg.fallback = some i → s.kindOf i = .anemo)
    (henable : (s.pile p).cfg.enable = true)
    (hp : (if s.kindOf (s.pile p).cfg.primary ≠ .anemo then some (p, 2)
      else if (s.pile p).cfg.fallback.any fun i => s.kindOf i ≠ .anemo then some (p, 3)
      else none) = some (p, field)) :
    pileFailure s = some (p, field) := by
  refine findSome_indices (i := p) (fun q hq => ?_) ?_
  · dsimp only
    cases hen : (s.pile q).cfg.enable with
    | false => rfl
    | true =>
      obtain ⟨hprimary, hfallback⟩ := hbefore q hq hen
      rw [if_pos rfl, if_neg (not_not_intro hprimary), if_neg]
      cases hf : (s.pile q).cfg.fallback with
      | none => exact Bool.false_ne_true
      | some i => simp [hfallback i hf]
  · dsimp only
    rw [if_pos henable, hp]

/-- Settles O16: the search of R120 stops at the first record that fails. -/
theorem refusedStartChangesNothing : Obligations.RefusedStartChangesNothing := by
  intro e b s h refused checked notDust anemo
  refine ⟨fun hwrong => start_refused h (startRefusal_wrongState _ hwrong), ?_, ?_⟩
  · intro z hchecked hbefore henable c names
    obtain ⟨hop, hprobe, hvalid⟩ := hchecked
    have named {field : Nat} (hz : checkConfirmKinds s.kindOf c = some field) :
        startRefusal (ownRequest 0 3 1 e b s) s = some (namedFailure 1 z.val field 3) := by
      refine startRefusal_cross (c := { table := 1, index := z.val, field := field, unit := 3 })
        _ hop hprobe hvalid ?_
      unfold crossFailure
      rw [firstFailure_some (z := z) (field := field) (fun y hy hen => ?_) henable hz]
      exact (checkConfirmKinds_none _ _).mpr (dust_of_notDust_none.mpr (hbefore y hy hen))
    exact ⟨fun h1 => start_refused h (named (checkConfirmKinds_first h1)),
      fun h1 h2 => start_refused h (named (checkConfirmKinds_second h1 h2)),
      fun h1 h2 h3 => start_refused h (named (checkConfirmKinds_third h1 h2 h3))⟩
  · intro p hchecked hzones hbefore henable names
    obtain ⟨hop, hprobe, hvalid⟩ := hchecked
    have named {field : Nat} (hp : pileFailure s = some (p, field)) :
        startRefusal (ownRequest 0 3 1 e b s) s = some (namedFailure 0 p.val field 2) := by
      refine startRefusal_cross (c := { table := 0, index := p.val, field := field, unit := 2 })
        _ hop hprobe hvalid ?_
      have zones : firstFailure s.pju.active.zones (checkConfirmKinds s.kindOf) = none :=
        (firstFailure_none _ _).mpr fun z hen =>
          (checkConfirmKinds_none _ _).mpr (dust_of_notDust_none.mpr (hzones z hen))
      unfold crossFailure
      rw [zones, hp]
      rfl
    refine ⟨fun hprimary => ?_, fun i hprimary hfallback hi => ?_⟩
    · exact start_refused h (named (pileFailure_some hbefore henable (if_pos hprimary)))
    · refine start_refused h (named (pileFailure_some hbefore henable ?_))
      refine (if_neg (not_not_intro hprimary)).trans (if_pos ?_)
      rw [hfallback]
      exact decide_eq_true hi

/-! ### SWAP (R114 to R117) -/

theorem swap_refused (h : TakesAtOnce e.port s) (hno : s.pju.swapPending = false) {z : Fin 32}
    {field : Nat} (hfail : swapFailure s = some (z, field)) :
    exec (.swap e b) s = .next (received (answered 0 e (namedFailure 0 z.val field 3) s)) := by
  refine (whenReleased_free h.released).trans (congrArg _ ?_)
  refine command_unchanged (by decide) (.inr (by decide)) h ?_
  have fails : swapFailure (takenState e.port s) = some (z, field) := hfail
  have pending : (takenState e.port s).pju.swapPending = false := hno
  rw [runCommand_swap]
  unfold runSwap
  rw [pending, fails]
  rfl

/-- Settles O41: each clause is one outcome of the checks of R114 on the first record that fails. -/
theorem swapNamesTheFailingField : Obligations.SwapNamesTheFailingField := by
  intro e b s z h hno c inRun notDust badSign refused rising named monitors henable hbefore
  have stops {field : Nat} (hz : checkZoneRecord s.running s.kindOf c = some field) :
      exec (.swap e b) s = .next (received (answered 0 e (namedFailure 0 z.val field 3) s)) := by
    refine swap_refused h hno (firstFailure_some (fun y hy hen => ?_) henable hz)
    obtain ⟨hvalid, hkinds⟩ := hbefore y hy hen
    exact (checkZoneRecord_none _ _ _).mpr
      ⟨hvalid, fun hrun => dust_of_notDust_none.mpr (hkinds ((running_iff _).mp hrun))⟩
  have kinds {field : Nat} (hrising : rising) (hnamed : named) (hrun : inRun)
      (hk : checkConfirmKinds s.kindOf c = some field) :
      checkZoneRecord s.running s.kindOf c = some field := by
    rw [(running_iff _).mpr hrun]
    exact checkZoneRecord_kinds hrising hnamed hk
  have signs (hrising : rising) (hnamed : named) (hmonitors : monitors) :
      checkZoneRecord s.running s.kindOf c = checkSigns c :=
    checkZoneRecord_signs hrising hnamed fun hrun => hmonitors ((running_iff _).mp hrun)
  refine ⟨fun hrising => stops (checkZoneRecord_thresholds hrising),
    fun hrising hnamed => stops (checkZoneRecord_named hrising hnamed),
    fun hr hn hrun h1 => stops (kinds hr hn hrun (checkConfirmKinds_first h1)),
    fun hr hn hrun h1 h2 => stops (kinds hr hn hrun (checkConfirmKinds_second h1 h2)),
    fun hr hn hrun h1 h2 h3 => stops (kinds hr hn hrun (checkConfirmKinds_third h1 h2 h3)),
    fun hr hn hm h1 => stops ((signs hr hn hm).trans ?_),
    fun hr hn hm h1 h2 => stops ((signs hr hn hm).trans ?_)⟩
  · exact if_pos ((any_badSign _).mpr h1)
  · exact (if_neg (mt (any_badSign _).mp h1)).trans (if_pos ((any_badSign _).mpr h2))

end

/-! ### An accepted SWAP (R113 to R117) -/

section
variable {e : Envelope} {b : Body} {s : State}

theorem validated_active (p : Pju) : p.validated.active = p.active := by
  unfold Pju.validated Pju.setStandby Pju.active
  cases p.activeIs1 <;> simp

theorem validated_standby (p : Pju) : p.validated.standby = { p.standby with valid := true } := by
  unfold Pju.validated Pju.setStandby Pju.standby
  cases p.activeIs1 <;> simp

theorem validated_activeIs1 (p : Pju) : p.validated.activeIs1 = p.activeIs1 := by
  unfold Pju.validated Pju.setStandby
  cases p.activeIs1 <;> simp

theorem validated_contributions (p : Pju) : p.validated.contributions = p.contributions := by
  unfold Pju.validated Pju.setStandby
  cases p.activeIs1 <;> rfl

theorem disabledByExchange_iff (s : State) (z : Fin 32) :
    disabledByExchange s.pju z = true ↔ ExchangeDisables s z := by
  unfold disabledByExchange ExchangeDisables
  rw [Bool.and_eq_true, Bool.not_eq_true']

theorem disabledByExchange_validated (p : Pju) (z : Fin 32) :
    disabledByExchange p.validated z = disabledByExchange p z := by
  unfold disabledByExchange
  rw [validated_active, validated_standby]

/-- An exchange that disables no zone in drill reports nothing. -/
theorem exchange_quiet (h : ∀ z, disabledByExchange s.pju z = true → (s.zone z).drillTimer = 0) :
    exchange s = reevaluate (exchangedBlocks s) := by
  have none : exchangeDrillEnds s = [] := by
    unfold exchangeDrillEnds
    rw [List.filterMap_eq_nil_iff]
    intro z _
    rw [if_neg]
    rw [Bool.and_eq_true, decide_eq_true_iff]
    rintro ⟨hd, ht⟩
    rw [h z hd] at ht
    cases ht
  rw [exchange_eq, none]
  rfl

theorem reevaluate_exchanged_out (x : State) :
    (reevaluate (exchangedBlocks x)).out =
      { x.out with
        service := (reevaluate (exchangedBlocks x)).out.service
        wl := (reevaluate (exchangedBlocks x)).out.wl
        svc := (reevaluate (exchangedBlocks x)).out.svc } := by
  have lines (y : State) : (reevaluate y).out =
      { y.out with wl := (reevaluate y).out.wl, svc := (reevaluate y).out.svc } := rfl
  have service (y : State) : (reevaluate y).out.service = y.out.service := rfl
  have blocks : (exchangedBlocks x).out =
      { x.out with service := (exchangedBlocks x).out.service } := rfl
  rw [service]
  refine (lines _).trans ?_
  generalize reevaluate (exchangedBlocks x) = y
  rw [blocks]

theorem swap_number (b : Body) (s : State) :
    (ownRequest 0 3 4 e b s).reply .ok s.pju.standbyNumber =
      echo .ok 4 b (if s.pju.activeIs1 then 0 else 1) := by
  unfold Pju.standbyNumber
  cases s.pju.activeIs1 <;> rfl

/-- Settles O40: the exchange in CONFIG is `exchange` of the validated banks, with no drill to end. -/
theorem validSwapsExchangeOrWait : Obligations.ValidSwapsExchangeOrWait := by
  refine ⟨fun e b s h hconfig hno hvalid hdrills => ?_, fun e b s h hrun hno hvalid => ?_⟩
  · let x := (takenState e.port s).setPju s.pju.validated
    have quiet : exchange x = reevaluate (exchangedBlocks x) :=
      exchange_quiet fun z hz =>
        hdrills z ((disabledByExchange_iff s z).mp (by
          rw [← disabledByExchange_validated]; exact hz))
    have run : runCommand (ownRequest 0 3 4 e b s) (takenState e.port s) =
        (reevaluate (exchangedBlocks x), echo .ok 4 b (if s.pju.activeIs1 then 0 else 1)) := by
      have fails : swapFailure (takenState e.port s) = none := (swapFailure_none_iff s).mpr hvalid
      have pending : (takenState e.port s).pju.swapPending = false := hno
      have config : (takenState e.port s).running = false := (not_running_iff _).mpr hconfig
      rw [runCommand_swap]
      unfold runSwap
      rw [pending, fails, ← swap_number, ← quiet]
      exact (if_neg Bool.false_ne_true).trans (if_neg (Bool.not_eq_true _ ▸ config))
    have answered := respond_taken 0 3 4 e b (echo .ok 4 b (if s.pju.activeIs1 then 0 else 1)) s
      (reevaluate (exchangedBlocks x)) rfl rfl
    refine ⟨_, whenReleased_free h.released, ?_⟩
    rw [ask_command (by decide) (.inr (by decide)) h, run]
    dsimp only
    rw [answered]
    have zone (z : Fin 32) : (exchangedBlocks x).zone z =
        if disabledByExchange s.pju z then (s.zone z).stopped else s.zone z := by
      rw [exchangedBlocks_zone]
      change (if disabledByExchange s.pju.validated z then (s.zone z).stopped else s.zone z) = _
      rw [disabledByExchange_validated]
    have service (z : Fin 32) : (exchangedBlocks x).out.service[z] =
        if disabledByExchange s.pju z then [] else s.out.service[z] := by
      rw [exchangedBlocks_service]
      change (if disabledByExchange s.pju.validated z then [] else s.out.service[z]) = _
      rw [disabledByExchange_validated]
    have active : s.pju.validated.exchanged.active = { s.pju.standby with valid := true } := by
      rw [exchanged_active, validated_standby]
    have standby : s.pju.validated.exchanged.standby = s.pju.active := by
      rw [exchanged_standby, validated_active]
    have feeders : s.pju.validated.exchanged.feeders = feederMasks s.pju.standby.plume := by
      rw [exchanged_feeders, validated_standby]
    have pointer : s.pju.validated.exchanged.activeIs1 = !s.pju.activeIs1 :=
      congrArg not (validated_activeIs1 s.pju)
    refine ⟨pointer, rfl, active, standby, feeders, validated_contributions _, fun z hz => ?_,
      fun z hz => ?_, (linesSound_setTif _ _).mpr (linesSound_reevaluate _),
      reevaluate_exchanged_out x, rfl, rfl, rfl, rfl, rfl, rfl, rfl⟩
    · have disabled : disabledByExchange s.pju z = true := (disabledByExchange_iff s z).mpr hz
      change ((exchangedBlocks x).zone z).AtRest ∧ ((exchangedBlocks x).zone z).refresh = _ ∧
        ((exchangedBlocks x).zone z).signPending = _ ∧ (exchangedBlocks x).out.service[z] = _
      rw [zone, service, if_pos disabled, if_pos disabled]
      exact ⟨Zone.stopped_rest _, rfl, rfl, rfl⟩
    · have kept : ¬ disabledByExchange s.pju z = true := mt (disabledByExchange_iff s z).mp hz
      change (exchangedBlocks x).zone z = _ ∧ (exchangedBlocks x).out.service[z] = _
      rw [zone, service, if_neg kept, if_neg kept]
      exact ⟨rfl, rfl⟩
  · refine (whenReleased_free h.released).trans (congrArg _ ?_)
    refine command_answers (f := fun x => x.setPju { s.pju.validated with swapPending := true })
      (by decide) (.inr (by decide)) h ?_ rfl rfl rfl
    have fails : swapFailure (takenState e.port s) = none := (swapFailure_none_iff s).mpr hvalid
    have pending : (takenState e.port s).pju.swapPending = false := hno
    have running : (takenState e.port s).running = true := (running_iff _).mpr hrun
    rw [runCommand_swap]
    unfold runSwap
    rw [pending, fails, ← swap_number]
    exact (if_neg Bool.false_ne_true).trans (if_pos running)

end

end Sys2Proof.Machine
end

section
/-! Proofs about WRITE requests: how a value is judged by its field, what a write stores and what it
answers, table by table (R19, R37, R91, R94, R110 to R112, R158 to R164, R169 to R172, R182,
R183). -/

namespace Sys2Proof.Machine

/-! ### Writes taken at once (R169, R170) -/

section
variable {u : Nat} {table : Byte} {e : Envelope} {b : Body} {s : State}

/-- The status a write is refused with. -/
def WriteResult.refusal : WriteResult → Option Status
  | .badAddress => some .badAddr
  | .wrongState => some .wrongState
  | .badValue => some .badValue
  | .done _ _ => none

theorem runWrite_refused {r : Request} {x : Status}
    (h : (writeField r.unit r.table.toNat r.body.index.toNat r.body.field.toNat r.body.data s).refusal =
      some x) : runWrite r s = (s, r.refuse x) := by
  unfold runWrite
  dsimp only
  generalize writeField r.unit r.table.toNat r.body.index.toNat r.body.field.toNat r.body.data s = w at h
  cases w <;> cases h <;> rfl

/-- A write that is refused is answered with the request's own data. -/
theorem ask_write_refused (hu : u < 4) (h : TakesAtOnce e.port s) {x : Status}
    (hw : (writeField u table.toNat b.index.toNat b.field.toNat b.data
      (takenState e.port s)).refusal = some x) :
    ask u 2 table e b s = received (answered u e (echo x table b b.data) s) := by
  refine ask_unchanged h (notCopy_of_op hu (by decide)) ?_
  rw [runRequest_write hu, runWrite_refused (x := x)]
  · rfl
  · rw [ownRequest_unit u hu]
    exact hw

/-- A write that is done answers the value stored. -/
theorem runWrite_done {x t : State} {status : Status} {value : Nat}
    (hu : u < 4)
    (hw : writeField u table.toNat b.index.toNat b.field.toNat b.data x = .done t status)
    (hread : readField u table.toNat b.index.toNat b.field.toNat t = some value) :
    runWrite (ownRequest u 2 table e b s) x =
      (t, echo status table b (BitVec.ofNat 16 value)) := by
  unfold runWrite
  dsimp only
  rw [ownRequest_unit u hu, show (ownRequest u 2 table e b s).table = table from rfl,
    show (ownRequest u 2 table e b s).body = b from rfl, hw]
  dsimp only
  rw [hread]
  rfl

/-- A write that is done is answered with the value stored. -/
theorem ask_write_done (hu : u < 4) (h : TakesAtOnce e.port s) {status : Status} {value : Nat}
    {g : State → State}
    (hw : writeField u table.toNat b.index.toNat b.field.toNat b.data (takenState e.port s) =
      .done (g (takenState e.port s)) status)
    (hread : readField u table.toNat b.index.toNat b.field.toNat (g (takenState e.port s)) =
      some value)
    (hg : g (takenState e.port s) = (received (g s)).setTif (takenState e.port s).tif)
    (htif : (g s).tif = s.tif) (hround : (g s).rct.roundNumber = s.rct.roundNumber) :
    ask u 2 table e b s =
      received (answered u e (echo status table b (BitVec.ofNat 16 value)) (g s)) := by
  refine ask_answers h (notCopy_of_op hu (by decide)) ?_ hg htif hround
  rw [runRequest_write hu, runWrite_done hu hw hread]

end

/-! ### Judged values (R169, R179) -/

section
variable {α β : Type} {w : Word}

/-- A value brought into its range: stored where it was the one given, clamped where not. -/
def Judged.brought (same : Bool) (x : α) : Judged α := if same then .stored x else .clamped x

theorem judgeMagnitude_eq {lo hi : Nat} (hlh : lo ≤ hi) :
    judgeMagnitude lo hi w =
      .brought (max lo (min hi w.toNat) == w.toNat) (max lo (min hi w.toNat)) := by
  unfold judgeMagnitude Judged.brought
  by_cases hlo : w.toNat < lo
  · have low : max lo (min hi w.toNat) = lo := by omega
    rw [if_pos hlo, low, if_neg (by simp; omega)]
  · by_cases hhi : hi < w.toNat
    · have high : max lo (min hi w.toNat) = hi := by omega
      rw [if_neg hlo, if_pos hhi, high, if_neg (by simp; omega)]
    · have kept : max lo (min hi w.toNat) = w.toNat := by omega
      rw [if_neg hlo, if_neg hhi, kept, if_pos (by simp)]

theorem judgeFlag_code {x : Bool} (h : w.toNat = flagCode x) : judgeFlag w = .stored x := by
  unfold judgeFlag
  cases x <;> simp [h, flagCode]

theorem judgeFlag_bad (h : 2 ≤ w.toNat) : judgeFlag w = .bad := by
  unfold judgeFlag
  rw [if_neg (by omega), if_neg (by omega)]

theorem flagCode_of_le {n : Nat} (h : n ≤ 1) : ∃ x : Bool, n = flagCode x := by
  interval_cases n
  · exact ⟨false, rfl⟩
  · exact ⟨true, rfl⟩

theorem judgeStation_val {i : Fin 48} (h : w.toNat = i.val) : judgeStation w = .stored i := by
  unfold judgeStation
  rw [indexOf_val h]
  rfl

theorem judgeStation_bad (h : 48 ≤ w.toNat) : judgeStation w = .bad := by
  unfold judgeStation
  rw [indexOf_beyond h]
  rfl

theorem judgeOptStation_val {i : Fin 48} (h : w.toNat = i.val) :
    judgeOptStation w = .stored (some i) := by
  unfold judgeOptStation
  rw [if_neg (by omega), judgeStation_val h]
  rfl

theorem judgeOptStation_none (h : w.toNat = 255) : judgeOptStation w = .stored none := if_pos h

theorem judgeOptStation_bad (h : 48 ≤ w.toNat) (hn : w.toNat ≠ 255) :
    judgeOptStation w = .bad := by
  unfold judgeOptStation
  rw [if_neg hn, judgeStation_bad h]
  rfl

theorem judgeOptSign_bad (h : 256 ≤ w.toNat) : judgeOptSign w = .bad := by
  unfold judgeOptSign
  rw [if_neg (by omega), if_neg (by omega)]

/-- A sign word is stored as the address, or none, of its code (R182). -/
theorem judgeOptSign_stored (h : w.toNat ≤ 255) :
    ∃ a, judgeOptSign w = .stored a ∧ optSignCode a = w.toNat := by
  unfold judgeOptSign
  by_cases hn : w.toNat = 255
  · exact ⟨none, if_pos hn, hn.symm⟩
  · refine ⟨some (w.extractLsb' 0 8), (if_neg hn).trans (if_pos (by omega)), ?_⟩
    change (w.extractLsb' 0 8).toNat = _
    rw [BitVec.extractLsb'_toNat, Nat.shiftRight_zero]
    omega

theorem storeJudged_forbidden {permitted : Bool} {j : Option (Judged α)} (store : α → State)
    (hp : permitted = false) (hj : j.isSome = true) :
    (storeJudged permitted j store).refusal = some .wrongState := by
  obtain ⟨v, rfl⟩ := Option.isSome_iff_exists.mp hj
  rw [hp]
  rfl

theorem storeJudged_bad {permitted : Bool} (store : α → State) (hp : permitted = true) :
    (storeJudged permitted (some .bad) store).refusal = some .badValue := by
  rw [hp]
  rfl

theorem storeJudged_brought {permitted : Bool} {j : Option (Judged α)} (store : α → State)
    (hp : permitted = true) {same : Bool} {x : α} (hj : j = some (.brought same x)) :
    storeJudged permitted j store = .done (store x) (if same then .ok else .clamped) := by
  rw [hp, hj]
  cases same <;> rfl

theorem brought_into (same : Bool) (x : α) (store : α → β) :
    (Judged.brought same x).into store = .brought same (store x) := by
  cases same <;> rfl

end

/-! ### Fields that are set -/

/-- A record whose fields are the old ones with one set reads back as stored. -/
theorem fields_set {l m : List Nat} {f v : Nat} (h : m = l.set f v) (hf : f < l.length) :
    m[f]? = some v ∧ ∀ g, g ≠ f → m[g]? = l[g]? := by
  rw [h]
  exact ⟨List.getElem?_set_self hf, fun g hg => List.getElem?_set_ne hg.symm⟩

theorem brought_status (m n : Nat) :
    (if (m == n) = true then Status.ok else .clamped) = if m = n then .ok else .clamped := by
  by_cases h : m = n <;> simp [h]

/-! ### Station configuration (R37, R62, R74, R78, R81, R91) -/

section
variable {e : Envelope} {b : Body} {s x : State}

theorem stationCfg_write_isSome {c : StationCfg} {f : Nat} {w : Word} (hf : f < 18) :
    (c.write f w).isSome = true := by
  interval_cases f <;> rfl

theorem stationCfg_write_unknown {c : StationCfg} {f : Nat} {w : Word} (hf : 18 ≤ f) :
    c.write f w = none := by
  obtain ⟨k, rfl⟩ := Nat.exists_eq_add_of_le' hf
  rfl

theorem writeField_station {i : Fin 48} {n f : Nat} {w : Word} (hi : n = i.val) :
    writeField 1 0 n f w x =
      storeJudged (!x.running) ((x.station i).cfg.write f w) fun c =>
        x.setStation i
          (if f ≤ 1 then (x.station i).writeService c else { x.station i with cfg := c }) := by
  change writeStation n f w x = _
  unfold writeStation
  rw [indexOf_val hi]

theorem stationWrite_refused (h : TakesAtOnce e.port s) {y : Status}
    (hw : (writeField 1 0 b.index.toNat b.field.toNat b.data (takenState e.port s)).refusal =
      some y) :
    exec (.stationConfigWrite e b) s = .next (received (answered 1 e (echo y 0 b b.data) s)) :=
  (whenReleased_free h.released).trans (congrArg _ (ask_write_refused (by decide) h hw))

theorem stationWrite_wrongState (h : TakesAtOnce e.port s) {i : Fin 48}
    (hi : b.index.toNat = i.val) (hf : b.field.toNat < 18) (hrun : s.rct.opState = .run) :
    exec (.stationConfigWrite e b) s =
      .next (received (answered 1 e (echo .wrongState 0 b b.data) s)) := by
  refine stationWrite_refused h ?_
  rw [writeField_station hi]
  refine storeJudged_forbidden _ ?_ (stationCfg_write_isSome hf)
  exact congrArg not ((running_iff s).mpr hrun)

theorem stationWrite_badValue (h : TakesAtOnce e.port s) {i : Fin 48}
    (hi : b.index.toNat = i.val) (hconfig : s.rct.opState = .config)
    (hj : (s.station i).cfg.write b.field.toNat b.data = some .bad) :
    exec (.stationConfigWrite e b) s =
      .next (received (answered 1 e (echo .badValue 0 b b.data) s)) := by
  have judged : ((takenState e.port s).station i).cfg.write b.field.toNat b.data = some .bad := hj
  refine stationWrite_refused h ?_
  rw [writeField_station hi, judged]
  exact storeJudged_bad _ (congrArg not ((not_running_iff s).mpr hconfig))

theorem stationWrite_stored (h : TakesAtOnce e.port s) {i : Fin 48}
    (hi : b.index.toNat = i.val) (hconfig : s.rct.opState = .config) {same : Bool}
    {c : StationCfg} {st : Station} {value : Nat}
    (hj : (s.station i).cfg.write b.field.toNat b.data = some (.brought same c))
    (hst : (if b.field.toNat ≤ 1 then (s.station i).writeService c
      else { s.station i with cfg := c }) = st)
    (hcfg : st.cfg = c) (hread : c.fields[b.field.toNat]? = some value) :
    exec (.stationConfigWrite e b) s =
      .next (received (answered 1 e
        (echo (if same then .ok else .clamped) 0 b (BitVec.ofNat 16 value))
        (s.setStation i st))) := by
  refine (whenReleased_free h.released).trans (congrArg _ ?_)
  refine ask_write_done (g := fun y => y.setStation i st) (by decide) h ?_ ?_ rfl rfl rfl
  · rw [← hst]
    refine (writeField_station (x := takenState e.port s) hi).trans ?_
    exact storeJudged_brought _ (congrArg not ((not_running_iff s).mpr hconfig)) hj
  · change ((indexOf 48 b.index.toNat).map _).bind _ = _
    rw [indexOf_val hi]
    change (((takenState e.port s).setStation i st).station i).cfg.fields[b.field.toNat]? = _
    rw [State.station_setStation, if_pos rfl, hcfg, hread]

/-- The fields of the station configuration that are magnitudes, with their bounds. -/
def stationMagnitudes : List (Nat × Nat × Nat) :=
  [(2, 0, 7), (4, 0, 4095), (5, 0, 4095), (6, 1, 255), (8, 0, 255), (9, 3, 6), (10, 4, 7),
    (11, 0, 1406), (12, 0, 1406), (13, 0, 1023), (14, 1, 4), (15, 3, 6), (16, 1, 15), (17, 0, 255)]

theorem stationCfg_magnitude (c : StationCfg) (w : Word) {row : Nat × Nat × Nat}
    (hrow : row ∈ stationMagnitudes) :
    ∃ store : Nat → StationCfg,
      c.write row.1 w = some ((judgeMagnitude row.2.1 row.2.2 w).into store) ∧
      row.2.1 ≤ row.2.2 ∧ 2 ≤ row.1 ∧ row.1 < 18 ∧
      ∀ v, (store v).fields = c.fields.set row.1 v := by
  simp only [stationMagnitudes, List.mem_cons, List.not_mem_nil, or_false] at hrow
  rcases hrow with rfl | rfl | rfl | rfl | rfl | rfl | rfl | rfl | rfl | rfl | rfl | rfl | rfl | rfl
  all_goals exact ⟨_, rfl, by decide, by decide, by decide, fun _ => rfl⟩

theorem rotation_of_code {n : Nat} (h : n ≤ 2) :
    ∃ r : Rotation, rotationOfCode n = some r ∧ r.code = n := by
  interval_cases n
  · exact ⟨.direct, rfl, rfl⟩
  · exact ⟨.skewPlus, rfl, rfl⟩
  · exact ⟨.skewMinus, rfl, rfl⟩

theorem rotationOfCode_beyond {n : Nat} (h : 3 ≤ n) : rotationOfCode n = none := by
  obtain ⟨k, rfl⟩ := Nat.exists_eq_add_of_le' h
  rfl

/-- Settles O33: every field's write sets one field of the record. -/
theorem stationWritesStoreTheirFields : Obligations.StationWritesStoreTheirFields := by
  intro e b s h f n refused
  refine ⟨fun hno => ?_, fun hindex hf hrun => stationWrite_wrongState h (i := ⟨_, hindex⟩) rfl hf hrun,
    fun i hconfig hi => ?_⟩
  · refine stationWrite_refused h ?_
    rcases hno with hindex | hf
    · change (writeStation _ _ _ _).refusal = _
      unfold writeStation
      rw [indexOf_beyond hindex]
      rfl
    · by_cases hindex : b.index.toNat < 48
      · rw [writeField_station (i := ⟨_, hindex⟩) rfl, stationCfg_write_unknown hf]
        rfl
      · change (writeStation _ _ _ _).refusal = _
        unfold writeStation
        rw [indexOf_beyond (Nat.le_of_not_lt hindex)]
        rfl
  intro stores
  have stored {same : Bool} {c : StationCfg} {value : Nat} (hf : 2 ≤ f) (hlt : f < 18)
      (hj : (s.station i).cfg.write f b.data = some (.brought same c))
      (hc : c.fields = (s.station i).cfg.fields.set f value) :
      stores (if same then .ok else .clamped) value := by
    obtain ⟨reads, others⟩ := fields_set hc hlt
    exact ⟨c, stationWrite_stored h hi hconfig hj (if_neg (by omega)) rfl reads, reads, others⟩
  refine ⟨fun row hrow hf => ?_, fun hf hn => ?_, fun hf hn => ?_, fun hf hn => ?_,
    fun hf hn => ?_⟩
  · let value := max row.2.1 (min row.2.2 n)
    change stores (if value = n then .ok else .clamped) value
    obtain ⟨store, judged, hlh, hlow, hhigh, sets⟩ := stationCfg_magnitude (s.station i).cfg b.data hrow
    rw [← brought_status]
    refine stored (c := store value) (by omega) (by omega) ?_ (by rw [hf]; exact sets value)
    rw [hf, judged, judgeMagnitude_eq hlh, brought_into]
  · obtain ⟨x, hx⟩ := flagCode_of_le hn
    refine stored (same := true) (c := { (s.station i).cfg with statusCodes := x })
      (by omega) (by omega) ?_ (by rw [hf, hx]; rfl)
    rw [hf]
    change some ((judgeFlag b.data).into _) = _
    rw [judgeFlag_code hx]
    rfl
  · refine stationWrite_badValue h hi hconfig ?_
    rw [show b.field.toNat = 3 from hf]
    change some ((judgeFlag b.data).into _) = _
    rw [judgeFlag_bad hn]
    rfl
  · obtain ⟨r, hr, hcode⟩ := rotation_of_code hn
    refine stored (same := true) (c := { (s.station i).cfg with rotation := r })
      (by omega) (by omega) ?_ (by rw [hf, ← hcode]; rfl)
    rw [hf]
    change some ((Judged.ofOption (rotationOfCode b.data.toNat)).into _) = _
    rw [hr]
    rfl
  · refine stationWrite_badValue h hi hconfig ?_
    rw [show b.field.toNat = 7 from hf]
    change some ((Judged.ofOption (rotationOfCode b.data.toNat)).into _) = _
    rw [rotationOfCode_beyond hn]
    rfl

end

/-! ### Kind and enable (R78, R91) -/

section
variable {e : Envelope} {b : Body} {s : State}

theorem kindOfCode_code (k : Kind) : kindOfCode k.code = some k := by
  cases k <;> rfl

theorem kindOfCode_beyond {n : Nat} (h : 3 ≤ n) : kindOfCode n = none := by
  obtain ⟨k, rfl⟩ := Nat.exists_eq_add_of_le' h
  rfl

@[simp] theorem ofNat_data (w : Word) : BitVec.ofNat 16 w.toNat = w := by simp

/-- The health record after a write to kind or enable, case by case (R91). -/
theorem afterWrite_cases (h : HealthRecord) (before after : StationCfg) :
    let out := after.kind = .absent ∨ after.enable = false
    (h.state = .retired → h.afterWrite before after = h) ∧
    (h.state ≠ .retired → out →
      h.afterWrite before after = { h with state := .off, missed := 0, since := 0 }) ∧
    (h.state ≠ .retired → ¬ out → h.state = .off ∨ after.kind ≠ before.kind →
      h.afterWrite before after = { h with state := .unseen, missed := 0, since := 0 }) ∧
    (h.state ≠ .retired → h.state ≠ .off → ¬ out → after.kind = before.kind →
      h.afterWrite before after = h) := by
  intro out
  have service : (!after.inService) = true ↔ out := by
    rw [Bool.not_eq_true', ← Bool.not_eq_true, inService_iff, not_and_or, not_not, Bool.not_eq_true]
  unfold HealthRecord.afterWrite
  refine ⟨fun hr => if_pos hr, fun hr ho => ?_, fun hr ho hm => ?_, fun hr hf ho hk => ?_⟩
  · rw [if_neg hr, if_pos (service.mpr ho)]
  · rw [if_neg hr, if_neg (mt service.mp ho), if_pos (hm.imp id Ne.symm)]
  · rw [if_neg hr, if_neg (mt service.mp ho), if_neg (not_or.mpr ⟨hf, not_not_intro hk.symm⟩)]

/-- The slot after an accepted write to kind or enable. -/
theorem writeService_eq (st : Station) (after : StationCfg) :
    st.writeService after =
      { cfg := after, health := st.health.afterWrite st.cfg after
        comp := if after.kind = st.cfg.kind then st.comp else .cleared } := by
  unfold Station.writeService
  by_cases h : after.kind = st.cfg.kind
  · rw [if_neg (not_not_intro h.symm), if_pos h]
  · rw [if_pos (Ne.symm h), if_neg h]

/-- Settles O32: an accepted write is `writeService`, and its health record a case of R91. -/
theorem kindAndEnableWritesMoveHealth : Obligations.KindAndEnableWritesMoveHealth := by
  intro e b s i h hi hfield st record bad
  have field : b.field.toNat = 0 ∨ b.field.toNat = 1 :=
    hfield.imp (fun hf => by rw [hf]; rfl) (fun hf => by rw [hf]; rfl)
  refine ⟨fun hrun => stationWrite_wrongState h hi (by omega) hrun, fun hconfig hbad => ?_,
    fun kind enable hconfig hgood hkind henable => ?_⟩
  · refine stationWrite_badValue h hi hconfig ?_
    rcases hbad with ⟨hf, hn⟩ | ⟨hf, hn⟩
    · rw [hf]
      change some ((Judged.ofOption (kindOfCode b.data.toNat)).into _) = _
      rw [kindOfCode_beyond hn]
      rfl
    · rw [hf]
      change some ((judgeFlag b.data).into _) = _
      rw [judgeFlag_bad hn]
      rfl
  intro comp gives out
  let after : StationCfg := { st.cfg with kind := kind, enable := enable }
  have judged : st.cfg.write b.field.toNat b.data = some (.brought true after) ∧
      after.fields[b.field.toNat]? = some b.data.toNat := by
    rcases hfield with hf | hf
    · obtain ⟨hcode, henabled⟩ := hkind hf
      rw [hf]
      change some ((Judged.ofOption (kindOfCode b.data.toNat)).into _) = _ ∧ some kind.code = _
      rw [hcode, kindOfCode_code]
      refine ⟨?_, rfl⟩
      change some (Judged.stored { st.cfg with kind := kind }) = some (Judged.stored after)
      rw [show after = { st.cfg with kind := kind, enable := enable } from rfl, henabled]
    · obtain ⟨hkinds, hcode⟩ := henable hf
      rw [hf]
      change some ((judgeFlag b.data).into _) = _ ∧ some (flagCode enable) = _
      rw [judgeFlag_code hcode, hcode]
      refine ⟨?_, rfl⟩
      change some (Judged.stored { st.cfg with enable := enable }) = some (Judged.stored after)
      rw [show after = { st.cfg with kind := kind, enable := enable } from rfl, hkinds]
  have stored (health : HealthRecord) (hh : record.afterWrite st.cfg after = health) :
      gives health := by
    have written := stationWrite_stored (st := { cfg := after, health := health, comp := comp }) h hi
      hconfig judged.1 ?_ rfl judged.2
    · rw [ofNat_data] at written
      exact written
    · rw [if_pos (by omega), writeService_eq, ← hh]
  obtain ⟨retired, off, unseen, kept⟩ := afterWrite_cases record st.cfg after
  exact ⟨fun hr => stored _ (retired hr), fun hr ho => stored _ (off hr ho),
    fun hr ho hm => stored _ (unseen hr ho hm), fun hr hf ho hk => stored _ (kept hr hf ho hk)⟩

end

end Sys2Proof.Machine
end

section
/-! Proofs about writes to the pile configuration and to the standby tables (R94, R95, R110 to R114,
R119, R169, R182). -/

namespace Sys2Proof.Machine

/-! ### Pile configuration (R94, R95) -/

section
variable {e : Envelope} {b : Body} {s x : State}

theorem pileCfg_write_isSome {c : PileCfg} {f : Nat} {w : Word} (hf : f < 4) :
    (c.write f w).isSome = true := by
  interval_cases f <;> rfl

theorem pileCfg_write_unknown {c : PileCfg} {f : Nat} {w : Word} (hf : 4 ≤ f) :
    c.write f w = none := by
  obtain ⟨k, rfl⟩ := Nat.exists_eq_add_of_le' hf
  rfl

theorem writeField_pile {p : Fin 24} {n f : Nat} {w : Word} (hp : n = p.val) :
    writeField 2 0 n f w x =
      storeJudged (!x.running) ((x.pile p).cfg.write f w) fun c =>
        x.setPile p ((x.pile p).store c) := by
  change writePile n f w x = _
  unfold writePile
  rw [indexOf_val hp]

theorem pileWrite_refused (h : TakesAtOnce e.port s) {y : Status}
    (hw : (writeField 2 0 b.index.toNat b.field.toNat b.data (takenState e.port s)).refusal =
      some y) :
    exec (.pileConfigWrite e b) s = .next (received (answered 2 e (echo y 0 b b.data) s)) :=
  (whenReleased_free h.released).trans (congrArg _ (ask_write_refused (by decide) h hw))

theorem pileWrite_badValue (h : TakesAtOnce e.port s) {p : Fin 24} (hp : b.index.toNat = p.val)
    (hconfig : s.rct.opState = .config)
    (hj : (s.pile p).cfg.write b.field.toNat b.data = some .bad) :
    exec (.pileConfigWrite e b) s =
      .next (received (answered 2 e (echo .badValue 0 b b.data) s)) := by
  have judged : ((takenState e.port s).pile p).cfg.write b.field.toNat b.data = some .bad := hj
  refine pileWrite_refused h ?_
  rw [writeField_pile hp, judged]
  exact storeJudged_bad _ (congrArg not ((not_running_iff s).mpr hconfig))

theorem pileWrite_stored (h : TakesAtOnce e.port s) {p : Fin 24} (hp : b.index.toNat = p.val)
    (hconfig : s.rct.opState = .config) {same : Bool} {c : PileCfg} {value : Nat}
    (hj : (s.pile p).cfg.write b.field.toNat b.data = some (.brought same c))
    (hread : c.fields[b.field.toNat]? = some value) :
    exec (.pileConfigWrite e b) s =
      .next (received (answered 2 e
        (echo (if same then .ok else .clamped) 0 b (BitVec.ofNat 16 value))
        (s.setPile p ((s.pile p).store c)))) := by
  refine (whenReleased_free h.released).trans (congrArg _ ?_)
  refine ask_write_done (g := fun y => y.setPile p ((s.pile p).store c)) (by decide) h ?_ ?_
    rfl rfl rfl
  · refine (writeField_pile (x := takenState e.port s) hp).trans ?_
    exact storeJudged_brought _ (congrArg not ((not_running_iff s).mpr hconfig)) hj
  · change ((indexOf 24 b.index.toNat).map _).bind _ = _
    rw [indexOf_val hp]
    change (((takenState e.port s).setPile p ((s.pile p).store c)).pile p).cfg.fields[
      b.field.toNat]? = _
    rw [State.pile_setPile, if_pos rfl]
    exact hread

/-- A write that does not clear the enable keeps the dynamic record. -/
theorem store_kept {p : Pile} {c : PileCfg} (h : c.enable = p.cfg.enable) :
    p.store c = { p with cfg := c } := by
  unfold Pile.store
  rw [h, if_neg]
  rw [Bool.and_not_self]
  exact Bool.false_ne_true

/-- Settles O37: a write stores its field, and only clearing the enable touches the dynamic record. -/
theorem pileWritesKeepOrResetThePile : Obligations.PileWritesKeepOrResetThePile := by
  intro e b s h n refused
  refine ⟨fun hno => ?_, fun p hp => ?_⟩
  · refine pileWrite_refused h ?_
    by_cases hindex : b.index.toNat < 24
    · rw [writeField_pile (p := ⟨_, hindex⟩) rfl, pileCfg_write_unknown (hno.resolve_left (by omega))]
      rfl
    · change (writePile _ _ _ _).refusal = _
      unfold writePile
      rw [indexOf_beyond (Nat.le_of_not_lt hindex)]
      rfl
  intro pile rests stores
  have stored {same : Bool} {c : PileCfg} {value : Nat} {y : Pile}
      (hconfig : s.rct.opState = .config)
      (hj : pile.cfg.write b.field.toNat b.data = some (.brought same c))
      (hread : c.fields[b.field.toNat]? = some value) (hy : pile.store c = y) :
      stores (if same then .ok else .clamped) value y := by
    rw [← hy]
    exact pileWrite_stored h hp hconfig hj hread
  have bad (hconfig : s.rct.opState = .config)
      (hj : pile.cfg.write b.field.toNat b.data = some .bad) : refused .badValue :=
    pileWrite_badValue h hp hconfig hj
  refine ⟨fun hrun hf => ?_, fun hconfig hf => ⟨fun y hn => ?_, fun hn => ?_⟩, fun hconfig hf => ?_,
    fun hconfig hf => ⟨fun i hn => ?_, fun hn => ?_⟩,
    fun hconfig hf => ⟨fun i hn => ?_, fun hn => ?_, fun hn hnone => ?_⟩⟩
  · refine pileWrite_refused h ?_
    rw [writeField_pile hp]
    exact storeJudged_forbidden _ (congrArg not ((running_iff s).mpr hrun))
      (pileCfg_write_isSome (by omega))
  · refine stored (same := true) (c := { pile.cfg with enable := y }) hconfig ?_ ?_ ?_
    · rw [hf]
      change some ((judgeFlag b.data).into _) = _
      rw [judgeFlag_code hn]
      rfl
    · rw [hf, hn]
      rfl
    · unfold Pile.store
      cases y <;> simp [rests, PileDyn.cleared]
  · refine bad hconfig ?_
    rw [hf]
    change some ((judgeFlag b.data).into _) = _
    rw [judgeFlag_bad hn]
    rfl
  · have brought : max 0 (min 15 n) = min 15 n := Nat.zero_max _
    have same : (min 15 n == n) = decide (n ≤ 15) := by
      rw [Bool.eq_iff_iff, beq_iff_eq, decide_eq_true_iff]; omega
    have status : (if (min 15 n == n) = true then Status.ok else .clamped) =
        if n ≤ 15 then .ok else .clamped := by
      rw [same]; simp
    rw [← status]
    refine stored (c := { pile.cfg with weight := min 15 n }) hconfig ?_ ?_ (store_kept rfl)
    · rw [hf]
      change some ((judgeMagnitude 0 15 b.data).into _) = _
      rw [judgeMagnitude_eq (by decide), brought_into, brought]
    · rw [hf]
      rfl
  · refine stored (same := true) (c := { pile.cfg with primary := i }) hconfig ?_ ?_ (store_kept rfl)
    · rw [hf]
      change some ((judgeStation b.data).into _) = _
      rw [judgeStation_val hn]
      rfl
    · rw [hf, hn]
      rfl
  · refine bad hconfig ?_
    rw [hf]
    change some ((judgeStation b.data).into _) = _
    rw [judgeStation_bad hn]
    rfl
  · refine stored (same := true) (c := { pile.cfg with fallback := some i }) hconfig ?_ ?_
      (store_kept rfl)
    · rw [hf]
      change some ((judgeOptStation b.data).into _) = _
      rw [judgeOptStation_val hn]
      rfl
    · rw [hf, hn]
      rfl
  · refine stored (same := true) (c := { pile.cfg with fallback := none }) hconfig ?_ ?_
      (store_kept rfl)
    · rw [hf]
      change some ((judgeOptStation b.data).into _) = _
      rw [judgeOptStation_none hn]
      rfl
    · rw [hf, hn]
      rfl
  · refine bad hconfig ?_
    rw [hf]
    change some ((judgeOptStation b.data).into _) = _
    rw [judgeOptStation_bad hn hnone]
    rfl

end

/-! ### The standby plume table (R110, R112) -/

section
variable {t : Plume} {i j : Nat} {x : PlumeEntry}

theorem not_mem_plumeErase : i ∉ (plumeErase t i).map Prod.fst := by
  induction t with
  | nil => simp [plumeErase]
  | cons head rest ih =>
    unfold plumeErase
    split
    next => exact ih
    next hne => simpa [hne] using ih

theorem plumeRead_insert_of_notMem (h : i ∉ t.map Prod.fst) :
    plumeRead (plumeInsert i x t) j = if j = i then x else plumeRead t j := by
  induction t with
  | nil => rfl
  | cons head rest ih =>
    rw [List.map_cons, List.mem_cons, not_or] at h
    obtain ⟨hne, hrest⟩ := h
    unfold plumeInsert
    split
    next => rfl
    next =>
      simp only [plumeRead, ih hrest]
      by_cases hj : j = head.1
      · rw [if_pos hj, if_neg (hj ▸ Ne.symm hne), if_pos hj]
      · rw [if_neg hj, if_neg hj]

/-- What a write leaves at every index, whatever the order of the list. -/
theorem plumeRead_plumeWrite :
    plumeRead (plumeWrite t i x) j = if j = i then x else plumeRead t j := by
  unfold plumeWrite
  split
  next hx => rw [plumeRead_erase, hx]
  next =>
    rw [plumeRead_insert_of_notMem not_mem_plumeErase, plumeRead_erase]
    by_cases hj : j = i
    · rw [if_pos hj, if_pos hj]
    · rw [if_neg hj, if_neg hj, if_neg hj]

end

section
variable {e : Envelope} {b : Body} {s x : State}

/-- What the standby bank is after an accepted write. -/
theorem standbyWrite_stored {u : Nat} {table : Byte} (hu : u < 4) (h : TakesAtOnce e.port s)
    {same : Bool} {value : Nat} {bank : Bank}
    (hw : writeField u table.toNat b.index.toNat b.field.toNat b.data (takenState e.port s) =
      .done (storeStandby bank (takenState e.port s)) (if same then .ok else .clamped))
    (hread : readField u table.toNat b.index.toNat b.field.toNat
      (storeStandby bank (takenState e.port s)) = some value) :
    ask u 2 table e b s =
      received (answered u e (echo (if same then .ok else .clamped) table b (BitVec.ofNat 16 value))
        (s.setPju (s.pju.setStandby { bank with valid := false }))) :=
  ask_write_done (g := fun y => y.setPju (s.pju.setStandby { bank with valid := false })) hu h hw
    hread rfl rfl rfl

theorem standby_storeStandby (bank : Bank) :
    (storeStandby bank x).pju.standby = { bank with valid := false } := by
  unfold storeStandby
  rw [State.setPju_pju, standby_setStandby]

theorem plumeEntry_write_isSome {p : PlumeEntry} {f : Nat} {w : Word} (hf : f < 3) :
    (p.write f w).isSome = true := by
  interval_cases f <;> rfl

theorem plumeEntry_write_unknown {p : PlumeEntry} {f : Nat} {w : Word} (hf : 3 ≤ f) :
    p.write f w = none := by
  obtain ⟨k, rfl⟩ := Nat.exists_eq_add_of_le' hf
  rfl

theorem writeField_plume {i f : Nat} {w : Word} (hi : i < 1536) :
    writeField 2 2 i f w x =
      storeJudged (!x.pju.swapPending) ((plumeRead x.pju.standby.plume i).write f w) fun p =>
        storeStandby { x.pju.standby with plume := plumeWrite x.pju.standby.plume i p } x :=
  if_pos hi

theorem plumeWrite_refused (h : TakesAtOnce e.port s) {y : Status}
    (hw : (writeField 2 2 b.index.toNat b.field.toNat b.data (takenState e.port s)).refusal =
      some y) :
    exec (.standbyTableWrite e .plume b) s =
      .next (received (answered 2 e (echo y 2 b b.data) s)) :=
  (whenReleased_free h.released).trans (congrArg _ (ask_write_refused (by decide) h hw))

theorem plumeWrite_stored (h : TakesAtOnce e.port s) (hno : s.pju.swapPending = false)
    (hi : b.index.toNat < 1536) {same : Bool} {p : PlumeEntry} {value : Nat}
    (hj : (plumeRead s.pju.standby.plume b.index.toNat).write b.field.toNat b.data =
      some (.brought same p))
    (hread : p.fields[b.field.toNat]? = some value) :
    exec (.standbyTableWrite e .plume b) s =
      .next (received (answered 2 e
        (echo (if same then .ok else .clamped) 2 b (BitVec.ofNat 16 value))
        (s.setPju (s.pju.setStandby
          { plume := plumeWrite s.pju.standby.plume b.index.toNat p
            zones := s.pju.standby.zones, valid := false })))) := by
  refine (whenReleased_free h.released).trans (congrArg _ ?_)
  refine standbyWrite_stored (bank := { s.pju.standby with
    plume := plumeWrite s.pju.standby.plume b.index.toNat p }) (by decide) h ?_ ?_
  · refine (writeField_plume (x := takenState e.port s) hi).trans ?_
    exact storeJudged_brought _ (congrArg not hno) hj
  · change (plumeEntry (storeStandby _ (takenState e.port s)).pju.standby.plume b.index.toNat).bind _ = _
    rw [standby_storeStandby]
    unfold plumeEntry
    rw [if_pos hi, plumeRead_plumeWrite, if_pos rfl]
    exact hread

/-! ### The standby zone configuration table (R111, R112) -/

theorem zoneCfg_write_isSome {c : ZoneCfg} {f : Nat} {w : Word} (hf : f < 17) :
    (c.write f w).isSome = true := by
  interval_cases f <;> rfl

theorem zoneCfg_write_unknown {c : ZoneCfg} {f : Nat} {w : Word} (hf : 17 ≤ f) :
    c.write f w = none := by
  obtain ⟨k, rfl⟩ := Nat.exists_eq_add_of_le' hf
  rfl

theorem writeField_zoneCfg {z : Fin 32} {n f : Nat} {w : Word} (hz : n = z.val) :
    writeField 3 0 n f w x =
      storeJudged (!x.pju.swapPending) (x.pju.standby.zones[z].write f w) fun c =>
        storeStandby { x.pju.standby with zones := tableSet x.pju.standby.zones z c } x := by
  change writeZoneCfg n f w x = _
  unfold writeZoneCfg
  rw [indexOf_val hz]

theorem zoneWrite_refused (h : TakesAtOnce e.port s) {y : Status}
    (hw : (writeField 3 0 b.index.toNat b.field.toNat b.data (takenState e.port s)).refusal =
      some y) :
    exec (.standbyTableWrite e .zones b) s =
      .next (received (answered 3 e (echo y 0 b b.data) s)) :=
  (whenReleased_free h.released).trans (congrArg _ (ask_write_refused (by decide) h hw))

theorem zoneWrite_stored (h : TakesAtOnce e.port s) (hno : s.pju.swapPending = false) {z : Fin 32}
    (hz : b.index.toNat = z.val) {same : Bool} {c : ZoneCfg} {value : Nat}
    (hj : s.pju.standby.zones[z].write b.field.toNat b.data = some (.brought same c))
    (hread : c.fields[b.field.toNat]? = some value) :
    exec (.standbyTableWrite e .zones b) s =
      .next (received (answered 3 e
        (echo (if same then .ok else .clamped) 0 b (BitVec.ofNat 16 value))
        (s.setPju (s.pju.setStandby
          { s.pju.standby with zones := tableSet s.pju.standby.zones z c, valid := false })))) := by
  refine (whenReleased_free h.released).trans (congrArg _ ?_)
  refine standbyWrite_stored (bank := { s.pju.standby with
    zones := tableSet s.pju.standby.zones z c }) (by decide) h ?_ ?_
  · refine (writeField_zoneCfg (x := takenState e.port s) hz).trans ?_
    exact storeJudged_brought _ (congrArg not hno) hj
  · change ((indexOf 32 b.index.toNat).map _).bind _ = _
    rw [indexOf_val hz]
    change ((storeStandby _ (takenState e.port s)).pju.standby.zones[z]).fields[b.field.toNat]? = _
    rw [standby_storeStandby]
    change ((tableSet s.pju.standby.zones z c)[z]).fields[b.field.toNat]? = _
    rw [tableSet_get, if_pos rfl]
    exact hread

/-- The fields of the zone configuration that are magnitudes, with their bounds. -/
def zoneMagnitudes : List (Nat × Nat × Nat) :=
  [(1, 1, 4095), (2, 1, 4095), (3, 1, 4095), (4, 1, 255), (5, 1, 255), (6, 1, 255), (7, 1, 16),
    (8, 1, 16), (13, 0, 4095)]

theorem zoneCfg_magnitude (c : ZoneCfg) (w : Word) {row : Nat × Nat × Nat}
    (hrow : row ∈ zoneMagnitudes) :
    ∃ store : Nat → ZoneCfg,
      c.write row.1 w = some ((judgeMagnitude row.2.1 row.2.2 w).into store) ∧
      row.2.1 ≤ row.2.2 ∧ row.1 < 17 ∧ ∀ v, (store v).fields = c.fields.set row.1 v := by
  simp only [zoneMagnitudes, List.mem_cons, List.not_mem_nil, or_false] at hrow
  rcases hrow with rfl | rfl | rfl | rfl | rfl | rfl | rfl | rfl | rfl
  all_goals exact ⟨_, rfl, by decide, by decide, fun _ => rfl⟩

theorem zoneCfg_flag (c : ZoneCfg) (w : Word) {f : Nat} (hf : f = 0 ∨ f = 9 ∨ f = 14) :
    ∃ store : Bool → ZoneCfg, c.write f w = some ((judgeFlag w).into store) ∧
      ∀ v, (store v).fields = c.fields.set f (flagCode v) := by
  rcases hf with rfl | rfl | rfl
  all_goals exact ⟨_, rfl, fun _ => rfl⟩

theorem zoneCfg_station (c : ZoneCfg) (w : Word) {f : Nat} (hf : f = 10 ∨ f = 11 ∨ f = 12) :
    ∃ store : Option (Fin 48) → ZoneCfg, c.write f w = some ((judgeOptStation w).into store) ∧
      ∀ v, (store v).fields = c.fields.set f (optStationCode v) := by
  rcases hf with rfl | rfl | rfl
  all_goals exact ⟨_, rfl, fun _ => rfl⟩

theorem zoneCfg_sign (c : ZoneCfg) (w : Word) {f : Nat} (hf : f = 15 ∨ f = 16) :
    ∃ store : Option Byte → ZoneCfg, c.write f w = some ((judgeOptSign w).into store) ∧
      ∀ v, (store v).fields = c.fields.set f (optSignCode v) := by
  rcases hf with rfl | rfl
  all_goals exact ⟨_, rfl, fun _ => rfl⟩

/-- A station reference or none is stored as the one of its code. -/
theorem judgeOptStation_stored {w : Word} (h : w.toNat ≤ 47 ∨ w.toNat = 255) :
    ∃ v, judgeOptStation w = .stored v ∧ optStationCode v = w.toNat := by
  rcases h with h | h
  · exact ⟨some ⟨w.toNat, by omega⟩, judgeOptStation_val rfl, rfl⟩
  · exact ⟨none, judgeOptStation_none h, h.symm⟩

/-- Settles O38: a write to a standby table sets one field of one entry of it. -/
theorem standbyWritesReadBack : Obligations.StandbyWritesReadBack := by
  refine ⟨fun e b s h hno => ?_, fun e b s z h hno hz => ?_, fun e b s h => ⟨fun hbad => ?_,
    fun hbad => ?_⟩⟩
  · intro i old refused stores
    have stored {same : Bool} {p : PlumeEntry} {value : Nat} (hi : i < 1536)
        (hj : old.write b.field.toNat b.data = some (.brought same p))
        (hread : p.fields[b.field.toNat]? = some value) :
        stores p (if same then .ok else .clamped) value := by
      refine ⟨plumeWrite s.pju.standby.plume i p, plumeWrite_stored h hno hi hj hread, ?_,
        fun j hj => ?_, fun hwf => plumeWrite_wf _ _ _ hwf hi⟩
      · rw [plumeRead_plumeWrite, if_pos rfl]
      · rw [plumeRead_plumeWrite, if_neg hj]
    have clamps {hi n : Nat} : (if (min hi n == n) = true then Status.ok else .clamped) =
        if n ≤ hi then .ok else .clamped := by
      rw [brought_status]
      exact if_congr (by omega) rfl rfl
    refine ⟨fun hi hf hn => ?_, fun hi hf y hn => ?_, fun hi hf => ?_, fun hi hf => ?_⟩
    · refine plumeWrite_refused h ?_
      have judged : (plumeRead (takenState e.port s).pju.standby.plume b.index.toNat).write
          b.field.toNat b.data = some .bad := by
        rw [hf]
        change some ((Judged.ofOption (indexOf 32 b.data.toNat)).into _) = _
        rw [indexOf_beyond hn]
        rfl
      rw [writeField_plume hi, judged]
      exact storeJudged_bad _ (congrArg not hno)
    · refine stored (same := true) hi ?_ (by rw [hf]; rfl)
      rw [hf]
      change some ((Judged.ofOption (indexOf 32 b.data.toNat)).into _) = _
      rw [indexOf_val hn]
      rfl
    · rw [← clamps]
      refine stored hi ?_ (by rw [hf]; rfl)
      rw [hf]
      change some ((judgeMagnitude 0 15 b.data).into _) = _
      rw [judgeMagnitude_eq (by decide), brought_into, Nat.zero_max]
    · rw [← clamps]
      refine stored hi ?_ (by rw [hf]; rfl)
      rw [hf]
      change some ((judgeMagnitude 0 8 b.data).into _) = _
      rw [judgeMagnitude_eq (by decide), brought_into, Nat.zero_max]
  · intro f n stores refused flag station sign
    have stored {same : Bool} {c : ZoneCfg} {value : Nat} (hf : f < 17)
        (hj : s.pju.standby.zones[z].write f b.data = some (.brought same c))
        (hc : c.fields = (s.pju.standby.zones[z]).fields.set f value) :
        stores (if same then .ok else .clamped) value := by
      obtain ⟨reads, others⟩ := fields_set hc hf
      exact ⟨c, zoneWrite_stored h hno hz hj reads, reads, others⟩
    have bad (hj : s.pju.standby.zones[z].write f b.data = some .bad) : refused .badValue := by
      refine zoneWrite_refused h ?_
      have judged : (takenState e.port s).pju.standby.zones[z].write b.field.toNat b.data =
          some .bad := hj
      rw [writeField_zoneCfg hz, judged]
      exact storeJudged_bad _ (congrArg not hno)
    have magnitude {row : Nat × Nat × Nat} (hrow : row ∈ zoneMagnitudes) (hf : f = row.1) :
        stores (if max row.2.1 (min row.2.2 n) = n then .ok else .clamped)
          (max row.2.1 (min row.2.2 n)) := by
      obtain ⟨store, judged, hlh, hlt, sets⟩ :=
        zoneCfg_magnitude s.pju.standby.zones[z] b.data hrow
      rw [← brought_status]
      refine stored (by omega) ?_ (by rw [hf]; exact sets _)
      rw [hf, judged, judgeMagnitude_eq hlh, brought_into]
    refine ⟨fun row hrow hf hn => ?_, fun row hrow hf hn => ?_, fun hf hn => ?_, fun hf hn => ?_,
      fun hf hn => ?_, fun hf hn hnone => ?_, fun hf hn => ?_, fun hf hn => ?_⟩
    · have stores := magnitude hrow hf
      rwa [if_pos hn, hn] at stores
    · have stores := magnitude hrow hf
      rwa [if_neg hn] at stores
    · obtain ⟨store, judged, sets⟩ := zoneCfg_flag s.pju.standby.zones[z] b.data hf
      obtain ⟨v, hv⟩ := flagCode_of_le hn
      refine stored (same := true) (c := store v) (by omega) ?_ (by rw [hv]; exact sets v)
      rw [judged, judgeFlag_code hv]
      rfl
    · obtain ⟨store, judged, -⟩ := zoneCfg_flag s.pju.standby.zones[z] b.data hf
      exact bad (by rw [judged, judgeFlag_bad hn]; rfl)
    · obtain ⟨store, judged, sets⟩ := zoneCfg_station s.pju.standby.zones[z] b.data hf
      obtain ⟨v, hv, hcode⟩ := judgeOptStation_stored hn
      refine stored (same := true) (c := store v) (by omega) ?_ (by rw [sets v, hcode])
      rw [judged, hv]
      rfl
    · obtain ⟨store, judged, -⟩ := zoneCfg_station s.pju.standby.zones[z] b.data hf
      exact bad (by rw [judged, judgeOptStation_bad hn hnone]; rfl)
    · obtain ⟨store, judged, sets⟩ := zoneCfg_sign s.pju.standby.zones[z] b.data hf
      obtain ⟨v, hv, hcode⟩ := judgeOptSign_stored hn
      refine stored (same := true) (c := store v) (by omega) ?_ (by rw [sets v, hcode])
      rw [judged, hv]
      rfl
    · obtain ⟨store, judged, -⟩ := zoneCfg_sign s.pju.standby.zones[z] b.data hf
      exact bad (by rw [judged, judgeOptSign_bad hn]; rfl)
  · refine plumeWrite_refused h ?_
    by_cases hi : b.index.toNat < 1536
    · rw [writeField_plume hi, plumeEntry_write_unknown (hbad.resolve_left (by omega))]
      rfl
    · exact congrArg WriteResult.refusal (if_neg hi)
  · refine zoneWrite_refused h ?_
    by_cases hi : b.index.toNat < 32
    · rw [writeField_zoneCfg (z := ⟨_, hi⟩) rfl, zoneCfg_write_unknown (hbad.resolve_left (by omega))]
      rfl
    · change (writeZoneCfg _ _ _ _).refusal = _
      unfold writeZoneCfg
      rw [indexOf_beyond (Nat.le_of_not_lt hi)]
      rfl

/-- Settles O39: the pending flag is what forbids the writes and the commands. -/
theorem pendingSwapLocksTheStandby : Obligations.PendingSwapLocksTheStandby := by
  intro e b s h hpending
  have forbids : (!(takenState e.port s).pju.swapPending) = false := congrArg not hpending
  refine ⟨fun hi hf => ?_, fun hi hf => ?_, ?_, ?_⟩
  · refine plumeWrite_refused h ?_
    rw [writeField_plume hi]
    exact storeJudged_forbidden _ forbids (plumeEntry_write_isSome (by omega))
  · refine zoneWrite_refused h ?_
    rw [writeField_zoneCfg (z := ⟨_, hi⟩) rfl]
    exact storeJudged_forbidden _ forbids (zoneCfg_write_isSome (by omega))
  · refine (whenReleased_free h.released).trans (congrArg _ ?_)
    refine command_unchanged (by decide) (.inr (by decide)) h ?_
    have pending : (takenState e.port s).pju.swapPending = true := hpending
    rw [runCommand_swap]
    exact if_pos pending
  · refine (whenReleased_free h.released).trans (congrArg _ ?_)
    have copy : (ownRequest 0 3 5 e b s).isCopy = true := by
      rw [ownRequest_isCopy (by decide)]; rfl
    refine ask_unchanged h ?_ ?_
    · rw [hpending, Bool.not_true, Bool.and_false]
    · exact if_pos copy

end

end Sys2Proof.Machine
end

section
/-! Proofs about writes to the line, round, notice and panel tables, and to fields no write may name
(R19, R158 to R164, R169 to R172, R175, R182). -/

namespace Sys2Proof.Machine

section
variable {e : Envelope} {b : Body} {s x : State}

/-! ### Lines and refresh period (R158, R160, R161) -/

theorem lineCfg_write_unknown {c : LineCfg} {f : Nat} {w : Word} (hf : 4 ≤ f) :
    c.write f w = none := by
  obtain ⟨k, rfl⟩ := Nat.exists_eq_add_of_le' hf
  rfl

theorem writeField_line {n : Fin 8} {i f : Nat} {w : Word} (hn : i = n.val) :
    writeField 3 3 i f w x =
      storeJudged true (x.out.lines[n].write f w) fun c =>
        reevaluate (x.setOut { x.out with lines := tableSet x.out.lines n c }) := by
  change writeLineTable i f w x = _
  unfold writeLineTable
  rw [if_neg (by omega), indexOf_val hn]
  rfl

theorem writeField_refresh {f : Nat} {w : Word} :
    writeField 3 3 8 f w x =
      storeJudged true (if f = 0 then some (judgeMagnitude 1 255 w) else none) fun r =>
        x.setOut { x.out with refreshPeriod := r } := rfl

theorem lineWrite_refused (h : TakesAtOnce e.port s) {y : Status}
    (hw : (writeField 3 3 b.index.toNat b.field.toNat b.data (takenState e.port s)).refusal =
      some y) :
    exec (.lineConfigWrite e b) s = .next (received (answered 3 e (echo y 3 b b.data) s)) :=
  (whenReleased_free h.released).trans (congrArg _ (ask_write_refused (by decide) h hw))

theorem lineWrite_badValue (h : TakesAtOnce e.port s) {n : Fin 8} (hn : b.index.toNat = n.val)
    (hj : s.out.lines[n].write b.field.toNat b.data = some .bad) :
    exec (.lineConfigWrite e b) s =
      .next (received (answered 3 e (echo .badValue 3 b b.data) s)) := by
  have judged : (takenState e.port s).out.lines[n].write b.field.toNat b.data = some .bad := hj
  refine lineWrite_refused h ?_
  rw [writeField_line hn, judged]
  rfl

/-- The lines after a write of line `n`'s record. -/
def withLine (n : Fin 8) (c : LineCfg) (s : State) : State :=
  reevaluate (s.setOut { s.out with lines := tableSet s.out.lines n c })

theorem lineWrite_stored (h : TakesAtOnce e.port s) {n : Fin 8} (hn : b.index.toNat = n.val)
    {c : LineCfg} (hj : s.out.lines[n].write b.field.toNat b.data = some (.stored c))
    (hread : c.fields[b.field.toNat]? = some b.data.toNat) :
    exec (.lineConfigWrite e b) s =
      .next (received (answered 3 e (echo .ok 3 b b.data) (withLine n c s))) := by
  refine (whenReleased_free h.released).trans (congrArg _ ?_)
  have written := ask_write_done (u := 3) (table := 3) (b := b) (status := .ok)
    (value := b.data.toNat) (g := withLine n c) (by decide) h ?_ ?_ rfl rfl rfl
  · rw [ofNat_data] at written
    exact written
  · refine (writeField_line (x := takenState e.port s) hn).trans ?_
    exact storeJudged_brought (same := true) _ rfl hj
  · change (if b.index.toNat = 8 then _ else _ : Option (List Nat)).bind _ = _
    rw [if_neg (by omega), indexOf_val hn]
    change ((tableSet s.out.lines n c)[n]).fields[b.field.toNat]? = _
    rw [tableSet_get, if_pos rfl]
    exact hread

theorem withLine_out (n : Fin 8) (c : LineCfg) (s : State) :
    withLine n c s =
      s.setOut
        { s.out with
          lines := tableSet s.out.lines n c, wl := (withLine n c s).out.wl
          svc := (withLine n c s).out.svc } := rfl

theorem minLevelOfCode_code {l : Level} (h : l ≠ .clear) : minLevelOfCode l.code = some l := by
  cases l with
  | clear => exact absurd rfl h
  | watch | warn | alert => rfl

theorem minLevelOfCode_bad {n : Nat} (h : n = 0 ∨ 4 ≤ n) : minLevelOfCode n = none := by
  rcases h with rfl | h
  · rfl
  · obtain ⟨k, rfl⟩ := Nat.exists_eq_add_of_le' h
    rfl

/-- Settles O54: a write stores one field of a line's record, and the lines follow. -/
theorem lineWritesTakeEffectAtOnce : Obligations.LineWritesTakeEffectAtOnce := by
  intro e b s h i
  refine ⟨rfl, ?_⟩
  intro refused
  refine ⟨fun hno => ?_, fun hi hf hn => ?_, fun hi hf hn => ?_, fun n hi => ?_, fun hi hf => ?_⟩
  · refine lineWrite_refused h ?_
    rcases hno with hi | ⟨hi, hf⟩ | ⟨hi, hf⟩
    · change (writeLineTable _ _ _ _).refusal = _
      unfold writeLineTable
      rw [if_neg (by omega), indexOf_beyond (by omega)]
      rfl
    · rw [writeField_line (n := ⟨_, hi⟩) rfl, lineCfg_write_unknown hf]
      rfl
    · have field : b.field.toNat ≠ 0 := fun hz => hf (BitVec.eq_of_toNat_eq hz)
      rw [show b.index.toNat = 8 from hi, writeField_refresh, if_neg field]
      rfl
  · refine lineWrite_badValue (n := ⟨_, hi⟩) h rfl ?_
    rw [hf]
    change some ((Judged.ofOption (minLevelOfCode b.data.toNat)).into _) = _
    rw [minLevelOfCode_bad (hn.imp (fun hz => by rw [hz]; rfl) id)]
    rfl
  · refine lineWrite_badValue (n := ⟨_, hi⟩) h rfl ?_
    rw [hf]
    change some ((judgeFlag b.data).into _) = _
    rw [judgeFlag_bad hn]
    rfl
  · intro old stores
    have stored {c : LineCfg} (hj : old.write b.field.toNat b.data = some (.stored c))
        (hread : c.fields[b.field.toNat]? = some b.data.toNat) : stores c := by
      refine ⟨_, lineWrite_stored h hi hj hread, ?_, ?_⟩
      · exact congrArg (fun y => received (answered 3 e (echo .ok 3 b b.data) y)) (withLine_out n c s)
      · have sound : LinesSound (withLine n c s) := linesSound_reevaluate _
        exact (linesSound_congr (s := withLine n c s)
          (t := received (answered 3 e (echo .ok 3 b b.data) (withLine n c s)))
          rfl rfl rfl rfl rfl).mpr sound
    refine ⟨fun hf => ⟨old.mask.extractLsb' 16 16 ++ b.data, stored ?_ ?_, fun z => ?_⟩,
      fun hf => ⟨b.data ++ old.mask.extractLsb' 0 16, stored ?_ ?_, fun z => ?_⟩,
      fun level hlevel hf hn => stored ?_ ?_, fun y hf hn => stored ?_ ?_⟩
    · rw [hf]
      rfl
    · rw [hf]
      refine congrArg (fun v : Word => some v.toNat) ?_
      rw [BitVec.extractLsb'_append_eq_right]
    · rw [BitVec.getLsbD_append]
      split
      next hz => rfl
      next hz =>
        rw [BitVec.getLsbD_extractLsb', decide_eq_true (by omega), Bool.true_and,
          Nat.add_sub_cancel' (by omega)]
    · rw [hf]
      rfl
    · rw [hf]
      refine congrArg (fun v : Word => some v.toNat) ?_
      rw [BitVec.extractLsb'_append_eq_left]
    · rw [BitVec.getLsbD_append]
      split
      next hz =>
        rw [BitVec.getLsbD_extractLsb', decide_eq_true hz, Bool.true_and, Nat.zero_add]
      next hz => rfl
    · rw [hf]
      change some ((Judged.ofOption (minLevelOfCode b.data.toNat)).into _) = _
      rw [hn, minLevelOfCode_code hlevel]
      rfl
    · rw [hf, hn]
      rfl
    · rw [hf]
      change some ((judgeFlag b.data).into _) = _
      rw [judgeFlag_code hn]
      rfl
    · rw [hf, hn]
      rfl
  · intro value
    refine (whenReleased_free h.released).trans (congrArg _ ?_)
    have index : b.index.toNat = 8 := hi
    rw [← brought_status]
    refine ask_write_done (g := fun y => y.setOut { s.out with refreshPeriod := value }) (by decide) h
      ?_ ?_ rfl rfl rfl
    · rw [index, hf]
      refine (writeField_refresh (x := takenState e.port s)).trans ?_
      exact storeJudged_brought _ rfl (congrArg some (judgeMagnitude_eq (by decide)))
    · rw [index, hf]
      rfl

end

/-! ### Round configuration, notice flags and panel mode (R19, R164, R172) -/

section
variable {e : Envelope} {b : Body} {s x : State}

theorem rct_write_isSome {r : Rct} {f : Nat} {w : Word} (hf : f < 3) :
    (r.write f w).isSome = true := by
  interval_cases f <;> rfl

theorem rct_write_unknown {r : Rct} {f : Nat} {w : Word} (hf : 3 ≤ f) : r.write f w = none := by
  obtain ⟨k, rfl⟩ := Nat.exists_eq_add_of_le' hf
  rfl

theorem notices_write_unknown {n : Notices} {f : Nat} {w : Word} (hf : 12 ≤ f) :
    n.write f w = none := by
  obtain ⟨k, rfl⟩ := Nat.exists_eq_add_of_le' hf
  rfl

/-- A write beyond the writable fields of an entry is an address error (R166, R170, R183). -/
theorem writeField_beyond {u t i f : Nat} {w : Word} (h : writableCount u t i ≤ f) :
    writeField u t i f w x = .badAddress := by
  unfold writeField
  split
  case h_1 =>
    unfold writeRound
    split
    next hi =>
      rw [rct_write_unknown (by simpa [writableCount, hi] using h)]
      rfl
    next => rfl
  case h_2 =>
    unfold writeNotices
    split
    next hi =>
      rw [notices_write_unknown (by simpa [writableCount, hi] using h)]
      rfl
    next => rfl
  case h_3 =>
    unfold writeStation
    by_cases hi : i < 48
    · rw [indexOf_val (i := ⟨i, hi⟩) rfl]
      dsimp only
      rw [stationCfg_write_unknown (by simpa [writableCount, fieldCount, hi] using h)]
      rfl
    · rw [indexOf_beyond (Nat.le_of_not_lt hi)]
  case h_4 =>
    unfold writePile
    by_cases hi : i < 24
    · rw [indexOf_val (i := ⟨i, hi⟩) rfl]
      dsimp only
      rw [pileCfg_write_unknown (by simpa [writableCount, fieldCount, hi] using h)]
      rfl
    · rw [indexOf_beyond (Nat.le_of_not_lt hi)]
  case h_5 =>
    unfold writePlume
    split
    next hi =>
      dsimp only
      rw [plumeEntry_write_unknown (by simpa [writableCount, fieldCount, hi] using h)]
      rfl
    next => rfl
  case h_6 =>
    unfold writeZoneCfg
    by_cases hi : i < 32
    · rw [indexOf_val (i := ⟨i, hi⟩) rfl]
      dsimp only
      rw [zoneCfg_write_unknown (by simpa [writableCount, fieldCount, hi] using h)]
      rfl
    · rw [indexOf_beyond (Nat.le_of_not_lt hi)]
  case h_7 =>
    unfold writeLineTable
    split
    next hi =>
      have field : f ≠ 0 := by
        subst hi
        exact Nat.ne_of_gt h
      unfold writeRefresh
      rw [if_neg field]
      rfl
    next hne =>
      by_cases hi : i < 8
      · rw [indexOf_val (i := ⟨i, hi⟩) rfl]
        dsimp only
        unfold writeLine
        rw [lineCfg_write_unknown (by simpa [writableCount, fieldCount, hi] using h)]
        rfl
      · rw [indexOf_beyond (Nat.le_of_not_lt hi)]
  case h_8 =>
    unfold writePanelMode
    rw [if_neg]
    rintro ⟨hi, hf⟩
    simp [writableCount, fieldCount, hi, hf] at h
  case h_9 => rfl

theorem tableWrite_refused {u : Fin 4} {table : Byte} (h : TakesAtOnce e.port s) {y : Status}
    (hw : (writeField u.val table.toNat b.index.toNat b.field.toNat b.data
      (takenState e.port s)).refusal = some y) :
    exec (.tableWrite e u table b) s =
      .next (received (answered u.val e (echo y table b b.data) s)) :=
  (whenReleased_free h.released).trans (congrArg _ (ask_write_refused u.isLt h hw))

theorem tableWrite_done {u : Fin 4} {table : Byte} (h : TakesAtOnce e.port s) {status : Status}
    {value : Nat} {g : State → State}
    (hw : writeField u.val table.toNat b.index.toNat b.field.toNat b.data (takenState e.port s) =
      .done (g (takenState e.port s)) status)
    (hread : readField u.val table.toNat b.index.toNat b.field.toNat (g (takenState e.port s)) =
      some value)
    (hg : g (takenState e.port s) = (received (g s)).setTif (takenState e.port s).tif)
    (htif : (g s).tif = s.tif) (hround : (g s).rct.roundNumber = s.rct.roundNumber) :
    exec (.tableWrite e u table b) s =
      .next (received (answered u.val e (echo status table b (BitVec.ofNat 16 value)) (g s))) :=
  (whenReleased_free h.released).trans
    (congrArg _ (ask_write_done u.isLt h hw hread hg htif hround))

theorem closeModeOfCode_beyond {n : Nat} (h : 2 ≤ n) : closeModeOfCode n = none := by
  obtain ⟨k, rfl⟩ := Nat.exists_eq_add_of_le' h
  rfl

theorem panelModeOfCode_beyond {n : Nat} (h : 2 ≤ n) : panelModeOfCode n = none := by
  obtain ⟨k, rfl⟩ := Nat.exists_eq_add_of_le' h
  rfl

theorem panelModeOfCode_code (m : PanelMode) : panelModeOfCode m.code = some m := by
  cases m <;> rfl

/-- The clauses of O57 about the round configuration (R19). -/
theorem roundWrites (h : TakesAtOnce e.port s) :
    let n := b.data.toNat
    let refused := fun (x : Status) =>
      exec (.tableWrite e 0 0 b) s = .next (received (answered 0 e (echo x 0 b b.data) s))
    let stores := fun (r : Rct) (value : Nat) =>
      exec (.tableWrite e 0 0 b) s =
        .next (received (answered 0 e
          (echo (if value = n then .ok else .clamped) 0 b (BitVec.ofNat 16 value)) (s.setRct r)))
    (b.index ≠ 0 ∨ 3 ≤ b.field.toNat → refused .badAddr) ∧
    (b.index = 0 → b.field.toNat ≤ 2 → s.rct.opState = .run ∨ s.rct.probing = true →
      refused .wrongState) ∧
    (b.index = 0 → s.rct.opState = .config → s.rct.probing = false →
      (b.field = 0 → stores { s.rct with period := max 10 (min 160 n) } (max 10 (min 160 n))) ∧
      (b.field = 1 → n = 0 → stores { s.rct with closeMode := .deadline } 0) ∧
      (b.field = 1 → n = 1 → stores { s.rct with closeMode := .allIn } 1) ∧
      (b.field = 1 → 2 ≤ n → refused .badValue) ∧
      (b.field = 2 → stores { s.rct with roundMax := min 250 n } (min 250 n))) := by
  intro n refused stores
  have writes (hi : b.index = 0) (f : Nat) (w : Word) :
      writeField 0 0 b.index.toNat f w (takenState e.port s) =
        storeJudged (!s.running && !s.rct.probing) (s.rct.write f w) fun r =>
          (takenState e.port s).setRct r := by
    rw [hi]
    rfl
  refine ⟨fun hno => ?_, fun hi hf hbusy => ?_, fun hi hconfig hprobe => ?_⟩
  · refine tableWrite_refused (u := 0) (table := 0) h
      (congrArg WriteResult.refusal (writeField_beyond ?_))
    rcases hno with hi | hf
    · have index : b.index.toNat ≠ 0 := fun hz => hi (BitVec.eq_of_toNat_eq hz)
      exact (if_neg index).le.trans (Nat.zero_le _)
    · by_cases index : b.index.toNat = 0
      · exact (if_pos index).le.trans hf
      · exact (if_neg index).le.trans (Nat.zero_le _)
  · refine tableWrite_refused (u := 0) (table := 0) h ?_
    refine (congrArg WriteResult.refusal (writes hi _ _)).trans ?_
    refine storeJudged_forbidden _ ?_ (rct_write_isSome (by omega))
    rcases hbusy with hrun | hprobe
    · rw [(running_iff s).mpr hrun]; rfl
    · rw [hprobe, Bool.not_true, Bool.and_false]
  have permitted : (!s.running && !s.rct.probing) = true := by
    rw [(not_running_iff s).mpr hconfig, hprobe]; rfl
  have stored {same : Bool} {r : Rct} {value : Nat}
      (hj : s.rct.write b.field.toNat b.data = some (.brought same r))
      (hread : (roundFields r)[b.field.toNat]? = some value)
      (hsame : same = true ↔ value = n)
      (hround : r.roundNumber = s.rct.roundNumber) : stores r value := by
    have done := tableWrite_done (u := 0) (table := 0) (value := value) (g := fun y => y.setRct r) h
      ((writes hi _ _).trans (storeJudged_brought _ permitted hj)) ?_ rfl rfl hround
    · rwa [if_congr hsame rfl rfl] at done
    · rw [hi]
      exact hread
  refine ⟨fun hf => ?_, fun hf hn => ?_, fun hf hn => ?_, fun hf hn => ?_, fun hf => ?_⟩
  · refine stored (r := { s.rct with period := max 10 (min 160 n) }) ?_ (by rw [hf]; rfl)
      beq_iff_eq rfl
    rw [hf]
    change some ((judgeMagnitude 10 160 b.data).into _) = _
    rw [judgeMagnitude_eq (by decide), brought_into]
  · refine stored (same := true) ?_ (by rw [hf]; rfl) (iff_of_true rfl hn.symm) rfl
    rw [hf]
    change some ((Judged.ofOption (closeModeOfCode b.data.toNat)).into _) = _
    rw [show b.data.toNat = 0 from hn]
    rfl
  · refine stored (same := true) ?_ (by rw [hf]; rfl) (iff_of_true rfl hn.symm) rfl
    rw [hf]
    change some ((Judged.ofOption (closeModeOfCode b.data.toNat)).into _) = _
    rw [show b.data.toNat = 1 from hn]
    rfl
  · refine tableWrite_refused (u := 0) (table := 0) h ?_
    refine (congrArg WriteResult.refusal (writes hi _ _)).trans ?_
    rw [hf]
    change (storeJudged _ (some ((Judged.ofOption (closeModeOfCode b.data.toNat)).into _)) _).refusal = _
    rw [closeModeOfCode_beyond hn]
    exact storeJudged_bad _ permitted
  · refine stored (r := { s.rct with roundMax := min 250 n }) ?_ (by rw [hf]; rfl)
      beq_iff_eq rfl
    rw [hf]
    change some ((judgeMagnitude 0 250 b.data).into _) = _
    rw [judgeMagnitude_eq (by decide), brought_into, Nat.zero_max]

/-- The class's flags after a write of its enable (fields 0 to 5) or mask (fields 6 to 11). -/
def ClassFlags.written (f : Nat) (old : ClassFlags) (x : Bool) : ClassFlags :=
  if f < 6 then { old with enable := x } else { old with mask := x }

theorem notices_write_class {n : Notices} {f : Nat} {c : NoticeClass} {w : Word}
    (hf : f + 1 = c.code ∨ f = c.code + 5) :
    n.write f w = some ((judgeFlag w).into fun x => n.setFlags c ((n.flags c).written f x)) := by
  rcases hf with hf | hf
  · cases c <;> (cases hf; rfl)
  · cases c <;> (cases hf; rfl)

theorem noticeFields_class {n : Notices} {f : Nat} {c : NoticeClass} {x : Bool}
    (hf : f + 1 = c.code ∨ f = c.code + 5) :
    (noticeFields (n.setFlags c ((n.flags c).written f x)))[f]? = some (flagCode x) := by
  rcases hf with hf | hf
  · cases c <;> (cases hf; rfl)
  · cases c <;> (cases hf; rfl)

theorem setFlags_flags (n : Notices) (c k : NoticeClass) (x : ClassFlags) :
    (n.setFlags c x).flags k = if k = c then x else n.flags k := by
  cases c <;> cases k <;> rfl

theorem setFlags_counts (n : Notices) (c : NoticeClass) (x : ClassFlags) :
    (n.setFlags c x).lostFlag = n.lostFlag ∧ (n.setFlags c x).queued = n.queued ∧
      (n.setFlags c x).lost = n.lost := by
  cases c <;> exact ⟨rfl, rfl, rfl⟩

end

/-! ### Notice flags and panel mode (R164, R172, R175) -/

section
variable {e : Envelope} {b : Body} {s : State}

/-- What a request does that changes TIF's counters or the round number: the response is that of the
state it leaves. -/
theorem ask_moves {u : Nat} {op table : Byte} (h : TakesAtOnce e.port s)
    (hc : ((ownRequest u op table e b s).isCopy && !s.pju.swapPending) = false)
    {g : State → State} {a : Reply}
    (hrun : runRequest (ownRequest u op table e b s) (takenState e.port s) =
      (g (takenState e.port s), a))
    (hg : g (takenState e.port s) = (received (g s)).setTif ((g s).tif.reserve e.port))
    (hstrap : (g s).tif.strap = s.tif.strap) :
    ask u op table e b s = received (answered u e a (g s)) := by
  rw [ask_taken u op table e b s h hc, hrun]
  dsimp only
  have own : ownRequest u op table e b s = ownRequest u op table e b (g s) := by
    unfold ownRequest
    rw [hstrap]
  rw [own, respond_taken u op table e b a (g s) (g (takenState e.port s)) (by rw [hg]; rfl)
    (by rw [hg]; rfl), hg]
  rfl

/-- The notice control after an accepted write; with the TRUNK class disabled the tallies are 0. -/
def withNotices (n : Notices) (s : State) : State :=
  if n.trunk.enable then s.setMgu { s.mgu with notices := n }
  else clearTallies (s.setMgu { s.mgu with notices := n })

theorem withNotices_taken (n : Notices) (p : Port) (s : State) :
    withNotices n (takenState p s) =
      (received (withNotices n s)).setTif ((withNotices n s).tif.reserve p) := by
  unfold withNotices
  split
  next => rfl
  next => cases p <;> rfl

theorem withNotices_strap (n : Notices) (s : State) :
    (withNotices n s).tif.strap = s.tif.strap := by
  unfold withNotices
  split <;> rfl

theorem withNotices_notices (n : Notices) (s : State) : (withNotices n s).mgu.notices = n := by
  unfold withNotices
  split <;> rfl

/-- Settles O57: a write stores one setting, and a field that is read-only or unknown is refused. -/
theorem tableWritesStoreTheirSettings : Obligations.TableWritesStoreTheirSettings := by
  refine ⟨fun e u table b s h hbeyond => ?_, fun e b s h => roundWrites h, fun e b s c h hi hf => ?_,
    fun e b s h => ?_⟩
  · exact tableWrite_refused h (congrArg WriteResult.refusal (writeField_beyond hbeyond))
  · have writes (w : Word) :
        writeField 0 2 b.index.toNat b.field.toNat w (takenState e.port s) =
          storeJudged true
            (some ((judgeFlag w).into fun x => s.mgu.notices.setFlags c
              ((s.mgu.notices.flags c).written b.field.toNat x)))
            fun n => withNotices n (takenState e.port s) := by
      rw [hi]
      change storeJudged true (s.mgu.notices.write b.field.toNat w) _ = _
      rw [notices_write_class hf]
      rfl
    refine ⟨fun hn => ?_, fun x hx => ?_⟩
    · refine tableWrite_refused (u := 0) (table := 2) h ?_
      refine (congrArg WriteResult.refusal (writes _)).trans ?_
      rw [judgeFlag_bad hn]
      rfl
    intro old new
    let notices := s.mgu.notices.setFlags c ((s.mgu.notices.flags c).written b.field.toNat x)
    obtain ⟨lostFlag, queued, lost⟩ := setFlags_counts s.mgu.notices c
      ((s.mgu.notices.flags c).written b.field.toNat x)
    refine ⟨notices, withNotices notices s, ?_, ?_, fun k hk => ?_, lostFlag, queued, lost,
      fun hen => if_pos hen, fun hen => if_neg (by rw [hen]; exact Bool.false_ne_true)⟩
    · refine (whenReleased_free h.released).trans (congrArg _ ?_)
      refine ask_moves (g := withNotices notices) h (notCopy_of_op (by decide) (by decide)) ?_
        (withNotices_taken _ _ _) (withNotices_strap _ _)
      have reads : readField 0 2 b.index.toNat b.field.toNat (withNotices notices (takenState e.port s)) =
          some b.data.toNat := by
        rw [hi]
        change (noticeFields (withNotices notices (takenState e.port s)).mgu.notices)[b.field.toNat]? = _
        rw [withNotices_notices, noticeFields_class hf, hx]
      have done : writeField 0 2 b.index.toNat b.field.toNat b.data (takenState e.port s) =
          .done (withNotices notices (takenState e.port s)) .ok := by
        refine (writes _).trans ?_
        rw [judgeFlag_code hx]
        rfl
      rw [runRequest_write (by decide), runWrite_done (by decide) done reads, ofNat_data]
    · exact (setFlags_flags _ _ _ _).trans (if_pos rfl)
    · exact (setFlags_flags _ _ _ _).trans (if_neg hk)
  · intro refused
    have writes (hi : b.index = 0) (hf : b.field = 0) :
        writeField 3 4 b.index.toNat b.field.toNat b.data (takenState e.port s) =
          storeJudged true (some (Judged.ofOption (panelModeOfCode b.data.toNat))) fun m =>
            (takenState e.port s).setOut { s.out with panelMode := m } := by
      rw [hi, hf]
      rfl
    refine ⟨fun hno => ?_, fun hi hf hn => ?_, fun mode hi hf hn => ?_⟩
    · refine tableWrite_refused (u := 3) (table := 4) h
        (congrArg WriteResult.refusal (if_neg ?_))
      rintro ⟨hi, hf⟩
      rcases hno with hno | hno
      · exact hno (BitVec.eq_of_toNat_eq hi)
      · exact hno (BitVec.eq_of_toNat_eq hf)
    · refine tableWrite_refused (u := 3) (table := 4) h ?_
      refine (congrArg WriteResult.refusal (writes hi hf)).trans ?_
      rw [panelModeOfCode_beyond hn]
      rfl
    · have done := tableWrite_done (u := 3) (table := 4) (b := b) (value := b.data.toNat) (status := .ok)
        (g := fun y => y.setOut { s.out with panelMode := mode }) h ?_ ?_ rfl rfl rfl
      · rwa [ofNat_data] at done
      · refine (writes hi hf).trans ?_
        rw [hn, panelModeOfCode_code]
        rfl
      · rw [hi, hf, hn]
        rfl

end

end Sys2Proof.Machine
end

section
/-! Proofs about arriving frames: the copy of a frame beside the frame its sync bytes end (R5, R9, R10),
a request for one of the part's units (R7, R9), and what an outbound port sends next (R14). -/

namespace Sys2Proof.Machine

/-! ### Copies (R9, R10) -/

/-- A YARD frame that names no pile: its copy only counts as a yard reject. -/
def rejectedYard : Frame := buildFrame .yard 0 0 0 [255, 0, 0, 0]

/-- A part whose field framer holds, as a frame in reception, the bytes of a good YARD frame. The
next frame's sync bytes end it, and it arrives too. -/
def holdingYard : State :=
  (State.reset.setResetHeld none).modPort .field fun ps =>
    { ps with framer := .unknown rejectedYard false }

theorem holdingYard_opens :
    (((holdingYard.elapse 0).tif.port .field).framer).opens = true := by decide +kernel

theorem rejectedYard_good :
    frameClass rejectedYard = some .yard ∧ isGood .yard rejectedYard = true ∧
      frameByte rejectedYard 0 = 0xA6 ∧ frameByte rejectedYard 1 = 0x3D := by decide +kernel

/-- Both the frame held and the frame that arrives are counted as rejects. -/
theorem holdingYard_arrival :
    (frameArrives .field rejectedYard (holdingYard.elapse 0)).plu.yardRejects = 2 := by
  decide +kernel

/-- The copy alone is counted once. -/
theorem holdingYard_copy :
    (takeYard (yardCopyOf rejectedYard) (holdingYard.elapse 0)).plu.yardRejects = 1 := by
  decide +kernel

/-- Refutes O11: where the framer holds a frame of unknown class whose bytes are a good YARD frame, the
sync bytes of the arriving frame dispose of that one first, and its copy reaches PLU beside the
arriving frame's. -/
theorem not_copiesDoNotDependOnForwarding : ¬ Obligations.CopiesDoNotDependOnForwarding := by
  intro h
  obtain ⟨hclass, hgood, hsync1, hsync2⟩ := rejectedYard_good
  obtain ⟨-, hyard⟩ := h 0 .field rejectedYard holdingYard rfl holdingYard_opens
  obtain ⟨t, u, ht, hu, hplu, -⟩ := hyard hclass hgood hsync1 hsync2
  have arrival : t = frameArrives .field rejectedYard (holdingYard.elapse 0) :=
    (Host.Outcome.next.inj ((whenReleased_free rfl).symm.trans ht)).symm
  have copy : u = takeYard (yardCopyOf rejectedYard) (holdingYard.elapse 0) :=
    (Host.Outcome.next.inj ((whenReleased_free rfl).symm.trans hu)).symm
  have rejects : t.plu.yardRejects = u.plu.yardRejects := congrArg Plu.yardRejects hplu
  rw [arrival, copy, holdingYard_arrival, holdingYard_copy] at rejects
  cases rejects

/-! ### What a port sends next (R14, R15) -/

/-- With no request waiting and no SERVICE sign to drain, a frame that has left is followed by the
port's selection alone. -/
theorem frameLeft_selects {p : Port} {turns : List Turn} {s : State} (hempty : s.mgu.requests = [])
    (hdrain : s.rct.opState = .run ∨ ∀ z, (s.zone z).signPending = false)
    (hbusy : (s.tif.port p).sending.isSome = true) :
    frameLeft p turns s = s.setTif (s.tif.select p) := by
  unfold frameLeft
  rw [if_pos hbusy]
  dsimp only
  generalize decide (((s.setTif (s.tif.select p)).tif.port p).queue.length <
    (s.tif.port p).queue.length) = left
  have todo : (if (p == .field && !(s.setTif (s.tif.select p)).running && left) = true then
      pendingZones (s.setTif (s.tif.select p)) else []) = [] := by
    rcases hdrain with hrun | hnone
    · have running : (s.setTif (s.tif.select p)).running = true := (running_iff s).mpr hrun
      rw [running, Bool.not_true, Bool.and_false, Bool.false_and]
      rfl
    · have none : pendingZones (s.setTif (s.tif.select p)) = [] :=
        List.filter_eq_nil_iff.mpr fun z _ => by
          have kept : ((s.setTif (s.tif.select p)).zone z).signPending = false := hnone z
          rw [kept]
          exact Bool.false_ne_true
      rw [none]
      exact ite_self []
  rw [todo]
  exact contend_empty drainVisit_requests turns [] _ hempty

theorem Tif.modPort_eq_setPort (t : Tif) (p : Port) (g : PortState → PortState) :
    t.modPort p g = t.setPort p (g (t.port p)) := rfl

/-- Settles O13: the selection of R14, line by line. -/
theorem outboundPortSelects : Obligations.OutboundPortSelects := by
  intro p turns s hr hempty hdrain hbusy gives ps noMark
  have sent {t : Tif} (ht : s.tif.select p = t) : gives t := by
    refine (whenReleased_free hr).trans (congrArg _ ?_)
    rw [frameLeft_selects hempty hdrain hbusy, ht]
  have sources (hno : noMark) : s.tif.select p = s.tif.setPort p ps.select := by
    refine Tif.select_sources _ _ ?_
    rcases hno with rfl | hno
    · rfl
    · cases p with
      | field => exact hno
      | quay => rfl
  refine ⟨fun m hp hm => sent ?_, fun f rest hno ht h => sent ?_, fun f rest hno hq h => sent ?_,
    fun hno ht hq => sent ?_⟩
  · subst hp
    exact Tif.select_mark _ _ m hm
  · rw [sources hno, PortState.select_transit ht h]
    rfl
  · rw [sources hno, PortState.select_insertion hq h]
    rfl
  · rw [sources hno, PortState.select_nothing ht hq]

/-! ### A frame that arrives between frames (R3 to R6) -/

section
variable {p : Port} {s : State}

theorem Tif.modPort_congr {t : Tif} {g k : PortState → PortState} (h : g (t.port p) = k (t.port p)) :
    t.modPort p g = t.modPort p k := by
  rw [Tif.modPort_eq_setPort, Tif.modPort_eq_setPort, h]

/-- The framer's port when a frame arrives between frames: a byte held in SAW_A6 is a stray byte, and
the framer is left behind the frame. -/
def PortState.arrivedAt (f : Frame) (ps : PortState) : PortState :=
  { ps with
    framer := framerAfter f
    strayBytes :=
      if ps.framer = .header then ps.strayBytes
      else min 65535 (ps.strayBytes + if ps.framer = .sawA6 then 1 else 0) }

theorem framerReset_synced (f : Frame) (strays : Nat)
    (hheader : (s.tif.port p).framer ≠ .header)
    (hstrays : strays = if (s.tif.port p).framer = .sawA6 then 1 else 0) :
    framerReset p f (framerBecomes p .header 0 (framerBecomes p .sawA6 strays s)) =
      s.modPort p (PortState.arrivedAt f) := by
  unfold framerReset framerBecomes State.modPort
  rw [State.setTif_tif, State.setTif_tif, State.setTif_twice, State.setTif_twice,
    Tif.modPort_modPort, Tif.modPort_modPort]
  refine congrArg s.setTif (Tif.modPort_congr ?_)
  unfold PortState.arrivedAt
  rw [if_neg hheader, hstrays]
  simp

/-- A frame that arrives at a framer between frames is disposed of at once. -/
theorem frameArrives_between {f : Frame} (harr : arrivable f = true)
    (hbetween : (s.tif.port p).framer.between = true) :
    frameArrives p f s = disposeFrame p f (s.modPort p (PortState.arrivedAt f)) := by
  have second (strays : Nat) : receive p (.byte sync2) (framerBecomes p .sawA6 strays s) =
      framerBecomes p .header 0 (framerBecomes p .sawA6 strays s) := by
    refine receive_quiet ?_
    rw [framerBecomes_framer]
    rfl
  have synced (strays : Nat) (hfirst : receive p (.byte sync1) s = framerBecomes p .sawA6 strays s) :
      receiveAll p [sync1, sync2] s =
        framerBecomes p .header 0 (framerBecomes p .sawA6 strays s) := by
    change receive p (.byte sync2) (receive p (.byte sync1) s) = _
    rw [hfirst, second]
  cases hframer : (s.tif.port p).framer with
  | header =>
    rw [frameArrives_header harr hframer]
    unfold framerReset State.modPort
    refine congrArg (fun t => disposeFrame p f (s.setTif t)) (Tif.modPort_congr ?_)
    unfold PortState.arrivedAt
    rw [if_pos hframer]
  | hunt =>
    have hheader : (s.tif.port p).framer ≠ .header := by rw [hframer]; exact nofun
    rw [frameArrives_opens (by rw [hframer]; rfl) hheader harr,
      synced 0 (receive_quiet (by rw [hframer]; rfl)),
      framerReset_synced f 0 hheader (by rw [hframer]; rfl)]
  | sawA6 =>
    have hheader : (s.tif.port p).framer ≠ .header := by rw [hframer]; exact nofun
    rw [frameArrives_opens (by rw [hframer]; rfl) hheader harr,
      synced 1 (receive_quiet (by rw [hframer]; rfl)),
      framerReset_synced f 1 hheader (by rw [hframer]; rfl)]
  | known bytes length | unknown bytes pair =>
    rw [hframer] at hbetween
    cases hbetween

theorem arrivable_good {c : FrameClass} {f : Frame} (h0 : frameByte f 0 = 0xA6)
    (h1 : frameByte f 1 = 0x3D) (hclass : frameClass f = some c) (hgood : isGood c f = true) :
    arrivable f = true := by
  unfold isGood at hgood
  rw [Bool.and_eq_true, beq_iff_eq] at hgood
  have length := c.frameBytes_bounds
  unfold arrivable
  rw [h0, h1, hclass, hgood.1]
  simp [sync1, sync2]
  omega

/-- Settles O12: between frames the frame is disposed of at once, and its address is the unit's. -/
theorem ownRequestsAreConsumed : Obligations.OwnRequestsAreConsumed := by
  intro after p u f s hr v hbetween hstray h0 h1 hclass hgood hdest
  have harr := arrivable_good h0 h1 hclass hgood
  have free : v.resetHeld = none := (elapse_resetHeld after s).trans hr
  let x : State := v.modPort p fun ps =>
    { ps with
      framer := .hunt, goodFrames := min 65535 (ps.goodFrames + 1)
      strayBytes := min 65535 (ps.strayBytes + if ps.framer = .sawA6 then 1 else 0) }
  have counted : (v.modPort p (PortState.arrivedAt f)).modPort p
      (fun ps => { ps with goodFrames := bump ps.goodFrames }) = x := by
    unfold x State.modPort
    rw [State.setTif_tif, State.setTif_twice, Tif.modPort_modPort]
    refine congrArg v.setTif (Tif.modPort_congr ?_)
    unfold PortState.arrivedAt
    rw [framerAfter_known hclass]
    by_cases hheader : (v.tif.port p).framer = .header
    · simp [hheader, bump, Config.counterTop, hstray]
    · simp [hheader, bump, Config.counterTop]
  have strap : x.tif.strap = v.tif.strap := by cases p <;> rfl
  have own : ownUnit x.tif.strap (frameDest f) = some u.val := by
    unfold ownUnit
    dsimp only
    rw [strap, if_pos (by omega), hdest, Nat.add_sub_cancel_left]
  have dest : frameDest f = managementAddress x.tif.strap u.val := by
    refine BitVec.eq_of_toNat_eq ?_
    have := v.tif.strap.isLt
    rw [hdest, strap, managementAddress, byteOf, BitVec.toNat_ofNat, Nat.mod_eq_of_lt (by omega)]
  have request : requestOf p f =
      ownRequest u.val (payloadByte f 1) (payloadByte f 2)
        { port := p, source := frameSource f, tag := payloadByte f 0 }
        { index := payloadWord f 3, field := payloadByte f 5, data := payloadWord f 6 } x := by
    unfold requestOf ownRequest
    rw [dest]
  have disposed : disposeFrame p f (v.modPort p (PortState.arrivedAt f)) =
      requestArrives (requestOf p f) x := by
    unfold disposeFrame
    rw [hclass]
    dsimp only
    rw [if_pos hgood]
    unfold disposeGood
    dsimp only
    rw [counted]
    unfold disposeRequest
    rw [own]
  rw [exec_frameArrival after f hr, frameArrives_between harr hbetween, disposed, request]
  exact (whenReleased_free (s := x) free).symm

end

end Sys2Proof.Machine
end

section
/-! Proofs about START, PROBE, and the expiries of the round and the probe timer: what they place in TIF
beside what they do to the blocks (R20 to R27, R32, R34, R55). -/

namespace Sys2Proof.Machine

/-! ### The inbound side of a port (R14, R15) -/

/-- A port with its outbound side, its reservations and the counters of what it sends left out. -/
def PortState.inbound (ps : PortState) : PortState :=
  { ps with
    sending := none, transit := [], queue := [], reserved := 0, lastTaken := .insertion
    framesForwarded := 0, framesInserted := 0 }

/-- What is received, counted of it and tallied stays. -/
def InboundKept (t u : Tif) : Prop := ∀ q, (u.port q).inbound = (t.port q).inbound

section
variable {t u v : Tif} {p : Port}

theorem InboundKept.refl (t : Tif) : InboundKept t t := fun _ => rfl

theorem InboundKept.trans (h : InboundKept t u) (k : InboundKept u v) : InboundKept t v :=
  fun q => (k q).trans (h q)

theorem inboundKept_modPort (t : Tif) (p : Port) {g : PortState → PortState}
    (hg : ∀ x, (g x).inbound = x.inbound) : InboundKept t (t.modPort p g) := by
  intro q
  rw [Tif.port_modPort]
  split
  · exact hg _
  · rfl

theorem inboundKept_setMark (t : Tif) (m : Option Frame) : InboundKept t { t with markSlot := m } :=
  fun q => by cases q <;> rfl

theorem PortState.select_inbound (ps : PortState) : ps.select.inbound = ps.inbound := by
  unfold PortState.select
  split
  · split <;> rfl
  all_goals rfl

theorem inboundKept_select (p : Port) (t : Tif) : InboundKept t (t.select p) := by
  unfold Tif.select
  split
  · exact (inboundKept_setMark t none).trans (inboundKept_modPort _ p fun _ => rfl)
  · exact inboundKept_modPort t p PortState.select_inbound

theorem inboundKept_wake (p : Port) (t : Tif) : InboundKept t (t.wake p) := by
  unfold Tif.wake
  split
  · exact inboundKept_select p t
  · exact InboundKept.refl t

theorem inboundKept_offer {group : List Frame} (h : t.offer p group = some u) : InboundKept t u := by
  rw [Tif.offer_spec] at h
  split at h
  · cases h
    refine InboundKept.trans ?_ (inboundKept_wake p _)
    exact inboundKept_modPort t p fun _ => rfl
  · cases h

theorem inboundKept_enterReserved (p : Port) (f : Frame) (t : Tif) :
    InboundKept t (t.enterReserved p f) := by
  refine InboundKept.trans ?_ (inboundKept_wake p _)
  exact inboundKept_modPort t p fun _ => rfl

theorem inboundKept_placeMark (m : Frame) (t : Tif) : InboundKept t (t.placeMark m) :=
  (inboundKept_setMark t (some m)).trans (inboundKept_wake .field _)

/-! ### The tallies (R175) -/

/-- Both ports' tallies are 0. -/
def TalliesClear (t : Tif) : Prop := ∀ p, (t.port p).crcTally = 0 ∧ (t.port p).dropTally = 0

theorem TalliesClear.kept (h : TalliesClear t) (k : InboundKept t u) : TalliesClear u := by
  intro q
  obtain ⟨hcrc, hdrop⟩ := h q
  exact ⟨(congrArg PortState.crcTally (k q)).trans hcrc,
    (congrArg PortState.dropTally (k q)).trans hdrop⟩

theorem talliesClear_cleared (t : Tif) :
    TalliesClear ((t.modPort .field PortState.clearTallies).modPort .quay PortState.clearTallies) :=
  fun q => by cases q <;> exact ⟨rfl, rfl⟩

theorem entered_clearTallies (p : Port) (t : Tif) : Entered p none [] t
    ((t.modPort .field PortState.clearTallies).modPort .quay PortState.clearTallies) :=
  (entered_modPort (g := PortState.clearTallies) fun _ => ⟨rfl, rfl, rfl⟩).after
    (entered_modPort (g := PortState.clearTallies) fun _ => ⟨rfl, rfl, rfl⟩)

/-! ### The MARK (R13, R14) -/

/-- The field port once a MARK is placed. -/
theorem placeMark_marked (m : Frame) (t : Tif) :
    (t.fieldPort.sending.isSome = true →
      (t.placeMark m).markSlot = some m ∧
        (t.placeMark m).fieldPort.sending = t.fieldPort.sending) ∧
    (t.fieldPort.sending = none →
      (t.placeMark m).markSlot = none ∧ (t.placeMark m).fieldPort.sending = some m) := by
  unfold Tif.placeMark
  refine ⟨fun hbusy => ?_, fun hidle => ?_⟩
  · rw [Tif.wake_busy { t with markSlot := some m } .field hbusy]
    exact ⟨rfl, rfl⟩
  · rw [Tif.wake_idle { t with markSlot := some m } .field hidle, Tif.select_mark _ .field m rfl]
    exact ⟨rfl, rfl⟩

/-- A response leaves the MARK slot and what a busy field port sends. -/
theorem enterReserved_busyField (f : Frame) (hbusy : t.fieldPort.sending.isSome = true) :
    (t.enterReserved p f).markSlot = t.markSlot ∧
      (t.enterReserved p f).fieldPort.sending = t.fieldPort.sending := by
  unfold Tif.enterReserved
  cases p with
  | field =>
    rw [Tif.wake_busy]
    · exact ⟨rfl, rfl⟩
    · exact hbusy
  | quay =>
    refine ⟨Tif.wake_quay_markSlot _, ?_⟩
    exact congrArg PortState.sending (Tif.wake_other (p := .field) (r := .quay) _ (by decide))

/-- A command that places a MARK and is then answered. -/
theorem marked_answered {s y : State} {m f : Frame}
    (hfield : t.fieldPort.sending = s.tif.fieldPort.sending)
    (hy : y.tif = (t.placeMark m).enterReserved p f) : Marked m s y := by
  obtain ⟨busy, idle⟩ := placeMark_marked m t
  unfold Marked
  rw [hy, ← hfield]
  refine ⟨fun hb => ?_, fun hi => ?_⟩
  · obtain ⟨hslot, hsending⟩ := busy hb
    obtain ⟨kslot, ksending⟩ := enterReserved_busyField (p := p) f (by rw [hsending]; exact hb)
    exact ⟨kslot.trans hslot, ksending.trans hsending⟩
  · obtain ⟨hslot, hsending⟩ := idle hi
    obtain ⟨kslot, ksending⟩ := enterReserved_busyField (p := p) f (by rw [hsending]; rfl)
    exact ⟨kslot.trans hslot, ksending.trans hsending⟩

end

/-! ### Responses (R12, R169) -/

section
variable {u : Nat} {op table : Byte} {e : Envelope} {b : Body} {s x : State} {a : Reply}

theorem entered_reserve (p q : Port) (t : Tif) : Entered p none [] t (t.reserve q) :=
  entered_modPort fun _ => ⟨rfl, rfl, rfl⟩

/-- The response of a command that has let frames into its port (R12). -/
theorem responded_of_entered {mark : Option Frame} {before : List Frame}
    (h : Entered e.port mark before s.tif x.tif) :
    Responded u e x.rct.roundNumber a mark before s
      (respond (ownRequest u op table e b s) a x) :=
  (h.trans (entered_enterReserved _)).queued

theorem respond_rct (r : Request) : (respond r a x).rct = x.rct := rfl
theorem respond_plu (r : Request) : (respond r a x).plu = x.plu := rfl
theorem respond_tif (r : Request) :
    (respond r a x).tif = x.tif.enterReserved r.port
      (responseFrame r.source r.dest x.rct.roundNumber r.tag a.status.code a.table a.index a.field
        a.data) := rfl

end

/-! ### Expiry of the round timer (R22 to R27) -/

theorem whenReleased_same {f : State → State} {s : State} (h : f s = s) :
    whenReleased f s = .next s := by
  unfold whenReleased
  split
  · rfl
  · rw [h]

theorem not_reached {ms n : Nat} {timer : Option Nat} (h : timer = some n) (hn : n < ms) :
    ¬ reached ms timer = true := by
  rw [reached_iff, h]
  rintro ⟨k, hk, hms⟩
  cases hk
  omega

/-- Settles O19: the expiry is an opening with the numbers of R26 advanced. -/
theorem expiryOpensTheNextRound : Obligations.ExpiryOpensTheNextRound := by
  refine ⟨fun s n htimer hn => whenReleased_same (timerExpires_early s fun ⟨_, _, hreached⟩ =>
    not_reached htimer hn hreached), fun s h => ?_⟩
  intro number healthy
  refine ⟨_, whenReleased_free h.released, ?_⟩
  have opens : timerExpires s = openRound (s.setRct s.rct.advance) :=
    if_pos ((atExpiry_iff h.released).mp h)
  rw [opens, openRound_eq]
  refine ⟨rfl, fun i => tableMap_get _ _ _, placeMark_marked _ _, ?_, rfl, rfl, rfl, rfl, rfl, rfl,
    rfl⟩
  exact (Tif.wake_other (p := .quay) (r := .field) _ (by decide))

/-! ### PROBE (R32, R34) -/

section
variable {e : Envelope} {b : Body} {s : State}

/-- Settles O18: PROBE places its MARK and is answered; its timer's expiry raises the ROUND event. -/
theorem probeStartsAndExpires : Obligations.ProbeStartsAndExpires := by
  refine ⟨fun e b s h => ⟨fun hbusy => ?_, fun hconfig hprobe => ?_⟩,
    fun s n htimer hn => whenReleased_same (probeExpires_early s fun ⟨_, hreached⟩ =>
      not_reached htimer hn hreached), fun s h => ?_⟩
  · refine (whenReleased_free h.released).trans (congrArg _ ?_)
    refine command_unchanged (by decide) (.inr (by decide)) h ?_
    rw [runCommand_probe]
    refine if_pos ?_
    rw [Bool.or_eq_true]
    exact hbusy.imp (running_iff _).mpr id
  · let mark := markFrame s.tif.strap 0 s.rct.period true 0
    let x : State := ((takenState e.port s).setRct s.rct.probe).setTif
      ((s.tif.reserve e.port).placeMark mark)
    have run : runCommand (ownRequest 0 3 3 e b s) (takenState e.port s) =
        (x, echo .ok 3 b 0) := by
      rw [runCommand_probe]
      refine (if_neg ?_).trans ?_
      · rw [Bool.or_eq_true, not_or]
        have running : (takenState e.port s).running = false := (not_running_iff s).mpr hconfig
        have probing : (takenState e.port s).rct.probing = false := hprobe
        rw [running, probing]
        exact ⟨Bool.false_ne_true, Bool.false_ne_true⟩
      · have strap : (s.tif.reserve e.port).strap = s.tif.strap := Tif.modPort_strap _ _ _
        dsimp only
        rw [State.setRct_tif, show (takenState e.port s).tif = s.tif.reserve e.port from rfl, strap]
        rfl
    refine ⟨_, whenReleased_free h.released, ?_⟩
    rw [ask_command (by decide) (.inr (by decide)) h, run]
    refine ⟨rfl, rfl, rfl, rfl, rfl, rfl, rfl, rfl, rfl, ?_, ?_⟩
    · exact marked_answered (t := s.tif.reserve e.port)
        (by cases e.port <;> rfl) rfl
    · exact responded_of_entered (x := x)
        ((entered_reserve e.port e.port s.tif).after (entered_placeMark mark))
  · refine ⟨_, whenReleased_free h.released, ?_⟩
    have ends : probeExpires s = raise .round { subject := 1, old := 0, new := 0, flags := 0 }
        (s.setRct { s.rct with probing := false, probeTimer := none }) :=
      if_pos ((atProbeEnd_iff h.released).mp h)
    rw [ends]
    let x := s.setRct { s.rct with probing := false, probeTimer := none }
    have flags := raise_flags .round .round { subject := 1, old := 0, new := 0, flags := 0 } x
    have same := raise_same .round { subject := 1, old := 0, new := 0, flags := 0 } x
    refine ⟨same.rct, fun hen => ?_, fun hdis => ?_, fun hmask => ?_, ?_, same.sin, same.stu,
      same.plu, same.pju, same.znu, same.out, same.stage⟩
    · refine flags.2.2.trans ?_
      have enable : (x.mgu.notices.flags .round).enable = true := hen
      rw [enable]
      rfl
    · rw [raise_disabled .round _ x hdis]
      exact ⟨rfl, rfl⟩
    · cases hen : s.mgu.notices.round.enable with
      | false => rw [raise_disabled .round _ x hen]; rfl
      | true => rw [raise_masked (s := x) (c := .round) _ hen hmask]; rfl
    · refine notified_of_noticed (fun hen hmask _ => ?_) fun hr =>
        raise_noticed (s := x) hr .round { subject := 1, old := 0, new := 0, flags := 0 }
      have shows : x.mgu.notices.shows .round = true := by
        change ((s.mgu.notices.flags .round).enable && !(s.mgu.notices.flags .round).mask) = true
        rw [hen, hmask]
        rfl
      rw [if_pos shows]
      rfl

end

/-! ### START (R20, R21) -/

section
variable {e : Envelope} {b : Body} {s x : State}

theorem pileFailure_none (h : CrossValid s) : pileFailure s = none := by
  unfold pileFailure
  rw [List.findSome?_eq_none_iff]
  intro p _
  dsimp only
  cases hen : (s.pile p).cfg.enable with
  | false => rfl
  | true =>
    have primary : s.kindOf (s.pile p).cfg.primary = .anemo := h.primaries p hen
    rw [if_pos rfl, if_neg (not_not_intro primary), if_neg]
    cases hf : (s.pile p).cfg.fallback with
    | none => exact Bool.false_ne_true
    | some i =>
      have anemo : s.kindOf i = .anemo := h.fallbacks p i hen hf
      simp [anemo]

theorem startRefusal_valid (r : Request) (hop : s.rct.opState = .config)
    (hprobe : s.rct.probing = false) (hvalid : s.pju.active.valid = true) (h : CrossValid s) :
    startRefusal r s = none := by
  rw [startRefusal_none_iff]
  refine ⟨hop, hprobe, hvalid, ?_⟩
  have zones : firstFailure s.pju.active.zones (checkConfirmKinds s.kindOf) = none :=
    (firstFailure_none _ _).mpr fun z hen =>
      (checkConfirmKinds_none _ _).mpr fun i hi => h.zones z i hen hi
  unfold crossFailure
  rw [zones, pileFailure_none h]
  rfl

/-- No station is HEALTHY right after START, so none is expected. -/
theorem healthyStations_started (x : State) : healthyStations (startedBlocks x) = [] := by
  unfold healthyStations
  rw [List.filter_eq_nil_iff]
  intro i _
  have station : (startedBlocks x).station i = (x.station i).start := tableMap_get _ _ _
  unfold State.healthy
  rw [station]
  unfold Station.start
  cases hs : (x.station i).health.state <;> simp [hs]

theorem start_eq (st : Station) :
    st.start =
      if st.health.state = .off ∨ st.health.state = .retired then st
      else { st with health := { st.health with state := .unseen, missed := 0, since := 0 } } := by
  unfold Station.start
  cases hs : st.health.state <;> simp

theorem reevaluate_out_of {o : Out} (h : x.out = o) :
    (reevaluate x).out = { o with wl := (reevaluate x).out.wl, svc := (reevaluate x).out.svc } := by
  subst h
  rfl

theorem openRound_plu (y : State) : (openRound y).plu = y.plu := rfl

theorem startedBlocks_plu (y : State) :
    (startedBlocks y).plu = { y.plu with piles := tableMap (fun _ p => p.waiting) y.plu.piles } := rfl

theorem startedBlocks_out (y : State) :
    (startedBlocks y).out = { y.out with service := Vector.replicate 32 [] } := rfl

/-- Settles O15: an accepted START is `startRun`, whose opening places the MARK before the response. -/
theorem startOpensRoundOne : Obligations.StartOpensRoundOne := by
  intro e b s h hconfig hprobe hvalid hcross number
  let x := takenState e.port s
  let opened := openRound (startedBlocks x)
  have run : runCommand (ownRequest 0 3 1 e b s) x = (reevaluate opened, echo .ok 1 b 0) := by
    have none : startRefusal (ownRequest 0 3 1 e b s) x = none :=
      startRefusal_valid (s := s) _ hconfig hprobe hvalid hcross
    rw [runCommand_start]
    unfold runStart
    rw [none, startRun_eq]
    rfl
  have rct : opened.rct = { s.rct.start with
      clock := 0, clockRuns := true, expected := [], outstanding := 0, roundTimer := some 0
      phase := .opened } := by
    change openedRct (startedBlocks x) = _
    unfold openedRct
    rw [healthyStations_started]
    rfl
  have strap (t : Tif) (p : Port) : (((t.reserve p).modPort .field PortState.clearTallies).modPort
      .quay PortState.clearTallies).strap = t.strap := by
    rw [Tif.modPort_strap, Tif.modPort_strap, Tif.reserve, Tif.modPort_strap]
  have sending (t : Tif) (p : Port) : (((t.reserve p).modPort .field PortState.clearTallies).modPort
      .quay PortState.clearTallies).fieldPort.sending = t.fieldPort.sending := by
    cases p <;> rfl
  let cleared := ((s.tif.reserve e.port).modPort .field PortState.clearTallies).modPort .quay
    PortState.clearTallies
  have tif : opened.tif = cleared.placeMark (markFrame s.tif.strap number s.rct.period false 0) := by
    change cleared.placeMark (markFrame cleared.strap number s.rct.period false 0) = _
    rw [strap]
  refine ⟨_, whenReleased_free h.released, ?_⟩
  rw [ask_command (by decide) (.inr (by decide)) h, run]
  refine ⟨rct, fun i => ?_, fun i => ?_, fun z => ?_, fun p => ?_, ?_, ?_, ?_,
    (linesSound_setTif _ _).mpr (linesSound_reevaluate _), ?_, ?_, ?_, ?_, ?_⟩
  · exact tableMap_get _ _ _
  · exact (tableMap_get _ _ _).trans (start_eq _)
  · have zone : opened.zone z = (s.zone z).start s.out.refreshPeriod z := tableMap_get _ _ _
    change (opened.zone z).AtRest ∧ (opened.zone z).refresh = _ ∧
      (opened.zone z).signPending = _ ∧ (opened.zone z).lastSent = _
    rw [zone]
    exact ⟨Zone.start_rest _ _ _, rfl, rfl, rfl⟩
  · exact tableMap_get _ _ _
  · rw [respond_plu, reevaluate_plu, openRound_plu, startedBlocks_plu]
    rfl
  · rfl
  · have out : opened.out = { s.out with service := Vector.replicate 32 [] } :=
      startedBlocks_out x
    have shape := reevaluate_out_of out
    change (reevaluate opened).out = _
    generalize reevaluate opened = y at shape ⊢
    exact shape
  · rfl
  · rfl
  · refine TalliesClear.kept ?_ (inboundKept_enterReserved e.port _ _)
    change TalliesClear opened.tif
    rw [tif]
    exact (talliesClear_cleared _).kept (inboundKept_placeMark _ _)
  · exact marked_answered (t := cleared) (sending s.tif e.port)
      ((respond_tif _).trans (congrArg (Tif.enterReserved e.port _) tif))
  · have entered : Entered e.port (some (markFrame s.tif.strap number s.rct.period false 0)) []
        s.tif opened.tif := by
      rw [tif]
      exact (entered_reserve e.port e.port s.tif).after
        ((entered_clearTallies e.port _).after (entered_placeMark _))
    have responded := responded_of_entered (u := 0) (op := 3) (table := 1) (b := b)
      (a := echo .ok 1 b 0) (x := reevaluate opened) entered
    have round : (reevaluate opened).rct.roundNumber = number := by
      change opened.rct.roundNumber = _
      rw [rct]
      rfl
    rw [round] at responded
    exact responded

end

end Sys2Proof.Machine
end

section
/-! Proofs about the close of a round: what it reports, in which order, and what it leaves in TIF and in
the blocks (R25, R28, R54, R86, R151, R172 to R175). -/

namespace Sys2Proof.Machine

/-! ### Notices leave the inbound side of a port -/

section
variable {s t : State}

theorem InboundKept.tallies {x y : Tif} (h : InboundKept x y) (q : Port) :
    (y.port q).crcTally = (x.port q).crcTally ∧ (y.port q).dropTally = (x.port q).dropTally := by
  have crc := congrArg PortState.crcTally (h q)
  have drop := congrArg PortState.dropTally (h q)
  exact ⟨crc, drop⟩

theorem inboundKept_sendNotice (c : NoticeClass) (r : Report) (s : State) :
    InboundKept s.tif (sendNotice c r s).tif := by
  unfold sendNotice
  dsimp only
  split
  next x hx => exact inboundKept_offer hx
  next => exact InboundKept.refl _

theorem inboundKept_raise (c : NoticeClass) (r : Report) (s : State) :
    InboundKept s.tif (raise c r s).tif := by
  unfold raise
  dsimp only
  split
  next =>
    split
    next => exact InboundKept.refl _
    next => exact inboundKept_sendNotice c r (s.setNotices (s.mgu.notices.setStatus c))
  next => exact InboundKept.refl _

theorem inboundKept_raiseAll (events : List (NoticeClass × Report)) (s : State) :
    InboundKept s.tif (raiseAll events s).tif := by
  induction events generalizing s with
  | nil => exact InboundKept.refl _
  | cons e events ih => exact (inboundKept_raise e.1 e.2 s).trans (ih (raise e.1 e.2 s))

/-- The notices of events are read from the flags, the strap and the round number. -/
theorem shownFrames_congr (hshows : ∀ k, t.mgu.notices.shows k = s.mgu.notices.shows k)
    (hstrap : t.tif.strap = s.tif.strap) (hround : t.rct.roundNumber = s.rct.roundNumber)
    (events : List (NoticeClass × Report)) : shownFrames t events = shownFrames s events := by
  unfold shownFrames reportFrame
  simp only [hshows, hstrap, hround]

/-! ### The TRUNK notices (R175) -/

/-- The TRUNK notice of a port at a close. -/
def trunkFrame (s : State) (p : Port) : List Frame :=
  if (0 < (s.tif.port p).crcTally || 0 < (s.tif.port p).dropTally) && !s.mgu.notices.trunk.mask then
    [reportFrame s .trunk
      { subject := portCode p, old := (s.tif.port p).crcTally, new := (s.tif.port p).dropTally
        flags := 0 }]
  else []

theorem noticed_clearTallies (p : Port) (t : Tif) :
    Noticed [] t (t.modPort p PortState.clearTallies) := by
  refine noticed_nothing (entered_modPort fun _ => ⟨rfl, rfl, rfl⟩) ?_ ?_
  all_goals cases p <;> rfl

theorem trunkNotice_noticed (hr : Ready s.tif .quay) (p : Port) :
    Noticed (trunkFrame s p) s.tif (trunkNotice p s).tif := by
  have sent (r : Report) : Noticed [reportFrame s .trunk r] s.tif
      ((sendNotice .trunk r s).modPort p PortState.clearTallies).tif := by
    have both := (sendNotice_noticed hr .trunk r).trans (noticed_clearTallies p _)
    rwa [List.append_nil] at both
  unfold trunkFrame trunkNotice
  dsimp only
  split
  next => exact sent _
  next => exact noticed_clearTallies p s.tif

theorem trunkNotice_flags (p : Port) (k : NoticeClass) (s : State) :
    (trunkNotice p s).mgu.notices.flags k = s.mgu.notices.flags k := by
  unfold trunkNotice
  dsimp only
  split
  next => exact sendNotice_flags .trunk k _ s
  next => rfl

theorem trunkNotice_strap (p : Port) (s : State) : (trunkNotice p s).tif.strap = s.tif.strap :=
  (moved_trunkNotice (strap_keptByTraffic s.tif.strap) p s).tif rfl

theorem trunkNotice_rct (p : Port) (s : State) : (trunkNotice p s).rct = s.rct := by
  unfold trunkNotice
  dsimp only
  split
  next => exact (sendNotice_same _ _ s).rct
  next => rfl

/-- A port's TRUNK notice clears its tallies, and leaves those of the other. -/
theorem trunkNotice_tallies (p q : Port) (s : State) :
    ((trunkNotice p s).tif.port q).crcTally =
        (if q = p then 0 else (s.tif.port q).crcTally) ∧
      ((trunkNotice p s).tif.port q).dropTally =
        (if q = p then 0 else (s.tif.port q).dropTally) := by
  have cleared (x : State) (hx : InboundKept s.tif x.tif) :
      ((x.modPort p PortState.clearTallies).tif.port q).crcTally =
        (if q = p then 0 else (s.tif.port q).crcTally) ∧
      ((x.modPort p PortState.clearTallies).tif.port q).dropTally =
        (if q = p then 0 else (s.tif.port q).dropTally) := by
    unfold State.modPort
    rw [State.setTif_tif, Tif.port_modPort]
    split
    next => exact ⟨rfl, rfl⟩
    next => exact hx.tallies q
  unfold trunkNotice
  dsimp only
  split
  next => exact cleared _ (inboundKept_sendNotice .trunk _ s)
  next => exact cleared s (InboundKept.refl _)

theorem trunkNotices_noticed (hr : Ready s.tif .quay) :
    Noticed (trunkFrame s .field ++ trunkFrame s .quay) s.tif (trunkNotices s).tif := by
  have first := trunkNotice_noticed hr .field
  have second := trunkNotice_noticed (s := trunkNotice .field s) (first.ready hr) .quay
  have same : trunkFrame (trunkNotice .field s) .quay = trunkFrame s .quay := by
    obtain ⟨hcrc, hdrop⟩ := trunkNotice_tallies .field .quay s
    rw [if_neg (by decide)] at hcrc hdrop
    have mask : (trunkNotice .field s).mgu.notices.trunk = s.mgu.notices.trunk :=
      trunkNotice_flags .field .trunk s
    unfold trunkFrame reportFrame
    rw [hcrc, hdrop, mask, trunkNotice_strap, trunkNotice_rct]
  rw [same] at second
  exact first.trans second

theorem trunkNotices_flags (k : NoticeClass) (s : State) :
    (trunkNotices s).mgu.notices.flags k = s.mgu.notices.flags k :=
  (trunkNotice_flags .quay k _).trans (trunkNotice_flags .field k s)

theorem trunkNotices_strap (s : State) : (trunkNotices s).tif.strap = s.tif.strap :=
  (trunkNotice_strap .quay _).trans (trunkNotice_strap .field s)

theorem trunkNotices_clear (s : State) : TalliesClear (trunkNotices s).tif := by
  intro q
  obtain ⟨hcrc, hdrop⟩ := trunkNotice_tallies .quay q (trunkNotice .field s)
  obtain ⟨kcrc, kdrop⟩ := trunkNotice_tallies .field q s
  unfold trunkNotices
  rw [hcrc, hdrop, kcrc, kdrop]
  cases q <;> exact ⟨rfl, rfl⟩

/-! ### The events of a close (R25, R86) -/

/-- The STATION events of a close, in slot order. -/
def stationEvents (s : State) : List (NoticeClass × Report) :=
  (indices 48).filterMap fun i =>
    stationEvent i (s.station i).health.state
      (closeStation (s.intake i).reading (s.station i)).health.state

/-- The close up to the TRUNK notices. -/
def judgedRound (s : State) : State :=
  trunkNotices ((raiseAll (syncLost s.rct) (s.setRct s.rct.close)).mapIntakes fun _ it => it.closed)

/-- The close up to STU's pass. -/
def sweptRound (s : State) : State :=
  (judgedRound s).setZnu { (judgedRound s).znu with drillAtClose := (judgedRound s).drillRunning }

theorem closeRound_eq (s : State) :
    closeRound s = (reevaluate (closePass (sweptRound s))).setStage
      (pileStage (reevaluate (closePass (sweptRound s))) 0) := rfl

theorem sweptRound_rct (s : State) : (sweptRound s).rct = s.rct.close := by
  simp [sweptRound, judgedRound]

theorem sweptRound_reading (s : State) (i : Fin 48) :
    ((sweptRound s).intake i).reading = (s.intake i).reading := by
  have sin : (sweptRound s).sin = tableMap (fun _ it => it.closed) s.sin := by
    simp [sweptRound, judgedRound, State.mapIntakes]
  rw [State.intake, sin, tableMap_get, closed_reading]
  rfl

theorem sweptRound_stu (s : State) : (sweptRound s).stu = s.stu := by
  simp [sweptRound, judgedRound]

/-- STU's pass at a close raises the STATION events. -/
theorem closePass_swept (s : State) :
    closePass (sweptRound s) = raiseAll (stationEvents s)
      ((sweptRound s).mapStations fun i st =>
        closeStation ((sweptRound s).intake i).reading st) := by
  unfold closePass stationEvents
  refine congrArg (fun events => raiseAll events _) (List.filterMap_congr fun i _ => ?_)
  rw [State.station_mapStations, sweptRound_reading, State.station_congr (sweptRound_stu s)]

theorem closeRound_signals (s : State) :
    ∃ x : State, x.tif = (judgedRound s).tif ∧ x.mgu = (judgedRound s).mgu ∧ x.rct = s.rct.close ∧
      (closeRound s).tif = (raiseAll (stationEvents s) x).tif ∧
      (closeRound s).mgu = (raiseAll (stationEvents s) x).mgu := by
  refine ⟨(sweptRound s).mapStations fun i st => closeStation ((sweptRound s).intake i).reading st,
    ?_, ?_, ?_, ?_, ?_⟩
  · rw [State.mapStations_tif, sweptRound, State.setZnu_tif]
  · rw [State.mapStations_mgu, sweptRound, State.setZnu_mgu]
  · rw [State.mapStations_rct, sweptRound_rct]
  · rw [closeRound_eq, State.setStage_tif, reevaluate_tif, closePass_swept]
  · rw [closeRound_eq, State.setStage_mgu, reevaluate_mgu, closePass_swept]

theorem judgedRound_flags (k : NoticeClass) (s : State) :
    (judgedRound s).mgu.notices.flags k =
      (raiseAll (syncLost s.rct) (s.setRct s.rct.close)).mgu.notices.flags k := by
  unfold judgedRound
  rw [trunkNotices_flags, State.mapIntakes_mgu]

/-- A close reports in this order: "sync lost", the ports with a tally, the stations (R25). -/
theorem closeRound_noticed (hr : Ready s.tif .quay) :
    Noticed (shownFrames s (syncLost s.rct) ++ (trunkFrame s .field ++ trunkFrame s .quay) ++
      shownFrames s (stationEvents s)) s.tif (closeRound s).tif := by
  obtain ⟨x, hxtif, hxmgu, hxrct, htif, -⟩ := closeRound_signals s
  let j := (raiseAll (syncLost s.rct) (s.setRct s.rct.close)).mapIntakes fun _ it => it.closed
  have jtif : j.tif = (raiseAll (syncLost s.rct) (s.setRct s.rct.close)).tif :=
    State.mapIntakes_tif _ _
  have jmgu : j.mgu = (raiseAll (syncLost s.rct) (s.setRct s.rct.close)).mgu :=
    State.mapIntakes_mgu _ _
  have lost : Noticed (shownFrames s (syncLost s.rct)) s.tif j.tif := by
    have closed : shownFrames (s.setRct s.rct.close) (syncLost s.rct) =
        shownFrames s (syncLost s.rct) := shownFrames_congr (fun _ => rfl) rfl rfl _
    have raised := raiseAll_noticed (s := s.setRct s.rct.close) (syncLost s.rct) hr
    rw [closed, State.setRct_tif, ← jtif] at raised
    exact raised
  have trunk := trunkNotices_noticed (s := j) (lost.ready hr)
  have kept : InboundKept s.tif j.tif := by
    rw [jtif]
    exact inboundKept_raiseAll (syncLost s.rct) (s.setRct s.rct.close)
  have strap : j.tif.strap = s.tif.strap := by
    rw [jtif]
    exact raiseAll_strap (syncLost s.rct) (s.setRct s.rct.close)
  have round : j.rct.roundNumber = s.rct.roundNumber := by simp [j, Rct.close]
  have flags (k : NoticeClass) : (j.mgu.notices.flags k).enable = (s.mgu.notices.flags k).enable ∧
      (j.mgu.notices.flags k).mask = (s.mgu.notices.flags k).mask := by
    obtain ⟨hen, hmask, -⟩ := raiseAll_flags (syncLost s.rct) k (s.setRct s.rct.close)
    rw [jmgu]
    exact ⟨hen, hmask⟩
  have frames (p : Port) : trunkFrame j p = trunkFrame s p := by
    obtain ⟨crc, drop⟩ := kept.tallies p
    have mask : j.mgu.notices.trunk.mask = s.mgu.notices.trunk.mask := (flags .trunk).2
    unfold trunkFrame reportFrame
    rw [crc, drop, mask, strap, round]
  rw [frames, frames] at trunk
  have judged : Noticed (shownFrames s (syncLost s.rct) ++ (trunkFrame s .field ++ trunkFrame s .quay))
      s.tif x.tif := by
    rw [hxtif]
    exact lost.trans trunk
  have stations := raiseAll_noticed (s := x) (stationEvents s) (judged.ready hr)
  have same : shownFrames x (stationEvents s) = shownFrames s (stationEvents s) := by
    refine shownFrames_congr (fun k => ?_) ?_ ?_ _
    · unfold Notices.shows
      rw [hxmgu, judgedRound_flags, ← jmgu]
      obtain ⟨hen, hmask⟩ := flags k
      exact congrArg₂ (fun a b => a && !b) hen hmask
    · rw [hxtif]
      exact (trunkNotices_strap j).trans strap
    · rw [hxrct]
      rfl
  rw [same] at stations
  rw [htif]
  exact judged.trans stations

/-- What a close does to the flags of a class. -/
theorem closeRound_flags (k : NoticeClass) (s : State) :
    ((closeRound s).mgu.notices.flags k).enable = (s.mgu.notices.flags k).enable ∧
      ((closeRound s).mgu.notices.flags k).mask = (s.mgu.notices.flags k).mask ∧
      ((closeRound s).mgu.notices.flags k).status =
        (((syncLost s.rct ++ stationEvents s).any (fun e => decide (k = e.1)) &&
          (s.mgu.notices.flags k).enable) || (s.mgu.notices.flags k).status) := by
  obtain ⟨x, -, hxmgu, -, -, hmgu⟩ := closeRound_signals s
  obtain ⟨hen, hmask, hstatus⟩ := raiseAll_flags (syncLost s.rct) k (s.setRct s.rct.close)
  obtain ⟨ken, kmask, kstatus⟩ := raiseAll_flags (stationEvents s) k x
  rw [hxmgu, judgedRound_flags] at ken kmask kstatus
  rw [hmgu]
  refine ⟨ken.trans hen, kmask.trans hmask, kstatus.trans ?_⟩
  rw [hstatus, hen, List.any_append, State.setRct_mgu]
  generalize (syncLost s.rct).any _ = a
  generalize (stationEvents s).any _ = b
  cases a <;> cases b <;> cases (s.mgu.notices.flags k).enable <;> simp

/-- Both tallies of both ports are 0 after a close. -/
theorem closeRound_tallies (s : State) : TalliesClear (closeRound s).tif := by
  obtain ⟨x, hxtif, -, -, htif, -⟩ := closeRound_signals s
  rw [htif]
  refine TalliesClear.kept ?_ (inboundKept_raiseAll _ x)
  rw [hxtif]
  exact trunkNotices_clear _

end

end Sys2Proof.Machine
end

section
/-! Proofs about the close of a round at its deadline: the judgement and the reports (R23, R25, R28, R54),
and what STU's pass makes of each station (R59, R67 to R75, R82 to R86). -/

namespace Sys2Proof.Machine

/-! ### The reports of a class -/

section
variable {c : NoticeClass} {events : List (NoticeClass × Report)}

/-- The reports of a class among events. -/
def reportsOf (c : NoticeClass) (events : List (NoticeClass × Report)) : List Report :=
  (events.filter fun e => decide (e.1 = c)).map fun e => e.2

theorem reportsOf_same (h : ∀ e ∈ events, e.1 = c) : reportsOf c events = events.map fun e => e.2 := by
  unfold reportsOf
  rw [List.filter_eq_self.mpr fun e he => decide_eq_true (h e he)]

theorem reportsOf_other (h : ∀ e ∈ events, e.1 ≠ c) : reportsOf c events = [] := by
  unfold reportsOf
  rw [List.filter_eq_nil_iff.mpr fun e he => by simpa using h e he]
  rfl

theorem reportsOf_append (c : NoticeClass) (a b : List (NoticeClass × Report)) :
    reportsOf c (a ++ b) = reportsOf c a ++ reportsOf c b := by
  unfold reportsOf
  rw [List.filter_append, List.map_append]

end

section
variable {s : State}

theorem syncLost_class (r : Rct) : ∀ e ∈ syncLost r, e.1 = .round := by
  intro e he
  unfold syncLost at he
  split at he
  next => rw [List.mem_singleton.mp he]
  next => cases he

theorem stationEvent_class {i : Fin 48} {old new : Health} {e : NoticeClass × Report}
    (h : stationEvent i old new = some e) : e.1 = .station := by
  unfold stationEvent at h
  split at h <;> cases h <;> rfl

theorem stationEvents_class (s : State) : ∀ e ∈ stationEvents s, e.1 = .station := by
  intro e he
  obtain ⟨i, -, hi⟩ := List.mem_filterMap.mp he
  exact stationEvent_class hi

theorem trunkFrame_masked (h : s.mgu.notices.trunk.mask = true) (p : Port) : trunkFrame s p = [] := by
  unfold trunkFrame
  rw [h, Bool.not_true, Bool.and_false]
  rfl

/-- The TRUNK report of a port at a close, if it has one (R175). -/
def trunkReport (s : State) (p : Port) : List Report :=
  if 0 < (s.tif.port p).crcTally ∨ 0 < (s.tif.port p).dropTally then
    [{ subject := portCode p, old := (s.tif.port p).crcTally, new := (s.tif.port p).dropTally
       flags := 0 }]
  else []

theorem trunkFrame_shown (h : s.mgu.notices.trunk.mask = false) (p : Port) :
    trunkFrame s p = (trunkReport s p).map (reportFrame s .trunk) := by
  unfold trunkFrame trunkReport
  rw [h, Bool.not_false, Bool.and_true]
  by_cases ht : 0 < (s.tif.port p).crcTally ∨ 0 < (s.tif.port p).dropTally
  · rw [if_pos ht, if_pos (by simpa using ht)]
    rfl
  · rw [if_neg ht, if_neg (by simpa using ht)]
    rfl

/-- A close reports a class by that class's reports alone. -/
theorem closeRound_notified {c : NoticeClass} {l : List Report}
    (hl : l = reportsOf c (syncLost s.rct) ++
      (if c = .trunk then trunkReport s .field ++ trunkReport s .quay else []) ++
      reportsOf c (stationEvents s)) :
    Notified c l s (closeRound s) := by
  refine notified_of_noticed (fun hen hmask hothers => ?_) fun hr => closeRound_noticed hr
  have trunk : trunkFrame s .field ++ trunkFrame s .quay =
      (if c = .trunk then trunkReport s .field ++ trunkReport s .quay else []).map
        (reportFrame s c) := by
    by_cases hc : c = .trunk
    · subst hc
      rw [if_pos rfl, List.map_append, trunkFrame_shown hmask, trunkFrame_shown hmask]
    · have masked : s.mgu.notices.trunk.mask = true := hothers .trunk (Ne.symm hc)
      rw [if_neg hc, trunkFrame_masked masked, trunkFrame_masked masked]
      rfl
  rw [hl, trunk, shownFrames_class hen hmask hothers, shownFrames_class hen hmask hothers,
    List.map_append, List.map_append]
  rfl

theorem reportsOf_syncLost (r : Rct) :
    reportsOf .round (syncLost r) =
      if r.outstanding ≠ 0 ∧ r.completeSeen = true then
        [{ subject := 0, old := r.roundNumber, new := min 255 r.outstanding, flags := 0 }]
      else [] := by
  rw [reportsOf_same (syncLost_class r)]
  have lost : (!r.complete && r.completeSeen) = true ↔ r.outstanding ≠ 0 ∧ r.completeSeen = true := by
    simp [Rct.complete]
  unfold syncLost
  by_cases h : r.outstanding ≠ 0 ∧ r.completeSeen = true
  · rw [if_pos h, if_pos (lost.mpr h)]
    rfl
  · rw [if_neg h, if_neg (mt lost.mp h)]
    rfl

/-- A station's report of a transition (R86). -/
theorem stationEvent_report (i : Fin 48) (old new : Health) :
    ((stationEvent i old new).map fun e => e.2).toList =
      if (old = .healthy ∧ (new = .stale ∨ new = .retired)) ∨ (old = .stale ∧ new = .healthy) then
        [{ subject := i.val, old := old.code, new := new.code, flags := 0 }]
      else [] := by
  cases old <;> cases new <;> rfl

theorem reportsOf_stationEvents (s : State) :
    reportsOf .station (stationEvents s) = (List.finRange 48).flatMap fun i =>
      let old := (s.station i).health.state
      let new := (closeStation (s.intake i).reading (s.station i)).health.state
      if (old = .healthy ∧ (new = .stale ∨ new = .retired)) ∨ (old = .stale ∧ new = .healthy) then
        [{ subject := i.val, old := old.code, new := new.code, flags := 0 }]
      else [] := by
  rw [reportsOf_same (stationEvents_class s)]
  unfold stationEvents
  rw [List.map_filterMap, List.filterMap_eq_flatMap_toList]
  refine List.flatMap_congr fun i _ => ?_
  exact stationEvent_report i _ _

/-! ### The deadline (R23) -/

theorem exec_closeDeadline (h : AtDeadline s) : exec .closeDeadline s = .next (closeRound s) :=
  (whenReleased_free h.released).trans
    (congrArg _ (if_pos ((atDeadline_iff h.released).mp h)))

theorem closeRound_station (s : State) (i : Fin 48) :
    (closeRound s).station i = closeStation (s.intake i).reading (s.station i) := by
  rw [State.station_congr (closeRound_same s).stu]
  exact tableMap_get _ _ _

theorem drillRunning_iff (s : State) : s.drillRunning = true ↔ ∃ z, 0 < (s.zone z).drillTimer := by
  unfold State.drillRunning
  rw [List.any_eq_true]
  constructor
  · rintro ⟨z, -, hz⟩
    exact ⟨z, of_decide_eq_true hz⟩
  · rintro ⟨z, hz⟩
    exact ⟨z, List.mem_finRange z, decide_eq_true hz⟩

theorem closeRound_roundStatus (hlost : s.rct.outstanding ≠ 0) (hseen : s.rct.completeSeen = true)
    (hen : s.mgu.notices.round.enable = true) :
    (closeRound s).mgu.notices.round.status = true := by
  have status := (closeRound_flags .round s).2.2
  have enable : (s.mgu.notices.flags .round).enable = true := hen
  have lost : (!s.rct.complete && s.rct.completeSeen) = true := by
    rw [hseen]
    simp [Rct.complete, hlost]
  have raised : (syncLost s.rct).any (fun e => decide (NoticeClass.round = e.1)) = true := by
    unfold syncLost
    rw [if_pos lost]
    rfl
  refine status.trans ?_
  rw [List.any_append, raised, enable]
  rfl

/-- Settles O20: the deadline is `closeRound`, whose reports are those of its three kinds of event. -/
theorem deadlineClosesTheRound : Obligations.DeadlineClosesTheRound := by
  refine ⟨fun s n htimer hn => whenReleased_same (deadlineFalls_early s fun ⟨_, _, hreached⟩ => ?_),
    fun s h => ⟨closeRound s, exec_closeDeadline h, ?_⟩⟩
  · refine not_reached htimer ?_ hreached
    change n < s.rct.period * 50 - 100
    omega
  have same := closeRound_same s
  have noRound {c : NoticeClass} (hc : NoticeClass.round ≠ c) : reportsOf c (syncLost s.rct) = [] :=
    reportsOf_other fun e he => syncLost_class _ e he ▸ hc
  have noStation {c : NoticeClass} (hc : NoticeClass.station ≠ c) :
      reportsOf c (stationEvents s) = [] :=
    reportsOf_other fun e he => stationEvents_class s e he ▸ hc
  refine ⟨same.rct, fun i => ?_, closeRound_roundStatus, closeRound_notified ?_,
    closeRound_tallies s, closeRound_notified ?_, closeRound_notified ?_, ?_, fun z => ?_, same.plu,
    same.pju, same.out, linesSound_closeRound s, same.mgu, ?_⟩
  · have closed : (closeRound s).intake i = (s.intake i).closed := by
      rw [State.intake, same.sin]
      exact tableMap_get _ _ _
    rw [closed]
    unfold Intake.closed
    cases (s.intake i).pendingA <;> rfl
  · rw [noStation (by decide), if_neg (show ¬ NoticeClass.round = .trunk by decide), List.append_nil,
      List.append_nil, reportsOf_syncLost]
  · rw [noRound (by decide), noStation (by decide), if_pos rfl, List.append_nil, List.nil_append,
      List.flatMap_cons, List.flatMap_cons, List.flatMap_nil, List.append_nil]
    rfl
  · rw [noRound (by decide), if_neg (by decide), List.append_nil, List.nil_append,
      reportsOf_stationEvents]
    refine List.flatMap_congr fun i _ => ?_
    rw [closeRound_station]
  · rw [same.znu, ← drillRunning_iff]
    rfl
  · rw [State.zone, same.znu]
    rfl
  · rw [same.stage]
    have next : nextPile s 0 = (List.finRange 24).find? fun p => (s.pile p).cfg.enable := by
      unfold nextPile
      simp [indices]
    change pileStage s 0 = _
    unfold pileStage
    rw [next] <;> rfl

end

end Sys2Proof.Machine
end

section
/-! Proofs about STU at a close: the speed index and the sector of a pair (R64 to R66), and what the pass
makes of a station with and without a reading (R59, R67 to R75, R82 to R86). -/

namespace Sys2Proof.Machine

/-! ### Speed index and sector (R64 to R66) -/

section
variable {ax ay calm : Nat} {u v : Int}

theorem speedIndex_zero_iff (u v : Int) : speedIndex u v = 0 ↔ u = 0 ∧ v = 0 := by
  unfold speedIndex
  omega

theorem speedIndex_axis (u : Int) : speedIndex u 0 = u.natAbs ∧ speedIndex 0 u = u.natAbs := by
  unfold speedIndex
  omega

/-- A quarter turn keeps the speed index. -/
theorem speedIndex_turn (u v : Int) : speedIndex v (-u) = speedIndex u v := by
  unfold speedIndex
  rw [Int.natAbs_neg, max_comm, min_comm]

theorem sectorStep_le (ax ay : Nat) : sectorStep ax ay ≤ 4 := by
  unfold sectorStep
  split_ifs <;> decide

theorem sectorStep_zero (h : 0 < ay) : sectorStep 0 ay = 0 := by
  unfold sectorStep
  exact if_pos (by omega)

/-- Exchanging the components mirrors the step at the diagonal. -/
theorem sectorStep_swap (_h : 0 < ax ∨ 0 < ay) : sectorStep ay ax = 4 - sectorStep ax ay := by
  unfold sectorStep
  split_ifs <;> omega

/-- The sector of each quadrant (R66). -/
theorem quadrant_val {j : Nat} (hj : j ≤ 4) (u v : Int) :
    (0 ≤ u → 0 ≤ v → (quadrant u v j).val = j) ∧ (0 ≤ u → v < 0 → (quadrant u v j).val = 8 - j) ∧
    (u < 0 → v < 0 → (quadrant u v j).val = 8 + j) ∧
    (u < 0 → 0 ≤ v → (quadrant u v j).val = (16 - j) % 16) := by
  unfold quadrant
  refine ⟨fun hu hv => ?_, fun hu hv => ?_, fun hu hv => ?_, fun hu hv => ?_⟩
  · rw [if_pos hu, if_pos hv]
    exact Nat.mod_eq_of_lt (by omega)
  · rw [if_pos hu, if_neg (not_le.mpr hv)]
    exact Nat.mod_eq_of_lt (by omega)
  · rw [if_neg (not_le.mpr hu), if_pos hv]
    exact Nat.mod_eq_of_lt (by omega)
  · rw [if_neg (not_le.mpr hu), if_neg (not_lt.mpr hv)]
    rfl

/-- A quarter turn clockwise is four sectors on, the components exchanged and the step mirrored. -/
theorem quadrant_turn {j : Nat} (hj : j ≤ 4) (h : u ≠ 0 ∨ v ≠ 0) (haxis : u = 0 → j = 0) :
    quadrant v (-u) (4 - j) = quadrant u v j + 4 := by
  obtain ⟨pp, pn, nn, np⟩ := quadrant_val hj u v
  obtain ⟨pp', pn', nn', np'⟩ := quadrant_val (Nat.sub_le 4 j) v (-u)
  refine Fin.ext ?_
  change _ = ((quadrant u v j).val + 4) % 16
  by_cases hu : 0 ≤ u <;> by_cases hv : 0 ≤ v
  · rcases hu.lt_or_eq with hu' | rfl
    · rw [pn' hv (by omega), pp hu hv]
      omega
    · rw [pp' hv (by omega), pp hu hv, haxis rfl]
  · rcases hu.lt_or_eq with hu' | rfl
    · rw [nn' (by omega) (by omega), pn hu (by omega)]
      omega
    · rw [np' (by omega) (by omega), pn hu (by omega), haxis rfl]
  · rw [pp' hv (by omega), np (by omega) hv]
    omega
  · rw [np' (by omega) (by omega), nn (by omega) (by omega)]
    omega

theorem computedSector_turn (calm : Nat) (h : u ≠ 0 ∨ v ≠ 0) :
    computedSector calm v (-u) =
      match computedSector calm u v with
      | .calm => .calm
      | .dir d => .dir (d + 4) := by
  unfold computedSector
  rw [speedIndex_turn, Int.natAbs_neg]
  by_cases hc : speedIndex u v < calm
  · rw [if_pos hc, if_pos hc]
  · rw [if_neg hc, if_neg hc, sectorStep_swap (by omega),
      quadrant_turn (sectorStep_le _ _) h]
    rintro rfl
    exact sectorStep_zero (by omega)

/-- From the calm threshold on the sector is that of the step, in the quadrant of the signs. -/
theorem computedSector_step {j : Nat} (hcalm : ¬ speedIndex u v < calm)
    (hj : sectorStep u.natAbs v.natAbs = j) :
    ∃ d : Fin 16, computedSector calm u v = .dir d ∧
      (0 ≤ u → 0 ≤ v → d.val = j) ∧ (0 ≤ u → v < 0 → d.val = 8 - j) ∧
      (u < 0 → v < 0 → d.val = 8 + j) ∧ (u < 0 → 0 ≤ v → d.val = (16 - j) % 16) :=
  ⟨_, if_neg hcalm, hj ▸ quadrant_val (sectorStep_le _ _) u v⟩

/-- Settles O26: every test of R65 is one branch of `sectorStep`, and `quadrant_turn` turns it. -/
theorem sectorsFollowTheTests : Obligations.SectorsFollowTheTests := by
  refine ⟨fun u v => speedIndex_le, speedIndex_zero_iff, speedIndex_axis,
    fun calm u v => computedSector_turn calm, fun calm u v => ?_⟩
  intro ax ay stepIs
  refine ⟨fun h => if_pos h, fun h => ?_⟩
  have sector {j : Nat} (hj : sectorStep ax ay = j) : stepIs j :=
    computedSector_step (not_lt.mpr h) hj
  unfold sectorStep at sector
  refine ⟨fun h0 => sector ?_, fun h1 h2 => sector ?_, fun h1 h2 => sector ?_,
    fun h1 h2 h3 => sector ?_, fun h1 h2 => sector ?_⟩
  · rw [if_pos h0]
  · rw [if_neg (by omega), if_pos h2]
  · rw [if_neg (by omega), if_neg (by omega), if_pos h2]
  · rw [if_neg (by omega), if_neg (by omega), if_neg (by omega), if_pos h3]
  · rw [if_neg (by omega), if_neg (by omega), if_neg (by omega), if_neg (by omega)]

end

/-! ### The pass at a close -/

section
variable {st : Station} {r : Reading} {s : State}

/-- A station with a reading that seeds (R59, R82). -/
theorem closeStation_seeds
    (h : st.health.state = .unseen ∨ st.health.state = .stale ∨
      (st.health.state = .healthy ∧ st.health.reseed = true)) (r : Reading) :
    closeStation (some r) st =
      { st with comp := seedRound st.cfg r st.comp, health := st.health.seeded } := by
  have seeds : st.health.seeds = true := by
    unfold HealthRecord.seeds
    rcases h with h | h | ⟨h, hr⟩
    · rw [h]; rfl
    · rw [h]; rfl
    · rw [h, hr]; rfl
  rw [closeStation_in _ (by rcases h with h | h | ⟨h, -⟩ <;> rw [h] <;> exact nofun)
    (by rcases h with h | h | ⟨h, -⟩ <;> rw [h] <;> exact nofun)]
  exact if_pos seeds

/-- A station with a reading that updates (R59, R82, R84). -/
theorem closeStation_updates (hs : st.health.state = .healthy) (hr : st.health.reseed = false)
    (r : Reading) :
    closeStation (some r) st =
      { st with comp := updateRound st.cfg r st.comp, health := st.health.updated } := by
  have updates : ¬ st.health.seeds = true := by
    unfold HealthRecord.seeds
    rw [hs, hr]
    exact nofun
  rw [closeStation_in _ (by rw [hs]; exact nofun) (by rw [hs]; exact nofun)]
  exact if_neg updates

/-- A station in service without a reading misses the round (R83). -/
theorem closeStation_misses
    (h : st.health.state = .unseen ∨ st.health.state = .stale ∨ st.health.state = .healthy) :
    closeStation none st = { st with health := st.health.missedRound st.cfg } :=
  closeStation_in none (by rcases h with h | h | h <;> rw [h] <;> exact nofun)
    (by rcases h with h | h | h <;> rw [h] <;> exact nofun)

/-- A STATION event at the close sets the status of an enabled class (R86, R172). -/
theorem closeRound_stationStatus {i : Fin 48} {e : NoticeClass × Report}
    (he : stationEvent i (s.station i).health.state
      (closeStation (s.intake i).reading (s.station i)).health.state = some e)
    (hen : s.mgu.notices.station.enable = true) :
    (closeRound s).mgu.notices.station.status = true := by
  have raised :
      (syncLost s.rct ++ stationEvents s).any (fun x => decide (NoticeClass.station = x.1)) = true :=
    List.any_eq_true.mpr ⟨e, List.mem_append_right _ (List.mem_filterMap.mpr
      ⟨i, List.mem_finRange i, he⟩), decide_eq_true (stationEvent_class he).symm⟩
  have enable : (s.mgu.notices.flags .station).enable = true := hen
  refine (closeRound_flags .station s).2.2.trans ?_
  rw [raised, enable]
  rfl

/-- Settles O27: a seeding station is `closeStation_seeds`. -/
theorem seedingRoundsStartTheFilters : Obligations.SeedingRoundsStartTheFilters := by
  refine fun s h => ⟨closeRound s, exec_closeDeadline h, fun i => ?_⟩
  intro st cfg seeded
  rw [closeRound_station]
  refine ⟨fun hs => ⟨fun a b hk hread => ?_, fun d hk hread => ?_⟩, fun hs hread => ?_⟩
  · intro turn uv m
    rw [hread, closeStation_seeds hs]
    have kind : (s.station i).cfg.kind = .anemo := hk
    have components : rotate cfg.rotation a b = uv := by
      unfold rotate
      rfl
    have comp : seedRound (s.station i).cfg (.pair a b) (s.station i).comp =
        seedAnemo (s.station i).cfg a b (s.station i).comp := by
      unfold seedRound
      rw [kind]
    rw [comp]
    unfold seedAnemo
    change Station.mk cfg _ _ = _
    rw [show (s.station i).cfg = cfg from rfl, components]
    rfl
  · rw [hread, closeStation_seeds hs]
    have kind : (s.station i).cfg.kind = .dust := hk
    have comp : seedRound (s.station i).cfg (.dust d) (s.station i).comp =
        seedDust d (s.station i).comp := by
      unfold seedRound
      rw [kind]
    rw [comp, seedDust, Nat.mul_div_cancel_left d (by decide)]
    rfl
  · obtain ⟨r, hr⟩ := Option.ne_none_iff_exists'.mp hread
    have close := closeStation_seeds (st := s.station i) (.inr (.inl hs)) r
    refine ⟨by rw [hr, close]; rfl, closeRound_stationStatus (i := i)
      (e := (.station, ⟨i.val, Health.stale.code, Health.healthy.code, 0⟩)) ?_⟩
    rw [hr, close, show (s.station i).health.state = .stale from hs]
    rfl

/-- A step by a share of at most 1 stays between state and target (R68). -/
theorem filterStep_cast {num den : Nat} (hnum : num ≤ den) (hden : 0 < den) (state target : Nat) :
    (filterStep num den state target : Int) =
      state + Int.fdiv ((num : Int) * ((target : Int) - state)) den := by
  have share : -(state : Int) ≤ Int.fdiv ((num : Int) * ((target : Int) - state)) den := by
    rw [Int.fdiv_eq_ediv_of_nonneg _ (Int.natCast_nonneg den)]
    refine Int.le_ediv_of_mul_le (by omega) ?_
    calc -(state : Int) * den ≤ -(state : Int) * num := by nlinarith
      _ ≤ num * ((target : Int) - state) := by nlinarith
  unfold filterStep
  omega

theorem updateRound_anemo {c : StationCfg} (hk : c.kind = .anemo) (a b : Int) (comp : Computation) :
    updateRound c (.pair a b) comp = updateAnemo c a b comp := by
  unfold updateRound
  rw [hk]

theorem updateRound_dust {c : StationCfg} (hk : c.kind = .dust) (d : Nat) (comp : Computation) :
    updateRound c (.dust d) comp = updateDust c d comp := by
  unfold updateRound
  rw [hk]

/-- Settles O28: an updating station is `closeStation_updates`, every filter `filterStep_cast`. -/
theorem updateRoundsStepTheFilters : Obligations.UpdateRoundsStepTheFilters := by
  refine fun s h => ⟨closeRound s, exec_closeDeadline h, fun i => ?_⟩
  rw [closeRound_station]
  intro st cfg old new hcfg _ hs hreseed
  have coeff : cfg.gustCoeff ≤ 16 := le_trans hcfg.gustCoeff.2 (by decide)
  have dust : cfg.dustCoeff ≤ 16 := le_trans hcfg.dustCoeff.2 (by decide)
  refine ⟨fun a b hk _ _ hread => ?_, fun d hk _ hread => ?_⟩
  · have close : closeStation (s.intake i).reading (s.station i) =
        { st with comp := updateAnemo cfg a b old, health := st.health.updated } := by
      rw [hread, closeStation_updates hs hreseed, updateRound_anemo hk]
    have comp : new = updateAnemo cfg a b old := congrArg Station.comp close
    intro uv target step
    rw [comp, close]
    have health : st.health.updated =
        { st.health with missed := 0, since := min 65535 (st.health.since + 1) } := by
      unfold HealthRecord.updated
      rw [← hs, ← hreseed]
      rfl
    have mean := filterStep_cast (Nat.one_le_two_pow (n := cfg.meanShift))
      (Nat.two_pow_pos cfg.meanShift) old.m (16 * speedIndex uv.1 uv.2)
    push_cast at mean
    refine ⟨rfl, health, filterStep_cast coeff (by decide) _ _, filterStep_cast coeff (by decide) _ _,
      mean, rfl, rfl, rfl, ?_, fun hg => ?_, fun hg => ?_, rfl, rfl, rfl⟩
    · exact Bool.and_eq_true_iff.trans (and_congr decide_eq_true_iff decide_eq_true_iff)
    · exact if_pos hg
    · exact if_neg (Bool.eq_false_iff.mp hg)
  · have close : closeStation (s.intake i).reading (s.station i) =
        { st with comp := updateDust cfg d old, health := st.health.updated } := by
      rw [hread, closeStation_updates hs hreseed, updateRound_dust hk]
    have comp : new = updateDust cfg d old := congrArg Station.comp close
    intro step
    rw [comp, close]
    have health : st.health.updated =
        { st.health with missed := 0, since := min 65535 (st.health.since + 1) } := by
      unfold HealthRecord.updated
      rw [← hs, ← hreseed]
      rfl
    exact ⟨rfl, health, filterStep_cast dust (by decide) _ _, filterStep_cast dust (by decide) _ _,
      rfl, rfl⟩

/-! ### Persistence (R67) -/

section
variable {p : Nat} {x : Sector} {q : Persistence}

theorem persist_same (hp : 1 ≤ p) (h : x = q.sector) :
    persist p x q = { sector := x, candidate := none, runCount := 0 } := by
  unfold persist compareSector
  rw [if_pos h, h]
  exact if_neg (by simpa using Nat.pos_iff_ne_zero.mp hp)

theorem persist_again (h : x ≠ q.sector) (hc : q.candidate = some x) :
    persist p x q =
      if p ≤ q.runCount + 1 then { sector := x, candidate := none, runCount := 0 }
      else { q with runCount := q.runCount + 1 } := by
  unfold persist compareSector
  rw [if_neg h, if_pos hc.symm]

theorem persist_new (h : x ≠ q.sector) (hc : q.candidate ≠ some x) :
    persist p x q =
      if p ≤ 1 then { sector := x, candidate := none, runCount := 0 }
      else { q with candidate := some x, runCount := 1 } := by
  unfold persist compareSector
  rw [if_neg h, if_neg (Ne.symm hc)]

end

/-- Settles O29: an updating head's sector record is `persist`. -/
theorem sectorsPersist : Obligations.SectorsPersist := by
  refine fun s h => ⟨closeRound s, exec_closeDeadline h, fun i a b => ?_⟩
  rw [closeRound_station]
  intro st uv x old becomes hs hreseed hk hp hread
  have comp : (closeStation (s.intake i).reading (s.station i)).comp =
      updateAnemo st.cfg a b old := by
    rw [hread, closeStation_updates hs hreseed, updateRound_anemo hk]
  have becomes_of {q : Persistence}
      (hq : persist st.cfg.persistence x
        { sector := old.sector, candidate := old.candidate, runCount := old.runCount } = q) :
      becomes q.sector q.candidate q.runCount := by
    subst hq
    change (closeStation _ _).comp.sector = _ ∧ _
    rw [comp]
    exact ⟨rfl, rfl, rfl⟩
  refine ⟨fun hx => becomes_of (persist_same hp hx), fun hx hc hn => ?_, fun hx hc hn => ?_,
    fun hx hc hn => ?_, fun hx hc hn => ?_⟩
  · rw [← hc]
    exact becomes_of ((persist_again hx hc).trans (if_neg (not_le.mpr hn)))
  · exact becomes_of ((persist_again hx hc).trans (if_pos hn))
  · exact becomes_of ((persist_new hx hc).trans (if_pos hn.le))
  · exact becomes_of ((persist_new hx hc).trans (if_neg (not_le.mpr hn)))

/-! ### Missed rounds (R83 to R85) -/

section
variable {c : StationCfg} {r : HealthRecord}

theorem missedRound_waiting (h : r.state ≠ .healthy) :
    r.missedRound c = { r with missed := bump255 r.missed } := if_neg h

theorem missedRound_fresh (h : r.state = .healthy) (hm : bump255 r.missed < c.staleLimit) :
    r.missedRound c = { r with missed := bump255 r.missed, since := bump r.since } :=
  (if_pos h).trans (if_neg (not_le.mpr hm))

/-- A HEALTHY station at its stale limit (R84, R85). -/
theorem missedRound_stale {faults : Nat} {state : Health} (h : r.state = .healthy)
    (hm : c.staleLimit ≤ bump255 r.missed)
    (hf : faultsAtStale c.settleRounds (bump r.since) r.faults = faults)
    (hstate : (if faults = 3 then Health.retired else .stale) = state) :
    r.missedRound c =
      { r with
        state := state, missed := bump255 r.missed, since := bump r.since, faults := faults } := by
  subst hf hstate
  exact (if_pos h).trans (if_pos hm)

end

/-- Settles O30: a station that misses the round is `HealthRecord.missedRound`, branch by branch. -/
theorem missedRoundsWearAStation : Obligations.MissedRoundsWearAStation := by
  refine fun s h => ⟨closeRound s, exec_closeDeadline h, fun i => ?_⟩
  rw [closeRound_station]
  intro st r missed since becomes
  refine ⟨fun hs => closeStation_out _ hs, fun hread => ?_⟩
  have becomes_of {x : HealthRecord}
      (hs : r.state = .unseen ∨ r.state = .stale ∨ r.state = .healthy)
      (hx : r.missedRound st.cfg = x) : becomes x := by
    subst hx
    change closeStation _ _ = _
    rw [hread]
    exact closeStation_misses hs
  refine ⟨fun hs => becomes_of (hs.elim .inl (.inr ∘ .inl)) (missedRound_waiting ?_),
    fun hs hm => becomes_of (.inr (.inr hs)) (missedRound_fresh hs hm),
    fun hs hf hm hn => becomes_of (.inr (.inr hs))
      (missedRound_stale hs hm (if_neg (not_le.mpr hn)) (if_neg hf.ne)),
    fun hs hf hm hn => becomes_of (.inr (.inr hs))
      (missedRound_stale hs hm ((if_pos hn).trans ?_) (if_neg (by omega))),
    fun hs hf hm hn => becomes_of (.inr (.inr hs))
      (missedRound_stale hs hm ((if_pos hn).trans ?_) (if_pos rfl)), fun hs hm hen => ?_⟩
  · rcases hs with hs | hs <;> rw [hs] <;> exact nofun
  · exact min_eq_right (by change r.faults + 1 ≤ 3; omega)
  · rw [hf]
    rfl
  · have state : (closeStation (s.intake i).reading (s.station i)).health.state = .stale ∨
        (closeStation (s.intake i).reading (s.station i)).health.state = .retired := by
      rw [hread, closeStation_misses (.inr (.inr hs))]
      have missedRound := missedRound_stale (c := st.cfg) hs hm rfl rfl
      rw [show (s.station i).health = r from rfl, show (s.station i).cfg = st.cfg from rfl,
        missedRound]
      dsimp only
      split
      next => exact .inr rfl
      next => exact .inl rfl
    rcases state with hstate | hstate
    · exact closeRound_stationStatus (i := i)
        (e := (.station, ⟨i.val, Health.healthy.code, Health.stale.code, 0⟩))
        (by rw [hstate, show (s.station i).health.state = .healthy from hs]; rfl) hen
    · exact closeRound_stationStatus (i := i)
        (e := (.station, ⟨i.val, Health.healthy.code, Health.retired.code, 0⟩))
        (by rw [hstate, show (s.station i).health.state = .healthy from hs]; rfl) hen

end

end Sys2Proof.Machine
end

section
/-! Proofs about SIN's intake: the conditions of R39, what an accepted sample leaves, and the report of a
first reading (R24, R33, R38 to R52). -/

namespace Sys2Proof.Machine

section
variable {s v : State} {c : SampleCopy}

theorem exec_sampleArrival (hr : v.resetHeld = none) (after : Nat) (c : SampleCopy) :
    exec (.sampleArrival after c) v = .next (takeSample c (v.elapse after)) :=
  whenReleased_free (f := fun s => takeSample c (s.elapse after)) hr

theorem takeSample_run (h : s.rct.opState = .run) (c : SampleCopy) :
    takeSample c s = runSample c s := if_pos ((running_iff s).mpr h)

theorem takeSample_config (h : s.rct.opState = .config) (c : SampleCopy) :
    takeSample c s = if s.rct.probing then probeSample c s else s :=
  if_neg (by rw [(not_running_iff s).mpr h]; exact nofun)

/-! ### The conditions of R39 -/

theorem drillRunning_false_iff (s : State) :
    s.drillRunning = false ↔ ∀ z, (s.zone z).drillTimer = 0 := by
  rw [Bool.eq_false_iff, Ne, drillRunning_iff]
  simp

theorem channelValid_iff (k : Kind) (channel : Byte) :
    channelValid k channel = true ↔ ChannelOf k channel := by
  unfold channelValid ChannelOf
  cases k <;> simp

theorem runSample_dropped {d : Disposal} (hj : judgeSample c s = d) (hd : d ≠ .accepted) :
    runSample c s = s.setIntake c.station ((s.intake c.station).drop d) := by
  subst hj
  unfold runSample
  split
  next h => exact absurd h hd
  next => rfl

theorem runSample_accepted (hj : judgeSample c s = .accepted) :
    runSample c s = acceptSample c s := by
  unfold runSample
  rw [hj]

theorem judgeSample_accepted (h : Accepted c s) : judgeSample c s = .accepted := by
  unfold judgeSample
  dsimp only
  rw [if_neg (not_or.mpr h.state), if_neg (not_not.mpr h.phase), if_neg, if_neg, if_neg, if_neg]
  · rw [(channelValid_iff _ _).mpr h.channel]
    exact nofun
  · rintro ⟨htest, hdrill⟩
    obtain ⟨z, hz⟩ := h.test htest
    exact hz.ne' ((drillRunning_false_iff s).mp hdrill z)
  · rintro ⟨hmax, hnumber⟩
    exact h.round.elim hmax fun hr => hnumber hr.2
  · rintro ⟨hmax, hprev⟩
    exact h.round.elim hmax fun hr => hr.1 hprev.symm

theorem exec_accepted {after : Nat} (hr : v.resetHeld = none)
    (h : Accepted c (v.elapse after)) :
    exec (.sampleArrival after c) v = .next (acceptSample c (v.elapse after)) := by
  rw [exec_sampleArrival hr, takeSample_run h.run, runSample_accepted (judgeSample_accepted h)]

/-! ### The round slot of an accepted sample -/

/-- Acceptance writes the stamp and leaves the counters of dropped samples (R45, R57). -/
theorem accept_counters (cfg : StationCfg) (channel : Byte) (value : Word) (stamp : Nat)
    (it : Intake) :
    (it.accept cfg channel value stamp).lastOffset = stamp ∧
      (it.accept cfg channel value stamp).ignored = it.ignored ∧
      (it.accept cfg channel value stamp).late = it.late ∧
      (it.accept cfg channel value stamp).foreign = it.foreign ∧
      (it.accept cfg channel value stamp).testDropped = it.testDropped := by
  unfold Intake.accept
  cases cfg.kind with
  | absent => exact ⟨rfl, rfl, rfl, rfl, rfl⟩
  | dust => dsimp only; cases scaleDust cfg value <;> exact ⟨rfl, rfl, rfl, rfl, rfl⟩
  | anemo =>
    dsimp only
    cases scaleAnemo cfg value with
    | statusCoded | implausible => exact ⟨rfl, rfl, rfl, rfl, rfl⟩
    | valid x =>
      dsimp only [Intake.pathA, Intake.pathB]
      split
      next => exact ⟨rfl, rfl, rfl, rfl, rfl⟩
      next =>
        split
        next => split <;> exact ⟨rfl, rfl, rfl, rfl, rfl⟩
        next => exact ⟨rfl, rfl, rfl, rfl, rfl⟩

theorem closed_counters (it : Intake) :
    it.closed.lastOffset = it.lastOffset ∧ it.closed.ignored = it.ignored ∧
      it.closed.late = it.late ∧ it.closed.foreign = it.foreign ∧
      it.closed.testDropped = it.testDropped := by
  unfold Intake.closed
  split <;> exact ⟨rfl, rfl, rfl, rfl, rfl⟩

theorem markTest_eq (test : Bool) (st : Station) :
    st.markTest test =
      { st with health := { st.health with tookTest := st.health.tookTest || test } } := by
  unfold Station.markTest
  cases test with
  | true => rw [if_pos rfl, Bool.or_true]
  | false => rw [if_neg (by decide), Bool.or_false]

theorem missedRound_tookTest (c : StationCfg) (r : HealthRecord) :
    (r.missedRound c).tookTest = r.tookTest := by
  unfold HealthRecord.missedRound
  dsimp only
  split
  next => split <;> rfl
  next => rfl

/-- A close leaves the took-test flag. -/
theorem closeStation_tookTest (x : Option Reading) (st : Station) :
    (closeStation x st).health.tookTest = st.health.tookTest := by
  unfold closeStation
  split
  next => rfl
  next => rfl
  all_goals
    split
    next => split <;> rfl
    next => exact missedRound_tookTest _ _

/-- The report of a reading leaves the slots, or closes them with the round. -/
theorem reportReading_slots (i : Fin 48) (s : State) :
    ((∀ j, (reportReading i s).intake j = s.intake j) ∧ (reportReading i s).stu = s.stu) ∨
      (∀ j, (reportReading i s).intake j = (s.intake j).closed) ∧
        ∀ j, (reportReading i s).station j = closeStation (s.intake j).reading (s.station j) := by
  unfold reportReading
  dsimp only
  split
  next =>
    split
    next =>
      refine .inr ⟨fun j => ?_, closeRound_station _⟩
      rw [State.intake, (closeRound_same _).sin]
      exact tableMap_get _ _ _
    next => exact .inl ⟨fun _ => rfl, rfl⟩
  next => exact .inl ⟨fun _ => rfl, rfl⟩

/-- What every accepted sample leaves of the slots, whatever its reading does. -/
structure SlotsAfter (c : SampleCopy) (s t : State) : Prop where
  stamp : (t.intake c.station).lastOffset = s.rct.clock
  test : (t.station c.station).health.tookTest =
    ((s.station c.station).health.tookTest || sampleTest c)
  ignored : (t.intake c.station).ignored = (s.intake c.station).ignored
  late : (t.intake c.station).late = (s.intake c.station).late
  foreign : (t.intake c.station).foreign = (s.intake c.station).foreign
  testDropped : (t.intake c.station).testDropped = (s.intake c.station).testDropped
  others : ∀ j, j ≠ c.station → (t.intake j).reading = (s.intake j).reading ∧
    (t.intake j).lastOffset = (s.intake j).lastOffset

theorem samplePlaced_own (c : SampleCopy) (s : State) :
    (samplePlaced c s).intake c.station =
      (s.intake c.station).accept (s.station c.station).cfg c.channel c.value s.rct.clock := by
  rw [samplePlaced_intake, if_pos rfl]

theorem samplePlaced_station (c : SampleCopy) (s : State) :
    (samplePlaced c s).station c.station = (s.station c.station).markTest (sampleTest c) := by
  unfold samplePlaced
  rw [State.station_setStation, if_pos rfl]

theorem slotsAfter_placed (c : SampleCopy) (s : State) : SlotsAfter c s (samplePlaced c s) := by
  obtain ⟨stamp, ignored, late, foreign, test⟩ := accept_counters (s.station c.station).cfg c.channel
    c.value s.rct.clock (s.intake c.station)
  rw [← samplePlaced_own] at stamp ignored late foreign test
  refine ⟨stamp, ?_, ignored, late, foreign, test, fun j hj => ?_⟩
  · rw [samplePlaced_station, markTest_eq]
  · rw [samplePlaced_intake, if_neg hj]
    exact ⟨rfl, rfl⟩

theorem SlotsAfter.reported {t : State} (h : SlotsAfter c s t) (i : Fin 48) :
    SlotsAfter c s (reportReading i t) := by
  rcases reportReading_slots i t with ⟨hin, hst⟩ | ⟨hin, hst⟩
  · refine ⟨?_, ?_, ?_, ?_, ?_, ?_, fun j hj => ?_⟩
    · rw [hin]; exact h.stamp
    · rw [State.station_congr hst]; exact h.test
    · rw [hin]; exact h.ignored
    · rw [hin]; exact h.late
    · rw [hin]; exact h.foreign
    · rw [hin]; exact h.testDropped
    · rw [hin]; exact h.others j hj
  · obtain ⟨stamp, ignored, late, foreign, test⟩ := closed_counters (t.intake c.station)
    refine ⟨?_, ?_, ?_, ?_, ?_, ?_, fun j hj => ?_⟩
    · rw [hin]; exact stamp.trans h.stamp
    · rw [hst, closeStation_tookTest]; exact h.test
    · rw [hin]; exact ignored.trans h.ignored
    · rw [hin]; exact late.trans h.late
    · rw [hin]; exact foreign.trans h.foreign
    · rw [hin]; exact test.trans h.testDropped
    · rw [hin, closed_reading, (closed_counters _).1]; exact h.others j hj

theorem slotsAfter_accepted (c : SampleCopy) (s : State) : SlotsAfter c s (acceptSample c s) := by
  rw [acceptSample_eq]
  split
  next => exact (slotsAfter_placed c s).reported _
  next => exact slotsAfter_placed c s

/-- Settles O23: `judgeSample` takes the conditions one after another. -/
theorem samplesAreJudgedInOrder : Obligations.SamplesAreJudgedInOrder := by
  refine ⟨fun after c v hr => ?_, fun after c v hr => ?_⟩
  · intro i s hrun gives c1 c2 c3 c4 c5 c6
    have run : exec (.sampleArrival after c) v = .next (runSample c s) := by
      rw [exec_sampleArrival hr, takeSample_run hrun]
    have dropped {d : Disposal} (hj : judgeSample c s = d) (hd : d ≠ .accepted) :
        gives ((s.intake i).drop d) := run.trans (congrArg _ (runSample_dropped hj hd))
    have n3 (h : ¬ c3) : ¬ (s.rct.roundMax ≠ 0 ∧ some c.round.toNat = s.rct.prevRound) :=
      fun hp => h ⟨hp.1, hp.2.symm⟩
    have n5 (h : ¬ c5) : ¬ (sampleTest c ∧ s.drillRunning = false) :=
      fun hp => h ⟨hp.1, (drillRunning_false_iff s).mp hp.2⟩
    refine ⟨fun h1 => dropped (d := .ignored) ?_ (by decide),
      fun h1 h2 => dropped (d := .late) ?_ (by decide),
      fun h1 h2 h3 => dropped (d := .late) ?_ (by decide),
      fun h1 h2 h3 h4 => dropped (d := .foreign) ?_ (by decide),
      fun h1 h2 h3 h4 h5 => dropped (d := .testDropped) ?_ (by decide),
      fun h1 h2 h3 h4 h5 h6 => dropped (d := .foreign) ?_ (by decide),
      fun h1 h2 h3 h4 h5 h6 => ?_⟩
    · exact if_pos h1
    · exact (if_neg h1).trans (if_pos h2)
    · exact (if_neg h1).trans ((if_neg h2).trans (if_pos ⟨h3.1, h3.2.symm⟩))
    · exact (if_neg h1).trans ((if_neg h2).trans ((if_neg (n3 h3)).trans (if_pos h4)))
    · exact (if_neg h1).trans ((if_neg h2).trans ((if_neg (n3 h3)).trans ((if_neg h4).trans
        (if_pos ⟨h5.1, (drillRunning_false_iff s).mpr h5.2⟩))))
    · exact (if_neg h1).trans ((if_neg h2).trans ((if_neg (n3 h3)).trans ((if_neg h4).trans
        ((if_neg (n5 h5)).trans (if_pos
          (Bool.eq_false_iff.mpr fun hv => h6 ((channelValid_iff _ _).mp hv)))))))
    · have accepted : judgeSample c s = .accepted :=
        (if_neg h1).trans ((if_neg h2).trans ((if_neg (n3 h3)).trans ((if_neg h4).trans
          ((if_neg (n5 h5)).trans (if_neg (by
            rw [(channelValid_iff _ _).mpr (not_not.mp h6)]
            exact nofun))))))
      have after := slotsAfter_accepted c s
      exact ⟨_, run.trans (congrArg _ (runSample_accepted accepted)), after.stamp, after.test,
        after.ignored, after.late, after.foreign, after.testDropped, after.others⟩
  · intro s hconfig r
    have config : exec (.sampleArrival after c) v =
        .next (if s.rct.probing then probeSample c s else s) := by
      rw [exec_sampleArrival hr, takeSample_config hconfig]
    refine ⟨fun hprobe hround => ?_, fun hother => ?_⟩
    · rw [config, if_pos hprobe, probeSample, if_pos hround]
      rfl
    · rw [config]
      by_cases hprobe : s.rct.probing = true
      · rw [if_pos hprobe, probeSample, if_neg]
        exact hother.resolve_left (by rw [hprobe]; exact nofun)
      · rw [if_neg hprobe]

end

end Sys2Proof.Machine
end

section
/-! Proofs about the readings of accepted samples and the report of a first one (R24, R25, R46 to R52). -/

namespace Sys2Proof.Machine

/-! ### A close looks neither at the round timer nor at the requests -/

section
variable {s v : State} {x : Option Nat}

/-- The state with the round timer at `x`. -/
def State.timed (s : State) (x : Option Nat) : State := s.setRct { s.rct with roundTimer := x }

theorem timed_back (s : State) (x : Option Nat) : (s.timed x).timed s.rct.roundTimer = s := rfl

/-- A change of the state that raised events neither see nor undo. -/
structure Unseen (h : State → State) : Prop where
  tif : ∀ s, (h s).tif = s.tif
  notices : ∀ s, (h s).mgu.notices = s.mgu.notices
  round : ∀ s, (h s).rct.roundNumber = s.rct.roundNumber
  setTif : ∀ s t, h (s.setTif t) = (h s).setTif t
  setNotices : ∀ s n, h (s.setNotices n) = (h s).setNotices n

section
variable {h : State → State}

theorem Unseen.sendNotice (hu : Unseen h) (c : NoticeClass) (r : Report) (s : State) :
    sendNotice c r (h s) = h (sendNotice c r s) := by
  unfold Sys2Proof.Machine.sendNotice
  dsimp only
  rw [hu.tif, hu.round, hu.notices]
  cases s.tif.offer .quay
    [noticeFrame s.tif.strap s.rct.roundNumber c.code r.subject r.old r.new r.flags] with
  | some t => exact ((hu.setNotices _ _).trans (by rw [hu.setTif])).symm
  | none => exact (hu.setNotices _ _).symm

theorem Unseen.raise (hu : Unseen h) (c : NoticeClass) (r : Report) (s : State) :
    raise c r (h s) = h (raise c r s) := by
  unfold Sys2Proof.Machine.raise
  rw [hu.notices]
  dsimp only
  split
  next =>
    rw [← hu.setNotices]
    split
    next => rfl
    next => exact hu.sendNotice c r _
  next => rfl

theorem Unseen.raiseAll (hu : Unseen h) (events : List (NoticeClass × Report)) :
    ∀ s : State, raiseAll events (h s) = h (raiseAll events s) := by
  induction events with
  | nil => exact fun s => rfl
  | cons e events ih =>
    intro s
    change Sys2Proof.Machine.raiseAll events (Sys2Proof.Machine.raise e.1 e.2 (h s)) =
      h (Sys2Proof.Machine.raiseAll events (Sys2Proof.Machine.raise e.1 e.2 s))
    rw [hu.raise, ih]

theorem Unseen.trunkNotice (hu : Unseen h) (p : Port) (s : State) :
    trunkNotice p (h s) = h (trunkNotice p s) := by
  unfold Sys2Proof.Machine.trunkNotice
  rw [hu.tif, hu.notices]
  dsimp only
  unfold State.modPort
  split
  next => rw [hu.sendNotice, hu.tif, hu.setTif]
  next => rw [hu.tif, hu.setTif]

end

/-- The state with the round timer at `x` and the requests `l` waiting: a close looks at neither. -/
def State.aside (x : Option Nat) (l : List Request) (s : State) : State :=
  withRequests l (s.timed x)

theorem aside_back (s : State) : s.aside s.rct.roundTimer s.mgu.requests = s := rfl

theorem aside_own {l : List Request} (h : s.mgu.requests = l) : s.aside x l = s.timed x := by
  subst h
  rfl

theorem aside_unseen (x : Option Nat) (l : List Request) : Unseen (State.aside x l) :=
  ⟨fun _ => rfl, fun _ => rfl, fun _ => rfl, fun _ _ => rfl, fun _ _ => rfl⟩

theorem judgedRound_aside (s : State) (x : Option Nat) (l : List Request) :
    judgedRound (s.aside x l) = (judgedRound s).aside x l := by
  have events : raiseAll (syncLost s.rct) ((s.setRct s.rct.close).aside x l) =
      (raiseAll (syncLost s.rct) (s.setRct s.rct.close)).aside x l :=
    (aside_unseen x l).raiseAll _ _
  unfold judgedRound trunkNotices
  rw [← (aside_unseen x l).trunkNotice, ← (aside_unseen x l).trunkNotice]
  change trunkNotice .quay (trunkNotice .field ((raiseAll (syncLost s.rct)
    ((s.setRct s.rct.close).aside x l)).mapIntakes fun _ it => it.closed)) = _
  rw [events]
  rfl

theorem closePass_aside (s : State) (x : Option Nat) (l : List Request) :
    closePass (s.aside x l) = (closePass s).aside x l := by
  have stations :
      (s.aside x l).mapStations (fun i st => closeStation ((s.aside x l).intake i).reading st) =
        (s.mapStations fun i st => closeStation (s.intake i).reading st).aside x l := rfl
  unfold closePass
  dsimp only
  rw [stations]
  generalize s.mapStations _ = after
  exact (aside_unseen x l).raiseAll _ after

theorem reevaluate_aside (s : State) (x : Option Nat) (l : List Request) :
    reevaluate (s.aside x l) = (reevaluate s).aside x l := rfl

theorem pileStage_aside (s : State) (x : Option Nat) (l : List Request) (k : Nat) :
    pileStage (s.aside x l) k = pileStage s k := rfl

theorem setStage_aside (s : State) (x : Option Nat) (l : List Request) (g : EvalStage) :
    (s.aside x l).setStage g = (s.setStage g).aside x l := rfl

theorem closeRound_aside (s : State) (x : Option Nat) (l : List Request) :
    closeRound (s.aside x l) = (closeRound s).aside x l := by
  have swept : sweptRound (s.aside x l) = (sweptRound s).aside x l := by
    unfold sweptRound
    rw [judgedRound_aside]
    rfl
  rw [closeRound_eq, closeRound_eq, swept, closePass_aside, reevaluate_aside, pileStage_aside,
    setStage_aside]

theorem closeRound_requests (s : State) : (closeRound s).mgu.requests = s.mgu.requests := by
  have same := closeRound_aside s s.rct.roundTimer s.mgu.requests
  rw [aside_back] at same
  generalize closeRound s = t at same
  exact (congrArg (fun t : State => t.mgu.requests) same :)

theorem closeRound_timed (s : State) (x : Option Nat) :
    closeRound (s.timed x) = (closeRound s).timed x := by
  have own : s.aside x s.mgu.requests = s.timed x := aside_own rfl
  rw [← own, closeRound_aside, aside_own (closeRound_requests s)]

/-! ### The report of a first reading (R24, R52) -/

theorem reportReading_reported {i : Fin 48} (hr : v.resetHeld = none)
    (hrun : v.rct.opState = .run) (hopen : v.rct.phase = .opened) :
    Reported i v (.next (reportReading i v)) := by
  have report (hi : i ∈ v.rct.expected) :
      reportReading i v = if allInCloses (countedOff v).rct then closeRound (countedOff v)
        else countedOff v := if_pos hi
  unfold Reported
  intro timed counted
  refine ⟨fun hi => congrArg _ (if_neg hi), fun hi hmode => ?_, fun hi hmode hlast => ?_⟩
  · rw [report hi, if_neg]
    · rfl
    · change ¬ (v.rct.closeMode == .allIn && v.rct.phase == .opened &&
        v.rct.outstanding - 1 == 0) = true
      rcases hmode with hmode | hleft
      · rw [hmode]
        exact nofun
      · have : v.rct.outstanding - 1 ≠ 0 := by omega
        simp [this]
  · have closes : allInCloses (countedOff v).rct = true := by
      change (v.rct.closeMode == .allIn && v.rct.phase == .opened &&
        v.rct.outstanding - 1 == 0) = true
      rw [hmode, hopen, Nat.sub_eq_zero_of_le hlast]
      rfl
    have due : AtDeadline ((countedOff v).timed (some (v.rct.period * 50))) :=
      ⟨hr, hrun, hopen, _, rfl, Nat.le_add_right _ _⟩
    refine ⟨closeRound ((countedOff v).timed (some (v.rct.period * 50))), exec_closeDeadline due, ?_⟩
    have timer : (closeRound (countedOff v)).rct.roundTimer = v.rct.roundTimer := by
      rw [(closeRound_same _).rct]
      rfl
    have back : closeRound (countedOff v) =
        (closeRound ((countedOff v).timed (some (v.rct.period * 50)))).timed v.rct.roundTimer := by
      rw [closeRound_timed, ← timer, timed_back]
    rw [report hi, if_pos closes, back]
    generalize closeRound ((countedOff v).timed _) = t
    rfl

end

/-! ### Accepted samples -/

section
variable {v : State} {c : SampleCopy} {after : Nat} {x : Intake} {cfg : StationCfg} {w : Word}
  {channel : Byte} {stamp : Nat} {it : Intake}

/-- The state an accepted sample leaves with the round slot at `x`, before any report. -/
def sampleLeaves (c : SampleCopy) (s : State) (x : Intake) : State :=
  (s.setIntake c.station x).setStation c.station
    { s.station c.station with
      health :=
        { (s.station c.station).health with
          tookTest := (s.station c.station).health.tookTest || c.flags.getLsbD 0 } }

/-- The round slot of the sample's station once it is accepted. -/
def acceptedSlot (c : SampleCopy) (s : State) : Intake :=
  (s.intake c.station).accept (s.station c.station).cfg c.channel c.value s.rct.clock

theorem samplePlaced_leaves (c : SampleCopy) (s : State) :
    samplePlaced c s = sampleLeaves c s (acceptedSlot c s) :=
  congrArg (State.setStation _ c.station) (markTest_eq _ _)

/-- An accepted sample that changes no reading. -/
theorem accepted_gives (hr : v.resetHeld = none) (h : Accepted c (v.elapse after))
    (hx : acceptedSlot c (v.elapse after) = x)
    (hreading : x.reading = ((v.elapse after).intake c.station).reading) :
    exec (.sampleArrival after c) v = .next (sampleLeaves c (v.elapse after) x) := by
  subst hx
  rw [exec_accepted hr h, acceptSample_eq, if_neg, samplePlaced_leaves]
  change ¬ (_ && (acceptedSlot c (v.elapse after)).reading.isSome) = true
  rw [hreading]
  cases ((v.elapse after).intake c.station).reading <;> exact nofun

/-- An accepted sample that brings a reading: the first of the round is reported. -/
theorem accepted_reads {r : Reading} (hr : v.resetHeld = none) (h : Accepted c (v.elapse after))
    (hx : acceptedSlot c (v.elapse after) = x) (hreading : x.reading = some r) :
    (((v.elapse after).intake c.station).reading ≠ none →
      exec (.sampleArrival after c) v = .next (sampleLeaves c (v.elapse after) x)) ∧
    (((v.elapse after).intake c.station).reading = none →
      Reported c.station (sampleLeaves c (v.elapse after) x) (exec (.sampleArrival after c) v)) := by
  subst hx
  rw [exec_accepted hr h, acceptSample_eq, ← samplePlaced_leaves]
  refine ⟨fun hread => ?_, fun hread => ?_⟩
  · rw [if_neg]
    rw [Option.isNone_eq_false_iff.mpr (Option.isSome_iff_ne_none.mpr hread)]
    exact nofun
  · rw [if_pos]
    · exact reportReading_reported ((elapse_resetHeld _ _).trans hr) h.run h.phase
    · change (_ && (acceptedSlot c (v.elapse after)).reading.isSome) = true
      rw [hread, hreading]
      rfl

/-! ### Dust samples (R47) -/

theorem accept_dust_coded (hk : cfg.kind = .dust) (hs : scaleDust cfg w = .statusCoded) :
    it.accept cfg channel w stamp = { it with lastOffset := stamp, held := bump it.held } := by
  unfold Intake.accept
  simp only [hk, hs]

theorem accept_dust_implausible (hk : cfg.kind = .dust) (hs : scaleDust cfg w = .implausible) :
    it.accept cfg channel w stamp =
      { it with lastOffset := stamp, implausible := bump it.implausible } := by
  unfold Intake.accept
  simp only [hk, hs]

theorem accept_dust_valid {d : Nat} (hk : cfg.kind = .dust) (hs : scaleDust cfg w = .valid d) :
    it.accept cfg channel w stamp =
      { it with lastOffset := stamp, reading := some (.dust d) } := by
  unfold Intake.accept
  simp only [hk, hs]

/-- Settles O24: the three outcomes of `scaleDust`. -/
theorem dustSamplesBecomeReadings : Obligations.DustSamplesBecomeReadings := by
  intro after c v hr s h hk i st it stamp coded d answer leaves
  have range : ¬ coded →
      scaleDust st.cfg c.value = if d < st.cfg.lo ∨ st.cfg.hi < d then .implausible else .valid d :=
    fun hc => if_neg hc
  exact ⟨fun hc => accepted_gives hr h (accept_dust_coded hk (if_pos hc)) rfl,
    fun hc hd => accepted_gives hr h
      (accept_dust_implausible hk ((range hc).trans (if_pos hd))) rfl,
    fun hc hlo hhi => accepted_reads (r := .dust d) hr h
      (accept_dust_valid hk ((range hc).trans
        (if_neg (not_or.mpr ⟨not_lt.mpr hlo, not_lt.mpr hhi⟩)))) rfl⟩

/-! ### Anemometer samples (R46, R50, R51) -/

theorem accept_anemo_coded (hk : cfg.kind = .anemo) (hs : scaleAnemo cfg w = .statusCoded) :
    it.accept cfg channel w stamp = { it with lastOffset := stamp, held := bump it.held } := by
  unfold Intake.accept
  simp only [hk, hs]

theorem accept_anemo_valid {a : Int} (hk : cfg.kind = .anemo) (hs : scaleAnemo cfg w = .valid a) :
    it.accept cfg channel w stamp =
      if channel = 0 then Intake.pathA a stamp { it with lastOffset := stamp }
      else Intake.pathB cfg.window a stamp { it with lastOffset := stamp } := by
  unfold Intake.accept
  simp only [hk, hs]

theorem pathA_first {a : Int} (h : it.pendingA = none) :
    it.pathA a stamp = { it with pendingA := some { value := a, offset := stamp } } := by
  unfold Intake.pathA
  rw [h]
  rfl

theorem pathA_again {a : Int} (h : it.pendingA.isSome = true) :
    it.pathA a stamp =
      { it with
        pendingA := some { value := a, offset := stamp }, pairError := bump it.pairError } := by
  unfold Intake.pathA
  rw [if_pos h]

theorem pathB_orphan {window : Nat} {b : Int} (h : it.pendingA = none) :
    it.pathB window b stamp = { it with pairError := bump it.pairError } := by
  unfold Intake.pathB
  rw [h]

theorem pathB_within {window : Nat} {b : Int} {a : PendingA} (h : it.pendingA = some a)
    (hw : stamp - a.offset ≤ window) :
    it.pathB window b stamp = { it with reading := some (.pair a.value b), pendingA := none } := by
  unfold Intake.pathB
  rw [h]
  exact if_pos hw

theorem pathB_beyond {window : Nat} {b : Int} {a : PendingA} (h : it.pendingA = some a)
    (hw : window < stamp - a.offset) :
    it.pathB window b stamp = { it with pendingA := none, pairError := bump it.pairError } := by
  unfold Intake.pathB
  rw [h]
  exact if_neg (not_le.mpr hw)

/-- Settles O25: a status-coded sample, path A, and path B beside each pending record. -/
theorem anemometerPathsPair : Obligations.AnemometerPathsPair := by
  intro after c v hr s h hk i st it stamp coded x answer leaves gives
  have pathA (hc : ¬ coded) (ha : c.channel = 0) :
      acceptedSlot c s = Intake.pathA x stamp { it with lastOffset := stamp } :=
    (accept_anemo_valid hk (if_neg hc)).trans (if_pos ha)
  have pathB (hc : ¬ coded) (hb : c.channel = 1) :
      acceptedSlot c s = Intake.pathB st.cfg.window x stamp { it with lastOffset := stamp } :=
    (accept_anemo_valid hk (if_neg hc)).trans (if_neg (by rw [hb]; decide))
  exact ⟨fun hc => accepted_gives hr h (accept_anemo_coded hk (if_pos hc)) rfl,
    fun hc ha hnone => accepted_gives hr h ((pathA hc ha).trans (pathA_first hnone)) rfl,
    fun hc ha hsome => accepted_gives hr h ((pathA hc ha).trans (pathA_again hsome)) rfl,
    fun hc hb hnone => accepted_gives hr h ((pathB hc hb).trans (pathB_orphan hnone)) rfl,
    fun a hc hb hsome hin => accepted_reads (r := .pair a.value x) hr h
      ((pathB hc hb).trans (pathB_within hsome hin)) rfl,
    fun a hc hb hsome hout => accepted_gives hr h
      ((pathB hc hb).trans (pathB_beyond hsome hout)) rfl⟩

end

end Sys2Proof.Machine
end

section
/-! Proofs about raised events (R172) and the panel frame (R163, R184). -/

namespace Sys2Proof.Machine

/-! ### Raised events (R172) -/

section
variable {c : NoticeClass} {r : Report} {s : State}

/-- The notice of an event enters a quay queue with room and counts as queued. -/
theorem raise_taken (hen : (s.mgu.notices.flags c).enable = true)
    (hmask : (s.mgu.notices.flags c).mask = false) (hroom : 1 ≤ s.tif.quayPort.room) :
    raise c r s = (s.setTif ((s.tif.modPort .quay fun p =>
        { p with queue := p.queue ++ [reportFrame s c r] }).wake .quay)).setMgu
      { s.mgu with
        notices :=
          { s.mgu.notices.setStatus c with queued := min 65535 (s.mgu.notices.queued + 1) } } := by
  have offer : s.tif.offer .quay [reportFrame s c r] = some _ := if_pos hroom
  rw [raise_shown r hen hmask, sendNotice]
  change (match s.tif.offer .quay [reportFrame s c r] with
    | some t => ((s.setNotices (s.mgu.notices.setStatus c)).setTif t).setNotices _
    | none => _) = _
  rw [offer, ← (setFlags_counts s.mgu.notices c _).2.1]
  rfl

/-- Without room the notice is lost, which is counted and flagged. -/
theorem raise_lost (hen : (s.mgu.notices.flags c).enable = true)
    (hmask : (s.mgu.notices.flags c).mask = false) (hroom : s.tif.quayPort.room = 0) :
    raise c r s = s.setMgu
      { s.mgu with
        notices :=
          { s.mgu.notices.setStatus c with
            lostFlag := true, lost := min 65535 (s.mgu.notices.lost + 1) } } := by
  have offer : s.tif.offer .quay [reportFrame s c r] = none :=
    if_neg (by change ¬ 1 ≤ s.tif.quayPort.room; omega)
  rw [raise_shown r hen hmask, sendNotice]
  change (match s.tif.offer .quay [reportFrame s c r] with
    | some t => ((s.setNotices (s.mgu.notices.setStatus c)).setTif t).setNotices _
    | none => _) = _
  rw [offer, ← (setFlags_counts s.mgu.notices c _).2.2]
  rfl

theorem exec_probeTimerExpiry (h : AtProbeEnd s) :
    exec .probeTimerExpiry s = .next (raise .round { subject := 1, old := 0, new := 0, flags := 0 }
      (s.setRct { s.rct with probing := false, probeTimer := none })) :=
  (whenReleased_free h.released).trans (congrArg _ (if_pos ((atProbeEnd_iff h.released).mp h)))

/-- Settles O59: `raise` by its class's flags and the room; a probe's end is one such event. -/
theorem noticesFollowTheFlags : Obligations.NoticesFollowTheFlags := by
  refine ⟨fun c r s => ?_, fun s h => ?_⟩
  · intro n fl notice
    obtain ⟨lostFlag, queued, lost⟩ := setFlags_counts n c { n.flags c with status := true }
    exact ⟨raise_disabled c r s, fun hen => ⟨n.setStatus c, (setFlags_flags n c c _).trans (if_pos rfl),
      fun k hk => (setFlags_flags n c k _).trans (if_neg hk), lostFlag, queued, lost, raise_masked r hen,
      raise_taken hen, raise_lost hen⟩⟩
  · intro ended n noted notice gives
    have gives_of {t : State}
        (ht : raise .round { subject := 1, old := 0, new := 0, flags := 0 } ended = t) : gives t :=
      (exec_probeTimerExpiry h).trans (congrArg _ ht)
    exact ⟨fun hen => gives_of (raise_disabled _ _ _ hen),
      fun hen hmask => gives_of (raise_masked _ hen hmask),
      fun hen hmask hroom => gives_of (raise_taken (s := ended) hen hmask hroom),
      fun hen hmask hroom => gives_of (raise_lost (s := ended) hen hmask hroom)⟩

end

/-! ### The panel frame (R163, R184) -/

section
variable {α : Type} {s : State}

/-- The number a list of bits writes, the first bit lowest. -/
def bitsNumber (bits : List Bool) : Nat := bits.foldr (fun b n => 2 * n + flagCode b) 0

theorem bitsNumber_testBit (bits : List Bool) (k : Nat) :
    (bitsNumber bits).testBit k = (bits[k]?).getD false := by
  induction bits generalizing k with
  | nil => simp [bitsNumber]
  | cons b bits ih =>
    have number : bitsNumber (b :: bits) = Nat.bit b (bitsNumber bits) := by
      cases b <;> simp [bitsNumber, flagCode, Nat.bit]
    rw [number]
    cases k with
    | zero => rw [Nat.testBit_bit_zero]; rfl
    | succ k => rw [Nat.testBit_bit_succ, ih]; rfl

theorem panelBits_getLsbD (bits : List Bool) {k : Nat} (hk : k < 128) :
    (panelBits bits).getLsbD k = (bits[k]?).getD false := by
  rw [← bitsNumber_testBit]
  change (BitVec.ofNat 128 (bitsNumber bits)).getLsbD k = _
  rw [BitVec.getLsbD_ofNat, decide_eq_true hk, Bool.true_and]

/-- The entries of a list made of chunks of one length. -/
theorem getElem?_flatMap_chunks {β : Type} {f : α → List β} {m : Nat} (hf : ∀ x, (f x).length = m)
    (l : List α) {i j : Nat} (hj : j < m) :
    (l.flatMap f)[m * i + j]? = (l[i]?).bind fun x => (f x)[j]? := by
  induction l generalizing i with
  | nil => simp
  | cons x l ih =>
    rw [List.flatMap_cons]
    cases i with
    | zero => rw [Nat.mul_zero, Nat.zero_add, List.getElem?_append_left (by rw [hf]; exact hj)]; rfl
    | succ i =>
      rw [List.getElem?_append_right (by rw [hf, Nat.mul_succ]; omega), hf,
        show m * (i + 1) + j - m = m * i + j by rw [Nat.mul_succ]; omega, ih]
      rfl

theorem getElem?_indices {n : Nat} (i : Fin n) : (indices n)[i.val]? = some i := by
  simp [indices]

theorem length_flatMap_chunks {β : Type} {f : α → List β} {m : Nat} (hf : ∀ x, (f x).length = m)
    (l : List α) : (l.flatMap f).length = m * l.length := by
  induction l with
  | nil => rfl
  | cons x l ih => rw [List.flatMap_cons, List.length_append, hf, ih, List.length_cons]; ring

theorem panelContent_run (h : s.rct.opState = .run) :
    panelContent s = match s.out.panelMode with
      | .zones => panelBits (zonesPanel s)
      | .stations => panelBits (stationsPanel s) := if_pos ((running_iff s).mpr h)

theorem zonesPanel_getElem? (s : State) (z : Fin 32) {j : Nat} (hj : j < 4) :
    (zonesPanel s)[4 * z.val + j]? =
      (twoBits (s.zone z).tuple.level.code ++ [(s.zone z).tuple.drill, (s.zone z).tuple.degraded])[j]? := by
  unfold zonesPanel
  rw [getElem?_flatMap_chunks (m := 4) (fun _ => rfl) _ hj, getElem?_indices]
  rfl

/-- The bits of the stations in a panel frame. -/
def stationBits (s : State) : List Bool :=
  (indices 48).flatMap fun i => twoBits (s.station i).health.state.panelCode

theorem stationBits_length (s : State) : (stationBits s).length = 96 := by
  unfold stationBits
  rw [length_flatMap_chunks (m := 2) fun _ => rfl]
  rfl

theorem stationBits_getElem? (s : State) (i : Fin 48) {j : Nat} (hj : j < 2) :
    (stationBits s)[2 * i.val + j]? = (twoBits (s.station i).health.state.panelCode)[j]? := by
  unfold stationBits
  rw [getElem?_flatMap_chunks (m := 2) (fun _ => rfl) _ hj, getElem?_indices]
  rfl

theorem twoBits_level (l : Level) :
    twoBits l.code = [decide (2 ≤ l.code), decide (l.code % 2 = 1)] := by
  cases l <;> rfl

theorem twoBits_health (h : Health) :
    twoBits h.panelCode =
      [decide (h = .stale ∨ h = .retired), decide (h = .healthy ∨ h = .retired)] := by
  cases h <;> rfl

/-- Settles O55: each bit of the frame is an entry of the list the panel is made of. -/
theorem panelFramesShowTheState : Obligations.PanelFramesShowTheState := by
  refine fun s hr => ⟨panelContent s, whenReleased_free hr, fun hconfig => ?_,
    fun hrun hmode z => ?_, fun hrun hmode => ?_⟩
  · exact if_neg (by rw [(not_running_iff s).mpr hconfig]; exact nofun)
  · have bit {j : Nat} (hj : j < 4) : (panelContent s).getLsbD (4 * z.val + j) =
        ((twoBits (s.zone z).tuple.level.code ++
          [(s.zone z).tuple.drill, (s.zone z).tuple.degraded])[j]?).getD false := by
      rw [panelContent_run hrun, hmode]
      exact (panelBits_getLsbD _ (by omega)).trans
        (congrArg (Option.getD · false) (zonesPanel_getElem? s z hj))
    rw [twoBits_level] at bit
    exact ⟨bit (j := 0) (by decide), bit (j := 1) (by decide), bit (j := 2) (by decide),
      bit (j := 3) (by decide)⟩
  · have bit {k : Nat} (hk : k < 128) : (panelContent s).getLsbD k =
        ((stationBits s ++ (indices 24).map fun p => (s.pile p).dyn.source == .blind)[k]?).getD
          false := by
      rw [panelContent_run hrun, hmode]
      exact panelBits_getLsbD _ hk
    have station (i : Fin 48) {j : Nat} (hj : j < 2) :
        (panelContent s).getLsbD (2 * i.val + j) =
          ((twoBits (s.station i).health.state.panelCode)[j]?).getD false := by
      rw [bit (by omega), List.getElem?_append_left (by rw [stationBits_length]; omega),
        stationBits_getElem? s i hj]
    refine ⟨fun i => ?_, fun p => ?_, fun k hk => ?_⟩
    · have first := station i (j := 0) (by decide)
      have second := station i (j := 1) (by decide)
      rw [twoBits_health] at first second
      exact ⟨first, second⟩
    · rw [bit (by omega), List.getElem?_append_right (by rw [stationBits_length]; omega),
        stationBits_length, Nat.add_sub_cancel_left, List.getElem?_map, getElem?_indices]
      rfl
    · by_cases hk' : k < 128
      · rw [bit hk', List.getElem?_eq_none]
        · rfl
        · rw [List.length_append, stationBits_length, List.length_map]
          exact hk
      · exact BitVec.getLsbD_of_ge _ _ (not_lt.mp hk')

end

end Sys2Proof.Machine
end

section
/-! Proofs about commands that raise events (R172), PJU's projection and exchange (R116, R117, R121 to
R124, R152), and PLU's visit (R101 to R105). -/

namespace Sys2Proof.Machine

/-! ### What raised events leave -/

section
variable {c : NoticeClass} {s t : State} {events : List (NoticeClass × Report)}

/-- The flags, the notice counts and TIF are those of `s` after these events. -/
structure Raises (events : List (NoticeClass × Report)) (s t : State) : Prop where
  raised : ∃ x : State, x.tif = s.tif ∧ x.mgu = s.mgu ∧
    x.rct.roundNumber = s.rct.roundNumber ∧
    t.tif = (raiseAll events x).tif ∧ t.mgu.notices = (raiseAll events x).mgu.notices

theorem Raises.noticed (h : Raises events s t) (hr : Ready s.tif .quay) :
    Noticed (shownFrames s events) s.tif t.tif := by
  obtain ⟨x, htif, hmgu, hround, ttif, -⟩ := h.raised
  have raised := raiseAll_noticed (s := x) events (htif ▸ hr)
  have same : shownFrames x events = shownFrames s events :=
    shownFrames_congr (fun k => by rw [hmgu]) (by rw [htif]) hround _
  rw [same, htif, ← ttif] at raised
  exact raised

theorem Raises.notified (h : Raises events s t) (c : NoticeClass) :
    Notified c (reportsOf c events) s t :=
  notified_of_noticed (fun hen hmask hothers => shownFrames_class hen hmask hothers events) h.noticed

/-- What leaves TIF and the flags keeps what the events left. -/
theorem Raises.after {u : State} (h : Raises events s t) (htif : u.tif = t.tif)
    (hnotices : u.mgu.notices = t.mgu.notices) : Raises events s u := by
  obtain ⟨x, xtif, xmgu, xround, ttif, tnotices⟩ := h.raised
  exact ⟨x, xtif, xmgu, xround, htif.trans ttif, hnotices.trans tnotices⟩

/-- One event of a class sets the status of the class while that is enabled. -/
theorem Raises.status (h : Raises events s t) {e : NoticeClass × Report} (he : e ∈ events)
    (hen : (s.mgu.notices.flags e.1).enable = true) :
    (t.mgu.notices.flags e.1).status = true := by
  obtain ⟨x, -, hmgu, -, -, tnotices⟩ := h.raised
  have raised : events.any (fun y => decide (e.1 = y.1)) = true :=
    List.any_eq_true.mpr ⟨e, he, decide_eq_true rfl⟩
  rw [tnotices, (raiseAll_flags events e.1 x).2.2, hmgu, hen, raised]
  rfl

/-- Without events nothing is sent and no flag moves. -/
theorem Raises.nothing (h : Raises [] s t) : t.tif = s.tif ∧ t.mgu.notices = s.mgu.notices := by
  obtain ⟨x, htif, hmgu, -, ttif, tnotices⟩ := h.raised
  exact ⟨ttif.trans htif, tnotices.trans (congrArg Mgu.notices hmgu)⟩

end

theorem out_lines {o p : Out} {a : Vector (List Byte) 32} {wl : Vector Bool 8} {svc : Bool}
    (h : o = { p with service := a, wl := wl, svc := svc }) :
    o = { p with service := o.service, wl := o.wl, svc := o.svc } := by
  subst h
  rfl

theorem mgu_notices {m p : Mgu} {n : Notices} (h : m = { p with notices := n }) :
    m = { p with notices := m.notices } := by
  subst h
  rfl

/-! ### Projection (R122 to R124) -/

section
variable {s u : State}

theorem exec_projection (hr : s.resetHeld = none) (hstage : s.stage = .projecting) :
    exec .projection s = .next (project s) := by
  refine (whenReleased_free hr).trans (congrArg _ ?_)
  unfold projectionTurn
  rw [hstage]

/-- The shares of a list of contributions as the sum over their entries. -/
theorem sum_contributionShare (t : Fin 16) (table : Plume) (z : Fin 32) (k : Fin 16)
    (l : List Contribution) :
    (l.map (contributionShare t table z k)).sum =
      (l.flatMap fun c => (List.finRange 4).map fun pos =>
        let entry := plumeRead table (64 * c.pile.val + 4 * c.sector.val + pos.val)
        if entry.zone = z ∧ (t.val + entry.lag) % 16 = k.val
        then c.amount * entry.weight / 8 else 0).sum := by
  rw [List.flatMap_def, List.sum_flatten, List.map_map]
  refine congrArg List.sum (List.map_congr_left fun c _ => ?_)
  refine congrArg List.sum (List.map_congr_left fun pos _ => ?_)
  have slot (lag : Nat) : lagSlot t lag = k ↔ (t.val + lag) % 16 = k.val := Fin.ext_iff
  unfold entryShare
  simp only [slot]
  rfl

/-- Where no exchange is pending the projection posts the shares, and that is all. -/
theorem project_quiet (hswap : u.pju.swapPending = false) :
    Posted (fun z k => (u.pju.contributions.map
      (contributionShare u.rct.seq u.pju.active.plume z k)).sum) u (posted u) ∧
    project u = ((posted u).setPju { u.pju with contributions := [] }).setStage (zoneStage u 0) := by
  have before : beforePosting u = u := if_neg (by rw [hswap]; exact nofun)
  have post := posted_posted u
  have whole := project_posted u
  rw [before] at post whole
  exact ⟨post, whole⟩

theorem project_blocks (hswap : u.pju.swapPending = false) :
    (project u).tif = u.tif ∧ (project u).mgu = u.mgu ∧ (project u).out = u.out ∧
      (project u).rct = u.rct ∧ (project u).sin = u.sin ∧ (project u).stu = u.stu ∧
      (project u).plu = u.plu := by
  obtain ⟨post, whole⟩ := project_quiet hswap
  rw [whole, post.same]
  exact ⟨rfl, rfl, rfl, rfl, rfl, rfl, rfl⟩

theorem zoneStage_zero (s : State) :
    zoneStage s 0 =
      match (List.finRange 32).find? fun z => s.zoneEnabled z with
      | some z => .zones z
      | none => .done := by
  have next : nextZone s 0 = (List.finRange 32).find? fun z => s.zoneEnabled z := by
    unfold nextZone
    simp [indices]
  unfold zoneStage
  rw [next] <;> rfl

/-- The slots after the shares are posted. -/
theorem Posted.arrivals {sum : Fin 32 → Fin 16 → Nat} {t : State} (h : Posted sum s t)
    (hs : ∀ (z : Fin 32) (k : Fin 16), (s.zone z).arrivals[k] ≤ 4095) (z : Fin 32) :
    ∃ arrivals, t.zone z = { s.zone z with arrivals := arrivals } ∧
      ∀ k : Fin 16, arrivals[k] =
        if s.zoneEnabled z then min 4095 ((s.zone z).arrivals[k] + sum z k)
        else (s.zone z).arrivals[k] := by
  refine ⟨_, h.zone z, fun k => ?_⟩
  cases hen : s.zoneEnabled z with
  | true => rw [if_pos rfl, h.slots hs z k hen]
  | false => rw [if_neg (by decide), h.disabled z hen]

/-- Settles O43: `project_quiet`, with the shares summed entry by entry. -/
theorem projectionPostsEveryShare : Obligations.ProjectionPostsEveryShare := by
  intro s hr hstage hswap hs share shares
  obtain ⟨post, whole⟩ := project_quiet hswap
  refine ⟨project s, exec_projection hr hstage, fun z => ?_, ?_⟩
  · obtain ⟨arrivals, hzone, hslots⟩ := post.arrivals hs z
    refine ⟨arrivals, (project_zone s z).trans hzone, fun k => ?_⟩
    rw [hslots k, sum_contributionShare]
  · rw [whole, zoneStage_zero, post.same]
    exact ⟨rfl, rfl, rfl, rfl, rfl, rfl, rfl, rfl, rfl, post.drillAtClose⟩

/-! ### The exchange at PJU's start (R117, R152) -/

/-- An exchange raises the ends of the drills it cuts off, and nothing else. -/
theorem exchange_raises (s : State) : Raises (exchangeDrillEnds s) s (exchange s) := by
  rw [exchange_eq]
  refine ⟨exchangedBlocks s, rfl, rfl, rfl, reevaluate_tif _, ?_⟩
  rw [reevaluate_mgu]

theorem exchangeDrillEnds_class (s : State) : ∀ e ∈ exchangeDrillEnds s, e.1 = .drill := by
  intro e he
  obtain ⟨z, -, hz⟩ := List.mem_filterMap.mp he
  split at hz
  next => rw [← Option.some.inj hz]
  next => cases hz

theorem reportsOf_exchangeDrillEnds (s : State) :
    reportsOf .drill (exchangeDrillEnds s) = (List.finRange 32).flatMap fun z =>
      if s.pju.active.zones[z].enable = true ∧ s.pju.standby.zones[z].enable = false ∧
        0 < (s.zone z).drillTimer
      then [{ subject := z.val, old := (s.zone z).drillTimer, new := 0, flags := 0 }]
      else [] := by
  rw [reportsOf_same (exchangeDrillEnds_class s)]
  unfold exchangeDrillEnds
  rw [List.map_filterMap, List.filterMap_eq_flatMap_toList]
  refine List.flatMap_congr fun z _ => ?_
  have ends : (disabledByExchange s.pju z && decide (0 < (s.zone z).drillTimer)) = true ↔
      s.pju.active.zones[z].enable = true ∧ s.pju.standby.zones[z].enable = false ∧
        0 < (s.zone z).drillTimer := by
    simp [disabledByExchange, and_assoc]
  by_cases h : (disabledByExchange s.pju z && decide (0 < (s.zone z).drillTimer)) = true
  · rw [if_pos h, if_pos (ends.mp h)]
    rfl
  · rw [if_neg h, if_neg (mt ends.mpr h)]
    rfl

theorem exchange_out (s : State) :
    (exchange s).out =
      { s.out with
        service := (exchange s).out.service, wl := (exchange s).out.wl
        svc := (exchange s).out.svc } := by
  have out := (exchange_same s).out
  simp only [exchangedBlocks] at out
  exact out_lines out

theorem exchange_mgu (s : State) :
    (exchange s).mgu = { s.mgu with notices := (exchange s).mgu.notices } :=
  mgu_notices (p := s.mgu) (exchange_same s).mgu

/-- A projection with an exchange pending is one of the exchanged state. -/
theorem project_exchange (h : s.pju.swapPending = true) : project s = project (exchange s) := by
  have swapped : (exchange s).pju.swapPending = false := by
    rw [(exchange_same s).pju]
    exact exchanged_swapPending s.pju
  unfold project
  rw [h, swapped]
  rfl

theorem exchange_zone (s : State) (z : Fin 32) :
    (exchange s).zone z =
      if disabledByExchange s.pju z then (s.zone z).stopped else s.zone z :=
  (State.zone_congr (exchange_same s).znu z).trans (exchangedBlocks_zone s z)

theorem exchange_zoneEnabled (s : State) (z : Fin 32) :
    (exchange s).zoneEnabled z = s.pju.standby.zones[z].enable :=
  (zoneEnabled_congr (exchange_same s).pju z).trans (exchangedBlocks_zoneEnabled s z)

theorem stopped_atRest (z : Zone) : z.stopped.AtRest :=
  ⟨fun t => by simp [Zone.stopped], rfl, rfl, rfl, rfl, rfl, rfl⟩

/-- Settles O44: the projection of the exchanged state, whose active bank was the standby one. -/
theorem pendingSwapIsMadeAtProjection : Obligations.PendingSwapIsMadeAtProjection := by
  intro s hr hstage hswap hs share shares
  have same := exchange_same s
  have raises := exchange_raises s
  have pju : (exchange s).pju = s.pju.exchanged := same.pju
  have swapped : (exchange s).pju.swapPending = false := by rw [pju]; rfl
  obtain ⟨post, whole⟩ := project_quiet swapped
  rw [← project_exchange hswap] at whole
  have disables (z : Fin 32) : disabledByExchange s.pju z = true ↔ ExchangeDisables s z :=
    disabledByExchange_iff s z
  have bounded (z : Fin 32) (k : Fin 16) : ((exchange s).zone z).arrivals[k] ≤ 4095 := by
    rw [exchange_zone]
    split
    next => rw [(stopped_atRest _).arrivals]; exact Nat.zero_le _
    next => exact hs z k
  have zone (z : Fin 32) : (project s).zone z = (posted (exchange s)).zone z := by
    rw [project_exchange hswap]
    exact project_zone _ z
  obtain ⟨ptif, pmgu, pout, prct, psin, pstu, pplu⟩ := project_blocks swapped
  rw [← project_exchange hswap] at ptif pmgu pout prct psin pstu pplu
  have projectRaises : Raises (exchangeDrillEnds s) s (project s) :=
    raises.after ptif (congrArg Mgu.notices pmgu)
  refine ⟨project s, exec_projection hr hstage, ?_, fun z hz => ?_, fun z hz => ?_, ?_,
    fun z hz hdrill hen => ?_, ?_, ?_, ?_, prct.trans same.rct, psin.trans same.sin,
    pstu.trans same.stu, pplu.trans same.plu, ?_⟩
  · rw [whole, State.setStage_pju, State.setPju_pju, pju, ← exchanged_feeders]
    rfl
  · have off : (exchange s).zoneEnabled z = false := (exchange_zoneEnabled s z).trans hz.2
    rw [zone, post.disabled z off, exchange_zone, if_pos ((disables z).mpr hz)]
    exact ⟨stopped_atRest _, rfl, rfl⟩
  · obtain ⟨arrivals, hzone, hslots⟩ := post.arrivals bounded z
    have kept : (exchange s).zone z = s.zone z :=
      (exchange_zone s z).trans (if_neg (mt (disables z).mp hz))
    rw [kept] at hzone hslots
    refine ⟨arrivals, (zone z).trans hzone, fun k => (hslots k).trans ?_⟩
    rw [exchange_zoneEnabled, sum_contributionShare, pju, same.rct, exchanged_active]
    rfl
  · rw [whole, State.setStage_stage, zoneStage_zero]
    simp only [exchange_zoneEnabled] <;> rfl
  · refine projectRaises.status (e := (.drill, ⟨z.val, (s.zone z).drillTimer, 0, 0⟩))
      (List.mem_filterMap.mpr ⟨z, List.mem_finRange z, if_pos ?_⟩) hen
    rw [(disables z).mpr hz, decide_eq_true hdrill]
    rfl
  · have notified := projectRaises.notified .drill
    rw [reportsOf_exchangeDrillEnds] at notified
    exact notified
  · rw [pout]
    exact exchange_out s
  · rw [project_exchange hswap]
    exact (linesSound_exchange s).after_project
  · rw [pmgu]
    exact exchange_mgu s

end

end Sys2Proof.Machine
end

section
/-! Proofs about PLU's visit to a pile (R101 to R105). -/

namespace Sys2Proof.Machine

section
variable {s : State} {p : Fin 24} {c : PileCfg} {d : PileDyn} {w : WindSource} {i : Fin 48}

theorem exec_pileVisit (hr : s.resetHeld = none) (hstage : s.stage = .piles p) :
    exec .pileVisit s = .next (visitPile p s) := by
  refine (whenReleased_free hr).trans (congrArg _ ?_)
  unfold pileTurn
  rw [hstage]

/-- The record a visit of a pile leaves. -/
def visitedRecord (p : Fin 24) (s : State) : PileDyn := visitedPile (s.pile p).cfg s (s.pile p).dyn

theorem visitPile_raises (p : Fin 24) (s : State) :
    Raises (pileEvent p (s.pile p).dyn.source (visitedRecord p s).source) s (visitPile p s) := by
  refine ⟨s.setPile p { s.pile p with dyn := visitedRecord p s }, rfl, rfl, rfl, ?_, ?_⟩
  · unfold visitPile
    rw [State.setStage_tif, State.setPju_tif]
    rfl
  · unfold visitPile
    rw [State.setStage_mgu, State.setPju_mgu]
    rfl

theorem visitPile_out (p : Fin 24) (s : State) : (visitPile p s).out = s.out := by
  unfold visitPile
  rw [State.setStage_out, State.setPju_out, raiseAll_out]
  rfl

theorem pileEvent_class (p : Fin 24) (a b : WindSource) : ∀ e ∈ pileEvent p a b, e.1 = .pile := by
  intro e he
  unfold pileEvent at he
  split at he
  next => cases he
  next => rw [List.mem_singleton.mp he]

/-! ### Wind source (R102) -/

theorem healthy_iff (s : State) (i : Fin 48) :
    s.healthy i = true ↔ (s.station i).health.state = .healthy := by
  simp [State.healthy]

theorem chooseSource_primary (h : (s.station c.primary).health.state = .healthy) :
    chooseSource c s = .primary := if_pos ((healthy_iff s _).mpr h)

theorem chooseSource_fallback (hp : ¬ (s.station c.primary).health.state = .healthy)
    (hi : c.fallback = some i) (h : (s.station i).health.state = .healthy) :
    chooseSource c s = .fallback :=
  (if_neg (mt (healthy_iff s _).mp hp)).trans (if_pos (by
    rw [hi]
    exact (healthy_iff s i).mpr h))

theorem chooseSource_none (hp : ¬ (s.station c.primary).health.state = .healthy)
    (hf : ∀ i, c.fallback = some i → ¬ (s.station i).health.state = .healthy) :
    chooseSource c s = if s.rct.roundsSinceStart < 8 then .waiting else .blind :=
  (if_neg (mt (healthy_iff s _).mp hp)).trans (if_neg (by
    intro h
    obtain ⟨i, hi, hh⟩ := (Option.any_eq_true _ _).mp h
    exact hf i hi ((healthy_iff s i).mp hh)))

/-! ### Contribution (R104, R105) -/

/-- The emission factor of R104 at the visit's start. -/
def visitFactor (c : PileCfg) (d : PileDyn) : Nat :=
  let worked := match d.activity with
    | .idle => c.weight
    | .working => 2 * c.weight
  if d.shielded then 0 else if d.wet ≤ 1 then worked else worked / 4

/-- A visit that finds a head: its sector, and the contribution of its lift along a direction. -/
theorem visitedPile_head (hw : chooseSource c s = w) (hi : chosenStation c w = some i) :
    visitedPile c s d =
      { d with
        wet := d.wet - 1, source := w, lastSector := some (s.station i).comp.sector
        lastContribution :=
          contributionOf (visitFactor c d) (some (s.station i).comp) } := by
  have factor : emissionFactor c.weight { d with wet := d.wet - 1, source := w } = visitFactor c d := by
    have wet : d.wet - 1 = 0 ↔ d.wet ≤ 1 := by omega
    unfold emissionFactor visitFactor
    simp only [wet] <;> rfl
  unfold visitedPile
  simp only [hw, hi, Option.map_some, factor]

/-- A visit that finds none (R102, R105). -/
theorem visitedPile_none (hw : chooseSource c s = w) (hi : chosenStation c w = none) :
    visitedPile c s d =
      { d with wet := d.wet - 1, source := w, lastSector := none, lastContribution := 0 } := by
  unfold visitedPile
  simp only [hw, hi, Option.map_none, contributionOf]

theorem nextPile_after (s : State) (p : Fin 24) :
    nextPile s (p.val + 1) =
      (List.finRange 24).find? fun q => decide (p < q) && (s.pile q).cfg.enable := rfl

/-- Settles O36: `visitPile` with each wind source. -/
theorem pileVisitsFollowTheWind : Obligations.PileVisitsFollowTheWind := by
  intro s p hr hstage c d healthy worked factor amount
  have same := visitPile_same p s
  have raises := visitPile_raises p s
  have hfactor : factor = visitFactor c d := by
    unfold visitFactor
    cases h : d.activity <;> simp only [factor, worked, h]
  refine ⟨visitPile p s, exec_pileVisit hr hstage, ?_, ?_, same.rct, same.sin, same.stu, same.znu,
    visitPile_out p s, same.mgu⟩
  · intro ends blows noHead
    have ends_of {w : WindSource} {sector : Option Sector} {k : Nat} {handed : List Contribution}
        (hd : visitedRecord p s =
          { d with wet := d.wet - 1, source := w, lastSector := sector, lastContribution := k })
        (hh : handedContribution p (visitedRecord p s) = handed) : ends w sector k handed := by
      have source : (visitedRecord p s).source = w := congrArg PileDyn.source hd
      rw [source] at raises
      refine ⟨?_, ?_, fun hw hen => ?_, ?_, fun hw => ?_⟩
      · rw [← hd]
        exact same.plu
      · rw [← hh]
        exact same.pju
      · exact raises.status (e := (.pile, ⟨p.val, d.source.code, w.code, 0⟩))
          (by rw [pileEvent, if_neg (Ne.symm hw)]; exact List.mem_singleton_self _) hen
      · have notified := raises.notified .pile
        rw [reportsOf_same (pileEvent_class p _ _)] at notified
        by_cases hw : w = d.source
        · rw [if_pos hw]
          rwa [pileEvent, if_pos hw.symm] at notified
        · rw [if_neg hw]
          rwa [pileEvent, if_neg (Ne.symm hw)] at notified
      · rw [pileEvent, if_pos hw.symm] at raises
        obtain ⟨tif, notices⟩ := raises.nothing
        exact ⟨same.mgu.trans (by rw [notices]), tif⟩
    have blows_of {w : WindSource} {i : Fin 48} (hw : chooseSource c s = w)
        (hi : chosenStation c w = some i) : blows w i := by
      have record : visitedRecord p s = _ := visitedPile_head hw hi
      refine ⟨fun q hq => ?_, fun hq => ?_⟩
      · rw [contributionOf, hq] at record
        refine ends_of (record.trans ?_) ?_
        · rw [← hfactor]
        · rw [record, ← hfactor]
          unfold handedContribution
          dsimp only
          by_cases h0 : amount i = 0
          · rw [if_pos h0]
            exact if_neg (by change ¬ 0 < amount i; omega)
          · rw [if_neg h0]
            exact if_pos (Nat.pos_of_ne_zero h0)
      · rw [contributionOf, hq] at record
        exact ends_of record (by rw [record]; rfl)
    refine ⟨fun hp => blows_of (chooseSource_primary hp) rfl,
      fun i hp hi h => blows_of (chooseSource_fallback hp hi h) hi, fun hno hgrace => ?_,
      fun hno hgrace => ?_⟩
    · have record : visitedRecord p s = _ :=
        visitedPile_none ((chooseSource_none hno.1 hno.2).trans (if_pos hgrace)) rfl
      exact ends_of record (by rw [record]; rfl)
    · have record : visitedRecord p s = _ :=
        visitedPile_none ((chooseSource_none hno.1 hno.2).trans (if_neg (not_lt.mpr hgrace))) rfl
      exact ends_of record (by rw [record]; rfl)
  · rw [same.stage]
    change pileStage s (p.val + 1) = _
    unfold pileStage
    rw [nextPile_after] <;> rfl

end

end Sys2Proof.Machine
end

section
/-! Proofs about ZNU's evaluation of a zone (R128 to R138, R150). -/

namespace Sys2Proof.Machine

section
variable {s : State} {z : Fin 32} {c : ZoneCfg}

theorem exec_zoneEvaluation (hr : s.resetHeld = none) (hstage : s.stage = .zones z) :
    exec .zoneEvaluation s = .next (evaluateZone z s) := by
  refine (whenReleased_free hr).trans (congrArg _ ?_)
  unfold zoneTurn
  rw [hstage]

/-- The exposure state moves by the floor of its rate's share of the difference (R130). -/
theorem exposureStep_cast (hc : c.Sound) (xs a : Nat) :
    (exposureStep c xs a : Int) = xs +
      Int.fdiv ((if (xs : Int) ≤ 16 * (a : Int) then (c.rUp : Int) else c.rDown) *
        (16 * (a : Int) - xs)) 16 := by
  unfold exposureStep
  by_cases h : xs ≤ 16 * a
  · rw [if_pos h, if_pos (by omega), filterStep_cast hc.rUp.2 (by decide)]
    push_cast
    rfl
  · rw [if_neg h, if_neg (by omega), filterStep_cast hc.rDown.2 (by decide)]
    push_cast
    rfl

/-! ### Confirmation and target (R131, R132) -/

theorem mem_availableMonitors (s : State) (c : ZoneCfg) (i : Fin 48) :
    i ∈ availableMonitors s c ↔ some i ∈ c.confirmSlots ∧ (s.station i).health.state = .healthy := by
  unfold availableMonitors
  rw [List.mem_filter, healthy_iff, List.mem_filterMap]
  simp

theorem availableMonitors_nil_iff (s : State) (c : ZoneCfg) :
    availableMonitors s c = [] ↔
      ∀ i, some i ∈ c.confirmSlots → (s.station i).health.state ≠ .healthy := by
  simp only [List.eq_nil_iff_forall_not_mem, mem_availableMonitors, not_and, ne_eq]

theorem confirmation_unavailable_iff (s : State) (c : ZoneCfg) :
    confirmation s c = .unavailable ↔
      c.confirmRequired = false ∨
        ∀ i, some i ∈ c.confirmSlots → (s.station i).health.state ≠ .healthy := by
  have guard : (!c.confirmRequired || (availableMonitors s c).isEmpty) = true ↔
      c.confirmRequired = false ∨
        ∀ i, some i ∈ c.confirmSlots → (s.station i).health.state ≠ .healthy := by
    rw [Bool.or_eq_true, Bool.not_eq_true', List.isEmpty_iff, availableMonitors_nil_iff]
  rw [← guard]
  unfold confirmation
  dsimp only
  split
  next h => exact ⟨fun _ => h, fun _ => rfl⟩
  next h =>
    refine ⟨fun hc => ?_, fun hg => absurd hg h⟩
    split at hc <;> cases hc

theorem confirmation_denied_iff (s : State) (c : ZoneCfg) :
    confirmation s c = .denied ↔ Denied s c := by
  have below : ((availableMonitors s c).any fun i =>
      c.confirmThreshold ≤ (s.station i).comp.dustLevel) = false ↔
      ∀ i, some i ∈ c.confirmSlots → (s.station i).health.state = .healthy →
        (s.station i).comp.dustLevel < c.confirmThreshold := by
    simp only [List.any_eq_false, mem_availableMonitors, decide_eq_true_eq, not_le, and_imp]
  unfold confirmation
  dsimp only
  constructor
  · intro h
    split at h
    next => cases h
    next hguard =>
      split at h
      next => cases h
      next hany =>
        rw [Bool.or_eq_true, not_or, Bool.not_eq_true', Bool.not_eq_false, List.isEmpty_iff] at hguard
        obtain ⟨i, hi⟩ := List.exists_mem_of_ne_nil _ hguard.2
        exact ⟨hguard.1, ⟨i, (mem_availableMonitors s c i).mp hi⟩,
          below.mp ((Bool.not_eq_true _).mp hany)⟩
  · rintro ⟨required, ⟨i, hi⟩, hbelow⟩
    rw [if_neg, if_neg]
    · rw [below.mpr hbelow]
      exact nofun
    · rw [Bool.or_eq_true, not_or, Bool.not_eq_true', Bool.not_eq_false, List.isEmpty_iff]
      exact ⟨required, List.ne_nil_of_mem ((mem_availableMonitors s c i).mpr hi)⟩

theorem targetLevel_is (s : State) (c : ZoneCfg) (x : Nat) :
    TargetIs s c x (targetLevel c x (confirmation s c)) := by
  have denied := confirmation_denied_iff s c
  unfold targetLevel
  split
  next h => exact ⟨h.1, mt denied.mpr h.2⟩
  next h =>
    have alert : c.alert ≤ x → Denied s c := fun ha =>
      denied.mp (by_contra fun hn => h ⟨ha, hn⟩)
    split
    next hw => exact ⟨hw, alert⟩
    next hw =>
      split
      next hwatch => exact ⟨hwatch, not_le.mp hw, alert⟩
      next hwatch => exact ⟨not_le.mp hwatch, not_le.mp hw, alert⟩

/-! ### Level machine and degradation (R133, R136, R137) -/

theorem below_code (l : Level) : l.below.code = l.code - 1 := by
  cases l <;> rfl

theorem levelMachine_moves (c : ZoneCfg) (target level : Level) (hold : Nat) :
    LevelMoves c target level hold (levelMachine c target level hold).1
      (levelMachine c target level hold).2 := by
  unfold levelMachine
  refine ⟨fun h => ?_, fun h => ?_, fun h hold1 => ?_, fun h hold1 => ?_⟩
  · rw [if_pos h]
    exact ⟨rfl, rfl⟩
  · rw [if_neg (by rw [h]; exact lt_irrefl _), if_pos h]
    exact ⟨rfl, rfl⟩
  · rw [if_neg h.not_gt, if_neg (by rintro rfl; exact lt_irrefl _ h), if_pos hold1]
    exact ⟨rfl, rfl⟩
  · rw [if_neg h.not_gt, if_neg (by rintro rfl; exact lt_irrefl _ h), if_neg (by omega)]
    exact ⟨below_code level, rfl⟩

theorem degradedNow_iff (s : State) (z : Fin 32) :
    degradedNow s z (s.zoneCfg z) = true ↔ DegradedAt s z := by
  have feeder : feederBlind s z = true ↔ ∃ p : Fin 24, s.pju.feeders[z].getLsbD p.val = true ∧
      (s.pile p).dyn.source = .blind ∧ (s.pile p).dyn.shielded = false := by
    unfold feederBlind
    simp only [List.any_eq_true, mem_indices, true_and, Bool.and_eq_true, beq_iff_eq,
      Bool.not_eq_true', and_assoc]
  unfold degradedNow DegradedAt
  rw [Bool.or_eq_true, feeder, Bool.and_eq_true, beq_iff_eq, confirmation_unavailable_iff]
  refine or_congr Iff.rfl (and_congr_right fun hreq => ?_)
  rw [hreq]
  simp

theorem effectiveLevel_eq (level : Level) (degraded : Bool) :
    effectiveLevel level degraded =
      if level = .clear then (if degraded then .watch else .clear) else level := by
  cases level <;> cases degraded <;> rfl

end

/-! ### Evaluation (R128 to R138, R150) -/

section
variable {s : State} {z : Fin 32} {c : ZoneCfg}

/-- The zone after steps 1 to 5: the arrival taken, the exposure and the level moved. -/
def leveledZone (s : State) (z : Fin 32) : Zone :=
  ((s.zone z).takeArrival (s.zoneCfg z) s.rct.seq).runLevel (s.zoneCfg z)
    (confirmation s (s.zoneCfg z))

theorem leveledZone_drillEnds_iff (s : State) (z : Fin 32) :
    (leveledZone s z).drillEnds = true ↔ (s.zone z).drillTimer = 1 := beq_iff_eq

theorem evaluatedZone_eq (s : State) (z : Fin 32) :
    evaluatedZone s z =
      (leveledZone s z).countDrill.setDegraded (degradedNow s z (s.zoneCfg z)) := rfl

theorem evaluatedZone_drills (h : (s.zone z).drillTimer ≠ 1) :
    evaluatedZone s z =
      { leveledZone s z with
        drillTimer := (s.zone z).drillTimer - 1, degraded := degradedNow s z (s.zoneCfg z)
        effective := effectiveLevel (leveledZone s z).level (degradedNow s z (s.zoneCfg z)) } := by
  rw [evaluatedZone_eq, Zone.countDrill, if_neg (mt (leveledZone_drillEnds_iff s z).mp h)]
  rfl

theorem evaluatedZone_drillEnds (h : (s.zone z).drillTimer = 1) :
    evaluatedZone s z =
      { leveledZone s z with
        drillTimer := 0, xs := 0, arrivals := Vector.replicate 16 0, level := .clear, hold := 0
        degraded := degradedNow s z (s.zoneCfg z)
        effective := effectiveLevel .clear (degradedNow s z (s.zoneCfg z)) } := by
  rw [evaluatedZone_eq, Zone.countDrill, if_pos ((leveledZone_drillEnds_iff s z).mpr h)]
  rfl

theorem evaluatedZone_drillTimer (s : State) (z : Fin 32) :
    (evaluatedZone s z).drillTimer = (s.zone z).drillTimer - 1 := by
  by_cases h : (s.zone z).drillTimer = 1
  · rw [evaluatedZone_drillEnds h, h]
  · rw [evaluatedZone_drills h]

/-- The events of a zone's evaluation. -/
def zoneEvents (s : State) (z : Fin 32) : List (NoticeClass × Report) :=
  drillEndEvent z (s.zone z) ++ zoneEvent z (s.zone z) (evaluatedZone s z)

theorem evaluateZone_raises (z : Fin 32) (s : State) :
    Raises (zoneEvents s z) s (evaluateZone z s) := by
  refine ⟨s.setZone z (evaluatedZone s z), rfl, rfl, rfl, ?_, ?_⟩
  · unfold evaluateZone
    rw [State.setStage_tif, reevaluate_tif]
    rfl
  · unfold evaluateZone
    rw [State.setStage_mgu, reevaluate_mgu]
    rfl

theorem drillEndEvent_eq (s : State) (z : Fin 32) :
    drillEndEvent z (s.zone z) =
      if (s.zone z).drillTimer = 1 then
        [(.drill, { subject := z.val, old := 1, new := 0, flags := 0 })] else [] :=
  if_congr beq_iff_eq rfl rfl

/-- A zone's evaluation changes what its notices show. -/
def ZoneChanged (s : State) (z : Fin 32) : Prop :=
  (evaluatedZone s z).level ≠ (s.zone z).level ∨
    (evaluatedZone s z).degraded ≠ (s.zone z).degraded ∨ (s.zone z).drillTimer = 1

/-- The report of that change (R138). -/
def zoneReport (s : State) (z : Fin 32) : Report :=
  { subject := z.val, old := (s.zone z).level.code, new := (evaluatedZone s z).level.code
    flags := (if 0 < (evaluatedZone s z).drillTimer then 1 else 0) +
      if (evaluatedZone s z).degraded then 2 else 0 }

theorem zoneFlags_eq (t : Tuple) :
    zoneFlags t = (if t.drill then 1 else 0) + if t.degraded then 2 else 0 := by
  unfold zoneFlags flagCode
  cases t.drill <;> cases t.degraded <;> rfl

theorem zoneUnchanged_iff (s : State) (z : Fin 32) :
    ((s.zone z).level = (evaluatedZone s z).level ∧
      (s.zone z).degraded = (evaluatedZone s z).degraded ∧
      (s.zone z).tuple.drill = (evaluatedZone s z).tuple.drill) ↔ ¬ ZoneChanged s z := by
  have drill : (s.zone z).tuple.drill = (evaluatedZone s z).tuple.drill ↔
      ¬ (s.zone z).drillTimer = 1 := by
    change decide (0 < (s.zone z).drillTimer) = decide (0 < (evaluatedZone s z).drillTimer) ↔ _
    rw [evaluatedZone_drillTimer, decide_eq_decide]
    omega
  unfold ZoneChanged
  rw [not_or, not_or, not_not, not_not, drill, eq_comm, @eq_comm _ (s.zone z).degraded]

theorem zoneEvent_unchanged (h : ¬ ZoneChanged s z) :
    zoneEvent z (s.zone z) (evaluatedZone s z) = [] := if_pos ((zoneUnchanged_iff s z).mpr h)

theorem zoneEvent_changed (h : ZoneChanged s z) :
    zoneEvent z (s.zone z) (evaluatedZone s z) = [(.zone, zoneReport s z)] := by
  refine (if_neg (mt (zoneUnchanged_iff s z).mp (not_not.mpr h))).trans ?_
  rw [zoneFlags_eq]
  unfold zoneReport Zone.tuple
  simp only [decide_eq_true_eq]

theorem drillEndEvent_class (z : Fin 32) (r : Zone) : ∀ e ∈ drillEndEvent z r, e.1 = .drill := by
  intro e he
  unfold drillEndEvent at he
  split at he
  next => rw [List.mem_singleton.mp he]
  next => cases he

theorem zoneEvent_class (z : Fin 32) (a b : Zone) : ∀ e ∈ zoneEvent z a b, e.1 = .zone := by
  intro e he
  unfold zoneEvent at he
  split at he
  next => cases he
  next => rw [List.mem_singleton.mp he]

theorem reportsOf_zoneEvents (s : State) (z : Fin 32) :
    reportsOf .zone (zoneEvents s z) =
      (zoneEvent z (s.zone z) (evaluatedZone s z)).map fun e => e.2 := by
  rw [zoneEvents, reportsOf_append, reportsOf_same (zoneEvent_class z _ _),
    reportsOf_other fun e he => by rw [drillEndEvent_class z _ e he]; exact nofun]
  rfl

theorem reportsOf_drillEvents (s : State) (z : Fin 32) :
    reportsOf .drill (zoneEvents s z) = (drillEndEvent z (s.zone z)).map fun e => e.2 := by
  rw [zoneEvents, reportsOf_append, reportsOf_same (drillEndEvent_class z _),
    reportsOf_other fun e he => by rw [zoneEvent_class z _ _ e he]; exact nofun, List.append_nil]

theorem nextZone_after (s : State) (z : Fin 32) :
    nextZone s (z.val + 1) =
      (List.finRange 32).find? fun y => decide (z < y) && s.zoneEnabled y := rfl

/-- Settles O46: the steps of `evaluatedZone`, and the events of `zoneEvents`. -/
theorem zoneEvaluationFollowsTheSteps : Obligations.ZoneEvaluationFollowsTheSteps := by
  intro s z hr hstage hc c r aim rate
  have same := evaluateZone_same z s
  have raises := evaluateZone_raises z s
  have zone : (evaluateZone z s).zone z = evaluatedZone s z :=
    (evaluateZone_zone z z s).trans (if_pos rfl)
  refine ⟨evaluateZone z s, exec_zoneEvaluation hr hstage, ?_, fun y hy => ?_, ?_, ?_,
    linesSound_evaluateZone z s, same.out, same.rct, same.sin, same.stu, same.plu, same.pju,
    same.mgu, ?_⟩
  · refine ⟨exposureStep c r.xs r.arrivals[s.rct.seq], (leveledZone s z).hold,
      targetLevel c (exposureStep c r.xs r.arrivals[s.rct.seq] / 16) (confirmation s c),
      (leveledZone s z).level, degradedNow s z c, exposureStep_cast hc _ _, targetLevel_is s c _,
      levelMachine_moves c _ _ _, degradedNow_iff s z, fun h => ?_, fun h => ?_⟩
    · rw [zone, evaluatedZone_drills h, effectiveLevel_eq]
      rfl
    · rw [zone, evaluatedZone_drillEnds h, effectiveLevel_eq]
      rfl
  · rw [evaluateZone_zone, if_neg hy]
  · rw [zone]
    intro changed
    refine ⟨fun h hen => ?_, fun h hen => ?_, ?_, ?_, fun h => ?_⟩
    · exact raises.status (e := (.zone, zoneReport s z)) (List.mem_append_right _ (by
        rw [zoneEvent_changed h]
        exact List.mem_singleton_self _)) hen
    · exact raises.status (e := (.drill, ⟨z.val, 1, 0, 0⟩)) (List.mem_append_left _ (by
        rw [drillEndEvent_eq, if_pos h]
        exact List.mem_singleton_self _)) hen
    · have notified := raises.notified .zone
      rw [reportsOf_zoneEvents] at notified
      change Notified .zone (if (evaluatedZone s z).level ≠ (s.zone z).level ∨
        (evaluatedZone s z).degraded ≠ (s.zone z).degraded ∨ (s.zone z).drillTimer = 1 then
          [zoneReport s z] else []) s _
      by_cases h : (evaluatedZone s z).level ≠ (s.zone z).level ∨
        (evaluatedZone s z).degraded ≠ (s.zone z).degraded ∨ (s.zone z).drillTimer = 1
      · rw [if_pos h]
        rwa [zoneEvent_changed h] at notified
      · rw [if_neg h]
        rwa [zoneEvent_unchanged h] at notified
    · have notified := raises.notified .drill
      rw [reportsOf_drillEvents, drillEndEvent_eq] at notified
      by_cases h : (s.zone z).drillTimer = 1
      · rw [if_pos h] at notified ⊢
        exact notified
      · rw [if_neg h] at notified ⊢
        exact notified
    · have still : zoneEvents s z = [] := by
        rw [zoneEvents, zoneEvent_unchanged h, drillEndEvent_eq,
          if_neg fun hone => h (.inr (.inr hone))]
        rfl
      rw [still] at raises
      obtain ⟨tif, notices⟩ := raises.nothing
      exact ⟨same.mgu.trans (by rw [notices]), tif⟩
  · rw [same.stage]
    change zoneStage s (z.val + 1) = _
    unfold zoneStage
    rw [nextZone_after] <;> rfl
  · rw [same.znu]

end

end Sys2Proof.Machine
end

section
/-! Proofs about commands whose reports go before their response, and the drill commands (R148, R149). -/

namespace Sys2Proof.Machine

/-! ### Reports beside a response (R12, R172) -/

section
variable {s t x : State} {events : List (NoticeClass × Report)} {u : Nat} {op table : Byte}
  {e : Envelope} {b : Body} {a : Reply}

theorem raise_field (c : NoticeClass) (r : Report) (s : State) :
    Entered .field none [] s.tif (raise c r s).tif := by
  unfold raise sendNotice
  dsimp only
  split
  next =>
    split
    next => exact Entered.refl _ _
    next =>
      split
      next h => exact entered_offer_other h (by decide)
      next => exact Entered.refl _ _
  next => exact Entered.refl _ _

/-- Notices go to the quay port alone. -/
theorem raiseAll_field (events : List (NoticeClass × Report)) (s : State) :
    Entered .field none [] s.tif (raiseAll events s).tif := by
  induction events generalizing s with
  | nil => exact Entered.refl _ _
  | cons e events ih => exact (raise_field e.1 e.2 s).after (ih (raise e.1 e.2 s))

theorem Raises.field (h : Raises events s t) : Entered .field none [] s.tif t.tif := by
  obtain ⟨y, htif, -, -, ttif, -⟩ := h.raised
  rw [ttif, ← htif]
  exact raiseAll_field events y

theorem shownFrames_taken (p : Port) (s : State) (events : List (NoticeClass × Report)) :
    shownFrames (takenState p s) events = shownFrames s events :=
  shownFrames_congr (s := s) (t := takenState p s) (fun _ => rfl) (Tif.modPort_strap _ _ _) rfl events

/-- The notices of a request's events, those that find room beside the response's place. -/
def noticesBeside (s : State) (events : List (NoticeClass × Report)) : List Frame :=
  (shownFrames s events).take (placesFor .quay 1 s.tif)

theorem Raises.besideQuay (h : Raises events (takenState .quay s) x) (hr : Ready s.tif .quay) :
    Entered .quay none (noticesBeside s events) s.tif x.tif := by
  have reserved := entered_reserve .quay .quay s.tif
  have entered := (h.noticed (reserved.ready hr)).entered
  rw [shownFrames_taken] at entered
  unfold noticesBeside
  rw [placesFor_reserve]
  exact reserved.after entered

/-- The response of a request that raises events stands behind the notices they send. -/
theorem Raises.responded (h : Raises events (takenState e.port s) x) :
    ∃ notices, (e.port = .field → notices = []) ∧
      Responded u e x.rct.roundNumber a none notices s
        (respond (ownRequest u op table e b s) a x) := by
  cases hp : e.port with
  | field =>
    rw [hp] at h
    refine ⟨[], fun _ => rfl, responded_of_entered (hp ▸ ?_)⟩
    exact (entered_reserve .field .field s.tif).after h.field
  | quay =>
    rw [hp] at h
    refine ⟨noticesBeside s events, nofun, ?_⟩
    have entered (hr : Ready s.tif .quay) : Responded u e x.rct.roundNumber a none
        (noticesBeside s events) s (respond (ownRequest u op table e b s) a x) :=
      responded_of_entered (hp ▸ h.besideQuay hr)
    refine ⟨fun hbusy => (entered (.inl ?_)).1 hbusy, fun hn => (entered (.inr ?_)).2 hn⟩
    · rwa [hp] at hbusy
    · rwa [hp] at hn

/-- And its class is reported before the response. -/
theorem Raises.notifiedBeside (h : Raises events (takenState e.port s) x) (c : NoticeClass) :
    Notified c (reportsOf c events) s (respond (ownRequest u op table e b s) a x)
      (if e.port = .quay then [responseTo u e x.rct.roundNumber a s] else []) := by
  intro hen hmask hothers
  have frames : shownFrames s events = (reportsOf c events).map (reportFrame s c) :=
    shownFrames_class hen hmask hothers events
  cases hp : e.port with
  | field =>
    rw [hp] at h
    have entered (hr : Ready s.tif .quay) : Entered .quay none
        (((reportsOf c events).take (placesFor .quay 0 s.tif)).map (reportFrame s c) ++ [])
        s.tif (respond (ownRequest u op table e b s) a x).tif := by
      have reserved : Entered .quay none [] s.tif (takenState .field s).tif :=
        entered_reserve .quay .field s.tif
      have raised := (h.noticed (reserved.ready hr)).entered
      have places : placesFor .quay 0 (takenState .field s).tif = placesFor .quay 0 s.tif :=
        placesFor_congr (Tif.modPort_other s.tif _ (by decide : Port.quay ≠ .field)) 0
      rw [shownFrames_taken, frames, ← List.map_take, places] at raised
      refine (reserved.after raised).trans ?_
      rw [respond_tif]
      change Entered .quay none [] x.tif (x.tif.enterReserved e.port _)
      rw [hp]
      exact entered_append_other _ (by decide : Port.quay ≠ .field)
    exact ⟨fun hbusy => (entered (.inl hbusy)).busy hbusy, fun hn => (entered (.inr hn)).idle hn⟩
  | quay =>
    rw [hp] at h
    have entered (hr : Ready s.tif .quay) : Entered .quay none
        (((reportsOf c events).take (placesFor .quay 1 s.tif)).map (reportFrame s c) ++
          [responseTo u e x.rct.roundNumber a s])
        s.tif (respond (ownRequest u op table e b s) a x).tif := by
      have beside := h.besideQuay hr
      rw [noticesBeside, frames, ← List.map_take] at beside
      refine beside.trans ?_
      rw [respond_tif]
      change Entered .quay none _ x.tif (x.tif.enterReserved e.port _)
      rw [hp]
      exact entered_enterReserved _
    exact ⟨fun hbusy => (entered (.inl hbusy)).busy hbusy, fun hn => (entered (.inr hn)).idle hn⟩

end

end Sys2Proof.Machine
end

section
/-! Proofs about the drill commands (R148, R149, R161). -/

namespace Sys2Proof.Machine

/-! ### Masks (R148, R182) -/

section
variable {half : Nat} {mask : Word} {f : Fin 32 → Bool}

/-- A zone is named by its half and its bit of the mask. -/
def Named (half : Nat) (mask : Word) (z : Fin 32) : Prop :=
  z.val / 16 = half ∧ mask.getLsbD (z.val % 16) = true

theorem maskNames_iff (half : Nat) (mask : Word) (z : Fin 32) :
    maskNames half mask z = true ↔ Named half mask z := by
  unfold maskNames Named
  rw [Bool.and_eq_true, Bool.and_eq_true, decide_eq_true_eq, decide_eq_true_eq]
  constructor
  · rintro ⟨⟨hlo, hhi⟩, hbit⟩
    refine ⟨by omega, ?_⟩
    rwa [show z.val % 16 = z.val - 16 * half by omega]
  · rintro ⟨hhalf, hbit⟩
    refine ⟨⟨by omega, by omega⟩, ?_⟩
    rwa [show z.val - 16 * half = z.val % 16 by omega]

/-- A mask built bit by bit over a list. -/
theorem foldl_mask_getLsbD {p : Fin 32 → Prop} [DecidablePred p] (bit : Fin 32 → Nat) (k : Fin 16)
    (l : List (Fin 32)) (m : Word) :
    (l.foldl (fun m z => if p z then m ||| BitVec.twoPow 16 (bit z) else m) m).getLsbD k.val = true ↔
      m.getLsbD k.val = true ∨ ∃ z ∈ l, p z ∧ bit z = k.val := by
  induction l generalizing m with
  | nil => simp
  | cons z l ih =>
    rw [List.foldl_cons, ih]
    have first : (if p z then m ||| BitVec.twoPow 16 (bit z) else m).getLsbD k.val = true ↔
        m.getLsbD k.val = true ∨ (p z ∧ bit z = k.val) := by
      split
      next hp =>
        rw [BitVec.getLsbD_or, Bool.or_eq_true, BitVec.getLsbD_twoPow, Bool.and_eq_true,
          decide_eq_true_eq, decide_eq_true_eq]
        refine or_congr_right ⟨fun h => ⟨hp, h.2⟩, fun h => ⟨?_, h.2⟩⟩
        rw [h.2]
        exact k.isLt
      next hp => simp [hp]
    rw [first, or_assoc, List.exists_mem_cons_iff]

theorem halfMask_getLsbD (half : Nat) (f : Fin 32 → Bool) (k : Fin 16) :
    (halfMask half f).getLsbD k.val = true ↔
      ∃ z : Fin 32, z.val / 16 = half ∧ f z = true ∧ z.val % 16 = k.val := by
  unfold halfMask
  have zero : ¬ (0 : Word).getLsbD k.val = true := by simp
  rw [foldl_mask_getLsbD, or_iff_right zero]
  simp only [mem_indices, true_and]
  refine exists_congr fun z => ?_
  constructor
  · rintro ⟨⟨hlo, hhi, hf⟩, hk⟩
    exact ⟨by omega, hf, by omega⟩
  · rintro ⟨hhalf, hf, hk⟩
    exact ⟨⟨by omega, by omega, hf⟩, by omega⟩

/-- The mask of the zones named that satisfy a condition. -/
theorem halfMask_named (g : Fin 32 → Prop) (hf : ∀ z, f z = true ↔ Named half mask z ∧ g z)
    (k : Fin 16) :
    (halfMask half f).getLsbD k.val = true ↔
      ∃ z : Fin 32, Named half mask z ∧ z.val % 16 = k.val ∧ g z := by
  rw [halfMask_getLsbD]
  refine exists_congr fun z => ?_
  rw [hf]
  exact ⟨fun ⟨_, ⟨hn, hg⟩, hk⟩ => ⟨hn, hk, hg⟩, fun ⟨hn, hk, hg⟩ => ⟨hn.1, ⟨hn, hg⟩, hk⟩⟩

end

/-! ### DRILL and ENDDRILL (R148, R149) -/

section
variable {e : Envelope} {b : Body} {s x : State} {half d : Nat} {mask : Word}

theorem drillSets_iff (half : Nat) (mask : Word) (s : State) (z : Fin 32) :
    drillSets half mask s z = true ↔ Named half mask z ∧ s.zoneEnabled z = true := by
  unfold drillSets
  rw [Bool.and_eq_true, maskNames_iff]

theorem drillStarts_class (half : Nat) (mask : Word) (d : Nat) (s : State) :
    ∀ e ∈ drillStarts half mask d s, e.1 = .drill := by
  intro e he
  obtain ⟨z, -, hz⟩ := List.mem_filterMap.mp he
  split at hz
  next => rw [← Option.some.inj hz]
  next => cases hz

theorem reportsOf_drillStarts (half : Nat) (mask : Word) (d : Nat) (s : State) :
    reportsOf .drill (drillStarts half mask d s) = (List.finRange 32).flatMap fun z =>
      if z.val / 16 = half ∧ mask.getLsbD (z.val % 16) = true ∧ s.zoneEnabled z = true ∧
        (s.zone z).drillTimer = 0
      then [{ subject := z.val, old := 0, new := d, flags := 0 }] else [] := by
  rw [reportsOf_same (drillStarts_class half mask d s)]
  unfold drillStarts
  rw [List.map_filterMap, List.filterMap_eq_flatMap_toList]
  refine List.flatMap_congr fun z _ => ?_
  have starts : (drillSets half mask s z && (s.zone z).drillTimer == 0) = true ↔
      z.val / 16 = half ∧ mask.getLsbD (z.val % 16) = true ∧ s.zoneEnabled z = true ∧
        (s.zone z).drillTimer = 0 := by
    rw [Bool.and_eq_true, drillSets_iff, beq_iff_eq]
    unfold Named
    rw [and_assoc, and_assoc]
  by_cases h : (drillSets half mask s z && (s.zone z).drillTimer == 0) = true
  · rw [if_pos h, if_pos (starts.mp h)]
    rfl
  · rw [if_neg h, if_neg (mt starts.mpr h)]
    rfl

/-- The zones with the timers of a DRILL set. -/
def drillSet (half : Nat) (mask : Word) (d : Nat) (s : State) : State :=
  s.mapZones fun z r => if drillSets half mask s z then { r with drillTimer := d } else r

theorem drillZones_eq (half : Nat) (mask : Word) (d : Nat) (s : State) :
    drillZones half mask d s =
      reevaluate (raiseAll (drillStarts half mask d s) (drillSet half mask d s)) := rfl

theorem drillZones_same (half : Nat) (mask : Word) (d : Nat) (s : State) :
    SameButSignals (drillSet half mask d s) (drillZones half mask d s) := by
  rw [drillZones_eq]
  exact ((raiseAll_same _ (drillSet half mask d s)).signals).trans (reevaluate_same _)

theorem drillZones_raises (half : Nat) (mask : Word) (d : Nat) (s : State) :
    Raises (drillStarts half mask d s) s (drillZones half mask d s) := by
  refine ⟨drillSet half mask d s, State.mapZones_tif _ _, State.mapZones_mgu _ _, ?_, ?_, ?_⟩
  · rw [drillSet, State.mapZones_rct]
  · rw [drillZones_eq, reevaluate_tif]
  · rw [drillZones_eq, reevaluate_mgu]

theorem drillZones_zone (half : Nat) (mask : Word) (d : Nat) (s : State) (z : Fin 32) :
    (drillZones half mask d s).zone z =
      if drillSets half mask s z then { s.zone z with drillTimer := d } else s.zone z := by
  rw [State.zone_congr (drillZones_same half mask d s).znu, drillSet, State.zone_mapZones]

theorem linesSound_drillZones (half : Nat) (mask : Word) (d : Nat) (s : State) :
    LinesSound (drillZones half mask d s) := linesSound_reevaluate _

theorem drillZones_blocks (half : Nat) (mask : Word) (d : Nat) (s : State) :
    (drillZones half mask d s).out =
        { s.out with
          wl := (drillZones half mask d s).out.wl, svc := (drillZones half mask d s).out.svc } ∧
      (drillZones half mask d s).mgu =
        { s.mgu with notices := (drillZones half mask d s).mgu.notices } ∧
      (drillZones half mask d s).rct = s.rct ∧ (drillZones half mask d s).sin = s.sin ∧
      (drillZones half mask d s).stu = s.stu ∧ (drillZones half mask d s).plu = s.plu ∧
      (drillZones half mask d s).pju = s.pju ∧ (drillZones half mask d s).stage = s.stage := by
  obtain ⟨-, -, rct, sin, stu, plu, pju, -, stage, out, mgu⟩ := drillZones_same half mask d s
  simp only [drillSet, State.mapZones_rct, State.mapZones_sin, State.mapZones_stu,
    State.mapZones_plu, State.mapZones_pju, State.mapZones_stage, State.mapZones_out,
    State.mapZones_mgu] at rct sin stu plu pju stage out mgu
  exact ⟨out, mgu, rct, sin, stu, plu, pju, stage⟩

/-- The zone records with the timers of the zones named brought to at most 2 (R149). -/
def endedTimers (half : Nat) (mask : Word) (zones : Vector Zone 32) : Vector Zone 32 :=
  tableMap (fun z r => if maskNames half mask z then
    { r with drillTimer := min r.drillTimer 2 } else r) zones

theorem endDrillZones_eq (half : Nat) (mask : Word) (s : State) :
    endDrillZones half mask s = s.setZnu { s.znu with zones := endedTimers half mask s.znu.zones } :=
  rfl

theorem endDrill_answers (h : TakesAtOnce e.port s) (hhalf : b.field.toNat ≤ 1)
    (hrun : s.rct.opState = .run) :
    ask 3 3 3 e b s = received (answered 3 e
      (echo .ok 3 b (halfMask b.field.toNat fun z =>
        maskNames b.field.toNat b.data z && 0 < (s.zone z).drillTimer))
      (s.setZnu { s.znu with zones := endedTimers b.field.toNat b.data s.znu.zones })) := by
  have running : (takenState e.port s).running = true := (running_iff (takenState e.port s)).mpr hrun
  refine command_answers (by decide) (.inl (by decide)) h
    (f := fun x => x.setZnu { x.znu with zones := endedTimers b.field.toNat b.data x.znu.zones })
    ?_ ?_ (State.setZnu_tif s _) (by rw [State.setZnu_rct])
  case refine_2 =>
    dsimp only
    rw [show (takenState e.port s).znu = s.znu from rfl]
    rfl
  rw [runCommand_endDrill]
  unfold runEndDrill
  rw [← endDrillZones_eq]
  refine (if_neg (not_lt.mpr hhalf)).trans ((if_pos running).trans ?_)
  exact congrArg (fun v => (endDrillZones b.field.toNat b.data (takenState e.port s),
    echo .ok 3 b v)) (ofNat_data _)

/-- Settles O48: `drillZones` and `endDrillZones` as executed requests. -/
theorem drillCommandsSetTheTimers : Obligations.DrillCommandsSetTheTimers := by
  intro e b s h half named d
  have idle (hconfig : s.rct.opState = .config) : ¬ (takenState e.port s).running = true :=
    Bool.eq_false_iff.mp ((not_running_iff (takenState e.port s)).mpr hconfig)
  refine ⟨fun hhalf => ⟨?_, ?_⟩, fun hhalf hconfig => ⟨?_, ?_⟩, fun hhalf hrun => ⟨?_, ?_⟩⟩
  · refine (whenReleased_free h.released).trans (congrArg _ ?_)
    exact command_unchanged (by decide) (.inl (by decide)) h (runCommand_drill.trans (if_pos hhalf))
  · refine (whenReleased_free h.released).trans (congrArg _ ?_)
    exact command_unchanged (by decide) (.inl (by decide)) h
      (runCommand_endDrill.trans (if_pos hhalf))
  · refine (whenReleased_free h.released).trans (congrArg _ ?_)
    exact command_unchanged (by decide) (.inl (by decide)) h
      (runCommand_drill.trans ((if_neg (not_lt.mpr hhalf)).trans (if_neg (idle hconfig))))
  · refine (whenReleased_free h.released).trans (congrArg _ ?_)
    exact command_unchanged (by decide) (.inl (by decide)) h
      (runCommand_endDrill.trans ((if_neg (not_lt.mpr hhalf)).trans (if_neg (idle hconfig))))
  · have running : (takenState e.port s).running = true := (running_iff _).mpr hrun
    let x := drillZones half b.data d (takenState e.port s)
    let w := halfMask half (drillSets half b.data (takenState e.port s))
    let a : Reply :=
      { status := if d = b.index.toNat then .ok else .clamped, table := 2
        index := BitVec.ofNat 16 d, field := b.field, data := w }
    have run : runCommand (ownRequest 3 3 2 e b s) (takenState e.port s) = (x, a) := by
      refine runCommand_drill.trans ((if_neg (not_lt.mpr hhalf)).trans ((if_pos running).trans ?_))
      have data : wordOf w.toNat = w := ofNat_data w
      exact congrArg (fun v => (x, ({ a with data := v } : Reply))) data
    have same := drillZones_same half b.data d (takenState e.port s)
    have raises := drillZones_raises half b.data d (takenState e.port s)
    obtain ⟨out, mgu, rct, sin, stu, plu, pju, stage⟩ :=
      drillZones_blocks half b.data d (takenState e.port s)
    have reports := reportsOf_drillStarts half b.data d (takenState e.port s)
    have zone := drillZones_zone half b.data d (takenState e.port s)
    have sets (z : Fin 32) : drillSets half b.data (takenState e.port s) z = true ↔
        named z ∧ s.zoneEnabled z = true := drillSets_iff half b.data (takenState e.port s) z
    refine ⟨respond (ownRequest 3 3 2 e b s) a x, w,
      (whenReleased_free h.released).trans (congrArg _ ?_), fun k => ?_, ?_, fun z hz hen => ?_,
      fun z hz => ?_, fun ⟨z, hz, hen, h0⟩ hstatus => ?_, ?_, ?_, ?_, ?_, ?_, ?_, ?_, ?_, ?_⟩
    · rw [ask_command (by decide) (.inl (by decide)) h, run]
    · exact halfMask_named (fun z => s.zoneEnabled z = true) sets k
    · intro a' reports'
      have round : x.rct.roundNumber = s.rct.roundNumber := by rw [same.rct]; rfl
      have responded := raises.responded (u := 3) (op := 3) (table := 2) (b := b) (a := a)
      have notified := raises.notifiedBeside (u := 3) (op := 3) (table := 2) (b := b) (a := a) .drill
      rw [round] at responded notified
      rw [reports] at notified
      exact ⟨responded, notified⟩
    · exact (zone z).trans (if_pos ((sets z).mpr ⟨hz, hen⟩))
    · exact (zone z).trans (if_neg (mt (sets z).mp hz))
    · refine raises.status (e := (.drill, ⟨z.val, 0, d, 0⟩))
        (List.mem_filterMap.mpr ⟨z, List.mem_finRange z, if_pos ?_⟩) hstatus
      rw [(sets z).mpr ⟨hz, hen⟩]
      exact beq_iff_eq.mpr h0
    · exact (linesSound_setTif _ _).mpr (linesSound_drillZones half b.data d (takenState e.port s))
    · exact out
    · exact mgu
    · exact rct
    · exact sin
    · exact stu
    · exact plu
    · exact pju
    · exact stage
  · refine ⟨_, endedTimers half b.data s.znu.zones,
      (whenReleased_free h.released).trans (congrArg _ (endDrill_answers h hhalf hrun)),
      halfMask_named (fun z => 0 < (s.zone z).drillTimer) fun z => ?_, fun z hz => ?_,
      fun z hz => ?_⟩
    · rw [Bool.and_eq_true, maskNames_iff, decide_eq_true_eq]
    · exact (tableMap_get _ _ _).trans (if_pos ((maskNames_iff half b.data z).mpr hz))
    · exact (tableMap_get _ _ _).trans (if_neg (mt (maskNames_iff half b.data z).mp hz))

end

end Sys2Proof.Machine
end

section
/-! Proofs about groups of frames offered one after another to a port that is sending or has nothing to
send (R12, R14, R156, R159). -/

namespace Sys2Proof.Machine

/-! ### Frames that enter together (R12, R14) -/

section
variable {p : Port} {t u : Tif} {a b : List Frame} {f : Frame}

theorem Tif.modPort_self {g : PortState → PortState} (h : g (t.port p) = t.port p) :
    t.modPort p g = t := by
  rw [Tif.modPort_eq_setPort, h]
  cases p <;> rfl

theorem enqueue_busy (h : (t.port p).sending.isSome = true) (a : List Frame) :
    enqueue p a t = t.modPort p fun ps => { ps with queue := ps.queue ++ a } := if_pos h

/-- An idle port sends the first of the frames that enter. -/
theorem enqueue_idle (h : (t.port p).sending = none) (f : Frame) (a : List Frame) :
    enqueue p (f :: a) t = t.modPort p fun ps =>
      { ps with
        sending := some f, queue := a, lastTaken := .insertion
        framesInserted := bump ps.framesInserted } :=
  if_neg (by rw [h]; exact nofun)

@[simp] theorem enqueue_nil (p : Port) (t : Tif) : enqueue p [] t = t := by
  unfold enqueue
  split
  next => exact Tif.modPort_self (by rw [List.append_nil])
  next => rfl

/-- A group that enters a port that is ready is taken as `enqueue` has it. -/
theorem entering_enqueue (hr : Ready t p) (a : List Frame) :
    (t.modPort p fun ps => { ps with queue := ps.queue ++ a }).wake p = enqueue p a t := by
  have port : (t.modPort p fun ps => { ps with queue := ps.queue ++ a }).port p =
      { t.port p with queue := (t.port p).queue ++ a } := by rw [Tif.port_modPort, if_pos rfl]
  rcases hr with hbusy | hn
  · rw [enqueue_busy hbusy]
    exact Tif.wake_busy _ _ (by rw [port]; exact hbusy)
  · have mark := Tif.markFor_none hn
    obtain ⟨hs, ht, hq, -⟩ := hn
    rw [Tif.wake_idle _ _ (by rw [port]; exact hs),
      Tif.select_sources _ _ ((Tif.markFor_modPort _ _ _ _).trans mark), Tif.modPort_modPort]
    cases a with
    | nil =>
      rw [enqueue_nil]
      refine Tif.modPort_self ?_
      have none := PortState.select_nothing (ps := { t.port p with queue := (t.port p).queue ++ [] })
        ht (by rw [hq]; rfl)
      refine none.trans ?_
      rw [List.append_nil, ← hs]
    | cons f a =>
      rw [enqueue_idle hs]
      refine Tif.modPort_congr ?_
      exact PortState.select_insertion (ps := { t.port p with queue := (t.port p).queue ++ f :: a })
        (f := f) (rest := a) (by rw [hq]; rfl) (.inl ht)

theorem offer_enqueue (hr : Ready t p) (hfit : a.length ≤ (t.port p).room) :
    t.offer p a = some (enqueue p a t) := by
  rw [← entering_enqueue hr]
  exact if_pos hfit

/-- Frames that enter one group after another enter as one group. -/
theorem enqueue_append (hr : Ready t p) (a b : List Frame) :
    enqueue p b (enqueue p a t) = enqueue p (a ++ b) t := by
  rcases hr with hbusy | hn
  · have busy : ((enqueue p a t).port p).sending.isSome = true := by
      rw [enqueue_busy hbusy, Tif.port_modPort, if_pos rfl]
      exact hbusy
    rw [enqueue_busy busy, enqueue_busy hbusy, enqueue_busy hbusy, Tif.modPort_modPort]
    refine Tif.modPort_congr ?_
    dsimp only [Function.comp]
    rw [List.append_assoc]
  · cases a with
    | nil => rw [enqueue_nil, List.nil_append]
    | cons f a =>
      have busy : ((enqueue p (f :: a) t).port p).sending.isSome = true := by
        rw [enqueue_idle hn.1, Tif.port_modPort, if_pos rfl]
        rfl
      rw [enqueue_busy busy, enqueue_idle hn.1, List.cons_append, enqueue_idle hn.1,
        Tif.modPort_modPort]

theorem entered_enqueue (hr : Ready t p) (a : List Frame) :
    Entered p none a t (enqueue p a t) := by
  rw [← entering_enqueue hr]
  exact entered_append a fun _ => ⟨rfl, rfl, rfl⟩

theorem enqueue_ready (hr : Ready t p) (a : List Frame) : Ready (enqueue p a t) p :=
  (entered_enqueue hr a).ready hr

theorem enqueue_markSlot (p : Port) (a : List Frame) (t : Tif) :
    (enqueue p a t).markSlot = t.markSlot := by
  unfold enqueue
  split
  next => exact Tif.modPort_markSlot _ _ _
  next =>
    split
    next => rfl
    next => exact Tif.modPort_markSlot _ _ _

/-- What a group leaves idle of a port. -/
theorem enqueue_idleness (t : Tif) (p : Port) (a : List Frame) :
    ((enqueue p a t).port p).sending.isNone = ((t.port p).sending.isNone && a.isEmpty) := by
  by_cases h : (t.port p).sending.isSome = true
  · rw [enqueue_busy h, Tif.port_modPort, if_pos rfl]
    cases hs : (t.port p).sending with
    | none => rw [hs] at h; cases h
    | some f => rfl
  · have idle : (t.port p).sending = none := by simpa using h
    cases a with
    | nil => rw [enqueue_nil, idle]; rfl
    | cons f a => rw [enqueue_idle idle, Tif.port_modPort, if_pos rfl]; simp

/-- And what it leaves of the room (R12, R14). -/
theorem enqueue_room (hr : Ready t p) (hfit : a.length ≤ (t.port p).room) :
    ((enqueue p a t).port p).room = (t.port p).room - a.length +
      if (t.port p).sending.isNone && !a.isEmpty then 1 else 0 :=
  room_offer_ready hr (offer_enqueue hr hfit)

end

/-! ### Visits that offer groups (R12) -/

section
variable {β : Type} {visit : State → Fin 32 → State} {s₀ s : State} {Same : State → Prop}
  {offered : Fin 32 → Prop} {group : Fin 32 → List Frame} {obs : State → Fin 32 → β}
  {quiet taken refused : Fin 32 → β}

/-- Visits that offer a zone's group to the field port, or pass the zone by: what they leave of a zone,
as `obs` sees it, depends on whether the group is taken. -/
structure Offers (visit : State → Fin 32 → State) (s₀ : State) (Same : State → Prop)
    (offered : Fin 32 → Prop) (group : Fin 32 → List Frame) (obs : State → Fin 32 → β)
    (quiet taken refused : Fin 32 → β) : Prop where
  same : ∀ s z, Same s → Same (visit s z)
  other : ∀ s z y, y ≠ z → obs (visit s z) y = obs s y
  passed : ∀ s z, Same s → obs s z = obs s₀ z → ¬ offered z →
    (visit s z).tif = s.tif ∧ obs (visit s z) z = quiet z
  entered : ∀ s z u, Same s → obs s z = obs s₀ z → offered z →
    s.tif.offer .field (group z) = some u → (visit s z).tif = u ∧ obs (visit s z) z = taken z
  full : ∀ s z, Same s → obs s z = obs s₀ z → offered z → s.tif.offer .field (group z) = none →
    (visit s z).tif = s.tif ∧ obs (visit s z) z = refused z

theorem groupsTaken_subset {idle : Bool} {room : Nat} {offers : List (Fin 32 × List Frame)}
    {x : Fin 32 × List Frame} (h : x ∈ groupsTaken idle room offers) : x ∈ offers := by
  induction offers generalizing idle room with
  | nil => exact h
  | cons o offers ih =>
    obtain ⟨z, g⟩ := o
    unfold groupsTaken at h
    split at h
    next =>
      rcases List.mem_cons.mp h with rfl | h
      · exact List.mem_cons_self
      · exact List.mem_cons_of_mem _ (ih h)
    next => exact List.mem_cons_of_mem _ (ih h)

theorem Offers.foldl_other (ho : Offers visit s₀ Same offered group obs quiet taken refused)
    {l : List (Fin 32)} {y : Fin 32} (hy : y ∉ l) (s : State) :
    obs (l.foldl visit s) y = obs s y := by
  induction l generalizing s with
  | nil => rfl
  | cons z l ih =>
    rw [List.mem_cons, not_or] at hy
    rw [List.foldl_cons, ih hy.2, ho.other s z y hy.1]

variable [DecidablePred offered]

/-- The groups that visits of these zones offer, in order. -/
def groupsOf (offered : Fin 32 → Prop) [DecidablePred offered] (group : Fin 32 → List Frame)
    (l : List (Fin 32)) : List (Fin 32 × List Frame) :=
  (l.filter fun z => offered z).map fun z => (z, group z)

/-- The groups that a port takes of them. -/
def takenOf (offered : Fin 32 → Prop) [DecidablePred offered] (group : Fin 32 → List Frame)
    (l : List (Fin 32)) (t : Tif) : List (Fin 32 × List Frame) :=
  groupsTaken (t.port .field).sending.isNone (t.port .field).room (groupsOf offered group l)

theorem mem_of_mem_takenOf {l : List (Fin 32)} {t : Tif} {z : Fin 32}
    (h : z ∈ (takenOf offered group l t).map fun o => o.1) : z ∈ l := by
  obtain ⟨o, ho, rfl⟩ := List.mem_map.mp h
  obtain ⟨y, hy, rfl⟩ := List.mem_map.mp (groupsTaken_subset ho)
  exact (List.mem_filter.mp hy).1

theorem takenOf_passed {z : Fin 32} (h : ¬ offered z) (l : List (Fin 32)) (t : Tif) :
    takenOf offered group (z :: l) t = takenOf offered group l t := by
  unfold takenOf groupsOf
  rw [List.filter_cons_of_neg (by simpa using h)]

theorem groupsOf_offered {z : Fin 32} (h : offered z) (l : List (Fin 32)) :
    groupsOf offered group (z :: l) = (z, group z) :: groupsOf offered group l := by
  unfold groupsOf
  rw [List.filter_cons_of_pos (by simpa using h), List.map_cons]

theorem takenOf_entered {z : Fin 32} {t : Tif} (hr : Ready t .field) (h : offered z)
    (hfit : (group z).length ≤ (t.port .field).room) (l : List (Fin 32)) :
    takenOf offered group (z :: l) t =
      (z, group z) :: takenOf offered group l (enqueue .field (group z) t) := by
  unfold takenOf
  rw [groupsOf_offered h, groupsTaken, if_pos hfit, enqueue_idleness, enqueue_room hr hfit]

theorem takenOf_full {z : Fin 32} {t : Tif} (h : offered z)
    (hfit : (t.port .field).room < (group z).length) (l : List (Fin 32)) :
    takenOf offered group (z :: l) t = takenOf offered group l t := by
  unfold takenOf
  rw [groupsOf_offered h, groupsTaken, if_neg (not_le.mpr hfit)]

/-- What the visits of a pass leave. -/
structure PassLeaves (offered : Fin 32 → Prop) [DecidablePred offered]
    (group : Fin 32 → List Frame) (obs : State → Fin 32 → β) (quiet taken refused : Fin 32 → β)
    (l : List (Fin 32)) (s t : State) : Prop where
  tif : t.tif = enqueue .field ((takenOf offered group l s.tif).flatMap fun o => o.2) s.tif
  passed : ∀ z ∈ l, ¬ offered z → obs t z = quiet z
  entered : ∀ z ∈ l, offered z → z ∈ (takenOf offered group l s.tif).map (fun o => o.1) →
    obs t z = taken z
  full : ∀ z ∈ l, offered z → z ∉ (takenOf offered group l s.tif).map (fun o => o.1) →
    obs t z = refused z

theorem Offers.foldl (ho : Offers visit s₀ Same offered group obs quiet taken refused)
    {l : List (Fin 32)} (hl : l.Nodup) (hsame : Same s) (hobs : ∀ z ∈ l, obs s z = obs s₀ z)
    (hr : Ready s.tif .field) :
    PassLeaves offered group obs quiet taken refused l s (l.foldl visit s) := by
  induction l generalizing s with
  | nil => exact ⟨(enqueue_nil _ _).symm, nofun, nofun, nofun⟩
  | cons z l ih =>
    obtain ⟨hz, hl⟩ := List.nodup_cons.mp hl
    have hz₀ := hobs z List.mem_cons_self
    have rest (y : Fin 32) (hy : y ∈ l) : obs (visit s z) y = obs s₀ y := by
      rw [ho.other s z y (fun h => hz (h ▸ hy)), hobs y (List.mem_cons_of_mem _ hy)]
    have last := ho.foldl_other hz (visit s z)
    have notTaken (t : Tif) : z ∉ (takenOf offered group l t).map fun o => o.1 :=
      fun h => hz (mem_of_mem_takenOf h)
    by_cases hoff : offered z
    case neg =>
      obtain ⟨tif, left⟩ := ho.passed s z hsame hz₀ hoff
      have after := ih hl (ho.same s z hsame) rest (by rw [tif]; exact hr)
      obtain ⟨ptif, passed, entered, full⟩ := after
      rw [tif] at ptif entered full
      constructor
      case tif => rw [takenOf_passed hoff]; exact ptif
      case passed =>
        intro y hy hyo
        rcases List.mem_cons.mp hy with rfl | hy
        · exact last.trans left
        · exact passed y hy hyo
      case entered =>
        intro y hy hyo hyt
        rw [takenOf_passed hoff] at hyt
        exact entered y (mem_of_mem_takenOf hyt) hyo hyt
      case full =>
        intro y hy hyo hyt
        rw [takenOf_passed hoff] at hyt
        rcases List.mem_cons.mp hy with rfl | hy
        · exact absurd hyo hoff
        · exact full y hy hyo hyt
    by_cases hfit : (group z).length ≤ (s.tif.port .field).room
    case pos =>
      obtain ⟨tif, left⟩ := ho.entered s z _ hsame hz₀ hoff (offer_enqueue hr hfit)
      have after := ih hl (ho.same s z hsame) rest (by rw [tif]; exact enqueue_ready hr _)
      obtain ⟨ptif, passed, entered, full⟩ := after
      rw [tif] at ptif entered full
      have took := takenOf_entered (group := group) hr hoff hfit l
      constructor
      case tif =>
        rw [took, List.flatMap_cons, ← enqueue_append hr]
        exact ptif
      case passed =>
        intro y hy hyo
        rcases List.mem_cons.mp hy with rfl | hy
        · exact absurd hoff hyo
        · exact passed y hy hyo
      case entered =>
        intro y hy hyo hyt
        rw [took, List.map_cons, List.mem_cons] at hyt
        rcases List.mem_cons.mp hy with rfl | hy
        · exact last.trans left
        · exact entered y hy hyo (hyt.resolve_left fun h => hz ((show y = z from h) ▸ hy))
      case full =>
        intro y hy hyo hyt
        rw [took, List.map_cons, List.mem_cons, not_or] at hyt
        rcases List.mem_cons.mp hy with rfl | hy
        · exact absurd rfl hyt.1
        · exact full y hy hyo hyt.2
    case neg =>
      have hfit := not_le.mp hfit
      obtain ⟨tif, left⟩ := ho.full s z hsame hz₀ hoff ((offer_none_iff _ _ _).mpr hfit)
      have after := ih hl (ho.same s z hsame) rest (by rw [tif]; exact hr)
      obtain ⟨ptif, passed, entered, full⟩ := after
      rw [tif] at ptif entered full
      have took := takenOf_full (group := group) hoff hfit l
      constructor
      case tif => rw [took]; exact ptif
      case passed =>
        intro y hy hyo
        rcases List.mem_cons.mp hy with rfl | hy
        · exact absurd hoff hyo
        · exact passed y hy hyo
      case entered =>
        intro y hy hyo hyt
        rw [took] at hyt
        exact entered y (mem_of_mem_takenOf hyt) hyo hyt
      case full =>
        intro y hy hyo hyt
        rw [took] at hyt
        rcases List.mem_cons.mp hy with rfl | hy
        · exact last.trans left
        · exact full y hy hyo hyt

end

end Sys2Proof.Machine
end

section
/-! Proofs about OUT's sign pass and ZNU's completion (R139, R151, R156, R176). -/

namespace Sys2Proof.Machine

section
variable {s s₀ : State} {z : Fin 32}

/-- What a zone's signs are made of beside the zone: the tables, the round number, the strap and the
refresh period. -/
structure SignsFrom (s₀ s : State) : Prop where
  pju : s.pju = s₀.pju
  round : s.rct.roundNumber = s₀.rct.roundNumber
  strap : s.tif.strap = s₀.tif.strap
  period : s.out.refreshPeriod = s₀.out.refreshPeriod

theorem SignsFrom.signsOf (h : SignsFrom s₀ s) (hz : s.zone z = s₀.zone z) :
    signsOf s z = signsOf s₀ z := by
  unfold Machine.signsOf State.zoneCfg
  rw [h.pju, h.round, h.strap, hz]

theorem offer_strap {t u : Tif} {p : Port} {g : List Frame} (ho : t.offer p g = some u) :
    u.strap = t.strap :=
  (strap_keptByTraffic t.strap).offer p g ho rfl

theorem offer_port {t u : Tif} {p q : Port} {g : List Frame} (ho : t.offer p g = some u)
    (h : q ≠ p) : u.port q = t.port q := by
  rw [Tif.offer_spec] at ho
  split at ho
  · cases ho
    rw [Tif.wake_other _ h, Tif.modPort_other _ _ h]
  · cases ho

/-! ### One zone of the sign pass (R156) -/

/-- The zone with its refresh countdown counted down. -/
theorem signDue_iff (s : State) (z : Fin 32) :
    (s.zone z).countRefresh.signDue = true ↔ DueAt s z := by
  have tuple : (s.zone z).countRefresh.tuple = (s.zone z).tuple := rfl
  unfold Zone.signDue DueAt
  rw [tuple, Bool.or_eq_true, Bool.or_eq_true, bne_iff_ne, beq_iff_eq, or_assoc]
  refine or_congr ne_comm (or_congr ?_ Iff.rfl)
  change (s.zone z).refresh - 1 = 0 ↔ _
  omega

theorem signVisit_disabled (h : s.zoneEnabled z = false) : signVisit s z = s :=
  if_neg (by rw [h]; exact nofun)

theorem signVisit_quiet (hen : s.zoneEnabled z = true) (h : ¬ DueAt s z) :
    signVisit s z = s.setZone z (s.zone z).countRefresh :=
  (if_pos hen).trans (if_neg (mt (signDue_iff s z).mp h))

theorem signVisit_due (hen : s.zoneEnabled z = true) (h : DueAt s z) :
    signVisit s z = match s.tif.offer .field (signsOf s z) with
      | some t => (s.setTif t).setZone z ((s.zone z).countRefresh.signsTaken s.out.refreshPeriod)
      | none => s.setZone z (s.zone z).countRefresh.signsRefused :=
  (if_pos hen).trans (if_pos ((signDue_iff s z).mpr h))

theorem signVisit_out (s : State) (z : Fin 32) : (signVisit s z).out = s.out := by
  unfold signVisit
  dsimp only
  split
  next =>
    split
    next => split <;> rfl
    next => rfl
  next => rfl

theorem signVisit_quayPort (s : State) (z : Fin 32) :
    (signVisit s z).tif.quayPort = s.tif.quayPort := by
  unfold signVisit
  dsimp only
  split
  next =>
    split
    next =>
      split
      next h => exact offer_port (q := .quay) h (by decide)
      next => rfl
    next => rfl
  next => rfl

theorem signVisit_strap (s : State) (z : Fin 32) : (signVisit s z).tif.strap = s.tif.strap := by
  unfold signVisit
  dsimp only
  split
  next =>
    split
    next =>
      split
      next h => exact offer_strap h
      next => rfl
    next => rfl
  next => rfl

theorem SignsFrom.signVisit (h : SignsFrom s₀ s) (z : Fin 32) : SignsFrom s₀ (signVisit s z) := by
  have same := signVisit_signs s z
  exact ⟨same.pju.trans h.pju, by rw [same.rct, h.round], (signVisit_strap s z).trans h.strap,
    by rw [signVisit_out, h.period]⟩

theorem signVisit_other (s : State) (z y : Fin 32) (hy : y ≠ z) :
    (signVisit s z).zone y = s.zone y := by
  unfold signVisit
  dsimp only
  split
  next =>
    split
    next =>
      split
      next => rw [State.zone_setZone, if_neg hy]; rfl
      next => rw [State.zone_setZone, if_neg hy]
    next => rw [State.zone_setZone, if_neg hy]
  next => rfl

/-- The zones whose group the sign pass offers. -/
abbrev SignDue (s : State) (z : Fin 32) : Prop := s.zoneEnabled z = true ∧ DueAt s z

theorem SignsFrom.signDue_iff (h : SignsFrom s₀ s) (hz : s.zone z = s₀.zone z) :
    SignDue s z ↔ SignDue s₀ z := by
  unfold SignDue DueAt
  rw [zoneEnabled_congr h.pju, hz]

/-- The zone after the pass where it offers nothing. -/
def signQuiet (s : State) (z : Fin 32) : Zone :=
  if s.zoneEnabled z then (s.zone z).countRefresh else s.zone z

theorem signVisit_offers (s₀ : State) :
    Offers signVisit s₀ (SignsFrom s₀) (SignDue s₀) (signsOf s₀) State.zone (signQuiet s₀)
      (fun z => (s₀.zone z).countRefresh.signsTaken s₀.out.refreshPeriod)
      (fun z => (s₀.zone z).countRefresh.signsRefused) where
  same _ z h := h.signVisit z
  other := signVisit_other
  passed s z h hz hquiet := by
    rw [← h.signDue_iff hz] at hquiet
    unfold signQuiet
    rw [← zoneEnabled_congr h.pju, ← hz]
    by_cases hen : s.zoneEnabled z = true
    · rw [signVisit_quiet hen fun hd => hquiet ⟨hen, hd⟩, if_pos hen, State.zone_setZone, if_pos rfl]
      exact ⟨rfl, rfl⟩
    · rw [signVisit_disabled ((Bool.not_eq_true _).mp hen), if_neg hen]
      exact ⟨rfl, rfl⟩
  entered s z u h hz hdue ho := by
    obtain ⟨hen, hdue⟩ := (h.signDue_iff hz).mpr hdue
    rw [signVisit_due hen hdue, h.signsOf hz, ho, ← hz, ← h.period]
    refine ⟨rfl, ?_⟩
    dsimp only
    rw [State.zone_setZone, if_pos rfl]
  full s z h hz hdue ho := by
    obtain ⟨hen, hdue⟩ := (h.signDue_iff hz).mpr hdue
    rw [signVisit_due hen hdue, h.signsOf hz, ho, ← hz]
    refine ⟨rfl, ?_⟩
    dsimp only
    rw [State.zone_setZone, if_pos rfl]

/-! ### The pass at ZNU's completion (R139, R156) -/

theorem exec_evaluationComplete (turns : List Turn) (hr : s.resetHeld = none)
    (hstage : s.stage = .done) :
    exec (.evaluationComplete turns) s = .next (evaluationEnds turns s) := by
  refine (whenReleased_free hr).trans (congrArg _ ?_)
  unfold completionTurn
  rw [hstage]

theorem completed_signsFrom (s : State) : SignsFrom s (completed s) := by
  rw [completed_eq]
  exact ⟨rfl, rfl, rfl, rfl⟩

theorem completed_zone (s : State) (z : Fin 32) : (completed s).zone z = s.zone z := by
  rw [completed_eq]
  rfl

theorem completed_tif (s : State) : (completed s).tif = s.tif := by rw [completed_eq]

theorem enabledZones_congr {t : State} (h : t.pju = s.pju) : enabledZones t = enabledZones s := by
  unfold enabledZones
  exact List.filter_congr fun z _ => zoneEnabled_congr h z

/-- With no request waiting, ZNU's completion is OUT's pass over the enabled zones. -/
theorem evaluationEnds_pass (turns : List Turn) (hempty : s.mgu.requests = []) :
    evaluationEnds turns s = (enabledZones s).foldl signVisit (completed s) := by
  rw [evaluationEnds_eq, enabledZones_congr (completed_signsFrom s).pju]
  exact contend_empty signVisit_requests turns _ _ ((completed_requests s).trans hempty)

theorem enabledZones_nodup (s : State) : (enabledZones s).Nodup :=
  (List.nodup_finRange 32).filter _

theorem mem_enabledZones (s : State) (z : Fin 32) :
    z ∈ enabledZones s ↔ s.zoneEnabled z = true := by
  unfold enabledZones
  rw [List.mem_filter]
  simp [indices]

theorem signPass_leaves (hr : Ready s.tif .field) :
    PassLeaves (SignDue s) (signsOf s) State.zone (signQuiet s)
      (fun z => (s.zone z).countRefresh.signsTaken s.out.refreshPeriod)
      (fun z => (s.zone z).countRefresh.signsRefused) (enabledZones s) (completed s)
      ((enabledZones s).foldl signVisit (completed s)) :=
  (signVisit_offers s).foldl (enabledZones_nodup s) (completed_signsFrom s)
    (fun z _ => completed_zone s z) (by rw [completed_tif]; exact hr)

end

/-! ### The completion (R139, R151, R176) -/

section
variable {s : State}

/-- The snapshot that an armed one becomes at the completion (R176). -/
def capturedSnapshot (s : State) : Snapshot :=
  { roundNumber := s.rct.roundNumber
    stations := tableMap (fun _ st => snapStation st) (completedStations s)
    zones := tableMap (fun _ z => snapZone z) s.znu.zones
    ready := true, armed := false }

theorem completed_mgu (s : State) :
    (completed s).mgu =
      if s.mgu.snapshot.armed then { s.mgu with snapshot := capturedSnapshot s } else s.mgu := by
  unfold completed captureSnapshot
  rw [lastDrillEnd_eq]
  change (State.mgu (if s.mgu.snapshot.armed = true then _ else _)) = _
  split
  next => rfl
  next => rfl

theorem completedStations_get (s : State) (i : Fin 48) :
    (completedStations s)[i] =
      if s.znu.drillAtClose = true ∧ (∀ z, (s.zone z).drillTimer = 0) ∧
        (s.station i).health.tookTest = true
      then
        { s.station i with
          health := { (s.station i).health with reseed := true, tookTest := false } }
      else s.station i := by
  have ran : (s.znu.drillAtClose && !s.drillRunning) = true ↔
      s.znu.drillAtClose = true ∧ ∀ z, (s.zone z).drillTimer = 0 := by
    rw [Bool.and_eq_true, Bool.not_eq_true', drillRunning_false_iff]
  unfold completedStations
  by_cases h : (s.znu.drillAtClose && !s.drillRunning) = true
  · rw [if_pos h, tableMap_get]
    obtain ⟨hran, hnone⟩ := ran.mp h
    by_cases ht : (s.station i).health.tookTest = true
    · rw [if_pos ⟨hran, hnone, ht⟩]
      exact if_pos ht
    · rw [if_neg fun hc => ht hc.2.2]
      exact if_neg ht
  · rw [if_neg h, if_neg fun hc => h (ran.mpr ⟨hc.1, hc.2.1⟩)]
    rfl

/-- The last-drill end moves flags that no snapshot shows. -/
theorem snapStation_completed (s : State) (i : Fin 48) :
    snapStation (completedStations s)[i] = snapStation (s.station i) := by
  rw [completedStations_get]
  split <;> rfl

theorem signPass_out (l : List (Fin 32)) (s : State) : (l.foldl signVisit s).out = s.out :=
  List.foldlRecOn l signVisit (motive := fun x => x.out = s.out) rfl
    fun x hx z _ => (signVisit_out x z).trans hx

theorem signPass_quayPort (l : List (Fin 32)) (s : State) :
    (l.foldl signVisit s).tif.quayPort = s.tif.quayPort :=
  List.foldlRecOn l signVisit (motive := fun x => x.tif.quayPort = s.tif.quayPort) rfl
    fun x hx z _ => (signVisit_quayPort x z).trans hx

/-- Settles O49: the completion, then a pass that changes only signs. -/
theorem evaluationEndsClosed : Obligations.EvaluationEndsClosed := by
  refine ⟨fun turns s hr hstage hempty => ?_, fun e b s h => ⟨fun hrun => ?_, fun hconfig => ?_⟩⟩
  · let t := (enabledZones s).foldl signVisit (completed s)
    have signs : SignsOnly (completed s) t := SignsOnly.foldl signVisit_signs _ _
    have done := completed_eq s
    have mgu : t.mgu = if s.mgu.snapshot.armed then { s.mgu with snapshot := capturedSnapshot s }
        else s.mgu := signs.mgu.trans (completed_mgu s)
    refine ⟨t, (exec_evaluationComplete turns hr hstage).trans
      (congrArg _ (evaluationEnds_pass turns hempty)), ?_, ?_, ?_, fun i => ?_, fun harm => ?_,
      fun harm => ?_, fun z hz => ?_, fun z => ?_, ?_, ?_, ?_, ?_, ?_, fun hready => ?_⟩
    · rw [signs.rct, done]
    · rw [signs.stage, done]
    · rw [signs.drillAtClose, done]
    · rw [State.station_congr signs.stu, done]
      exact completedStations_get s i
    · rw [mgu, if_neg (by rw [harm]; exact nofun)]
    · rw [if_pos harm] at mgu
      rw [mgu]
      refine ⟨rfl, rfl, rfl, rfl, fun i => ?_, fun z => ?_⟩
      · exact (tableMap_get _ _ _).trans (snapStation_completed s i)
      · refine (tableMap_get _ _ _).trans ?_
        unfold snapZone flagCode Zone.tuple
        simp only [decide_eq_true_eq]
        rfl
    · have passed := (signVisit_offers s).foldl_other (l := enabledZones s) (y := z)
        (fun hm => by rw [mem_enabledZones, hz] at hm; cases hm) (completed s)
      exact passed.trans (completed_zone s z)
    · have zone := signs.zone z
      rw [completed_zone] at zone
      exact ⟨_, _, _, zone⟩
    · rw [signs.sin, done]
    · rw [signs.plu, done]
    · rw [signs.pju, done]
    · rw [signPass_out, done]
    · rw [signPass_quayPort, completed_tif]
    · rw [(signPass_leaves hready).tif, enqueue_markSlot, completed_tif]
  · refine (whenReleased_free h.released).trans (congrArg _ ?_)
    have running : (takenState e.port s).running = true := (running_iff _).mpr hrun
    refine command_answers (by decide) (.inr (by decide)) h
      (f := fun x => x.setMgu
        { x.mgu with snapshot := { x.mgu.snapshot with ready := false, armed := true } })
      (runCommand_snap.trans (if_pos running)) rfl rfl rfl
  · refine (whenReleased_free h.released).trans (congrArg _ ?_)
    exact command_unchanged (by decide) (.inr (by decide)) h (runCommand_snap.trans
      (if_neg (Bool.eq_false_iff.mp ((not_running_iff (takenState e.port s)).mpr hconfig))))

end

end Sys2Proof.Machine
end

section
/-! Proofs about STOP and the SERVICE signs (R31, R118, R145, R152, R159). -/

namespace Sys2Proof.Machine

section
variable {s s₀ : State} {z : Fin 32}

/-- What a zone's SERVICE signs are made of beside its addresses: the tables and the strap. -/
structure ServiceFrom (s₀ s : State) : Prop where
  pju : s.pju = s₀.pju
  strap : s.tif.strap = s₀.tif.strap

/-- A zone and its service record. -/
def signState (s : State) (z : Fin 32) : Zone × List Byte := (s.zone z, s.out.service[z])

theorem serviceSignsOf_congr (h : s.tif.strap = s₀.tif.strap) (z : Fin 32) (l : List Byte) :
    serviceSignsOf s z l = serviceSignsOf s₀ z l := by
  unfold serviceSignsOf
  rw [h]

/-- The state with a zone's service record replaced. -/
theorem signState_setService (s : State) (z y : Fin 32) (x : Zone) (l : List Byte) :
    signState ((s.setZone z x).setOut { s.out with service := tableSet s.out.service z l }) y =
      if y = z then (x, l) else signState s y := by
  unfold signState
  have zone : ((s.setZone z x).setOut { s.out with service := tableSet s.out.service z l }).zone y =
      (s.setZone z x).zone y := rfl
  rw [zone, State.zone_setZone, State.setOut_out]
  dsimp only
  rw [tableSet_get]
  split <;> rfl

/-! ### One zone's SERVICE signs at STOP (R159) -/

/-- The zones whose SERVICE signs a STOP offers. -/
abbrev ServiceDue (s : State) (z : Fin 32) : Prop :=
  s.zoneEnabled z = true ∧ (s.zoneCfg z).signAddresses ≠ []

theorem serviceVisit_quiet (h : ¬ ServiceDue s z) : serviceVisit s z = s := by
  refine if_neg fun hc => h ?_
  rw [Bool.and_eq_true, Bool.not_eq_true', List.isEmpty_eq_false_iff] at hc
  exact hc

theorem serviceVisit_due (h : ServiceDue s z) :
    serviceVisit s z =
      match s.tif.offer .field (serviceSignsOf s z (s.zoneCfg z).signAddresses) with
      | some t => s.setTif t
      | none =>
        (s.setZone z { s.zone z with signPending := true }).setOut
          { s.out with service := tableSet s.out.service z (s.zoneCfg z).signAddresses } := by
  refine if_pos ?_
  rw [Bool.and_eq_true, Bool.not_eq_true', List.isEmpty_eq_false_iff]
  exact h

/-- What a visit leaves whatever it does: its group goes to the field port, or only the zone and its
service record change. -/
theorem serviceVisit_cases (s : State) (z : Fin 32) :
    serviceVisit s z = s ∨
      (∃ g t, s.tif.offer .field g = some t ∧ serviceVisit s z = s.setTif t) ∨
      ∃ l, serviceVisit s z = (s.setZone z { s.zone z with signPending := true }).setOut
        { s.out with service := tableSet s.out.service z l } := by
  by_cases h : ServiceDue s z
  · rw [serviceVisit_due h]
    cases ho : s.tif.offer .field (serviceSignsOf s z (s.zoneCfg z).signAddresses) with
    | some t => exact .inr (.inl ⟨_, t, ho, rfl⟩)
    | none => exact .inr (.inr ⟨_, rfl⟩)
  · exact .inl (serviceVisit_quiet h)

theorem serviceVisit_strap (s : State) (z : Fin 32) :
    (serviceVisit s z).tif.strap = s.tif.strap := by
  rcases serviceVisit_cases s z with h | ⟨g, t, ho, h⟩ | ⟨l, h⟩
  · rw [h]
  · rw [h]; exact offer_strap ho
  · rw [h]; rfl

theorem serviceVisit_other (s : State) (z y : Fin 32) (hy : y ≠ z) :
    signState (serviceVisit s z) y = signState s y := by
  rcases serviceVisit_cases s z with h | ⟨g, t, ho, h⟩ | ⟨l, h⟩
  · rw [h]
  · rw [h]; rfl
  · rw [h, signState_setService, if_neg hy]

theorem serviceVisit_offers (s₀ : State) :
    Offers serviceVisit s₀ (ServiceFrom s₀) (ServiceDue s₀)
      (fun z => serviceSignsOf s₀ z (s₀.zoneCfg z).signAddresses) signState (signState s₀)
      (signState s₀)
      (fun z => ({ s₀.zone z with signPending := true }, (s₀.zoneCfg z).signAddresses)) where
  same s z h := ⟨(serviceVisit_signs s z).pju.trans h.pju, (serviceVisit_strap s z).trans h.strap⟩
  other := serviceVisit_other
  passed s z h hz hquiet := by
    have cfg : s.zoneCfg z = s₀.zoneCfg z := by unfold State.zoneCfg; rw [h.pju]
    rw [serviceVisit_quiet fun hd => hquiet ?_]
    · exact ⟨rfl, hz⟩
    · unfold ServiceDue at hd ⊢
      rwa [cfg, zoneEnabled_congr h.pju] at hd
  entered s z u h hz hdue ho := by
    have cfg : s.zoneCfg z = s₀.zoneCfg z := by unfold State.zoneCfg; rw [h.pju]
    have due : ServiceDue s z := by
      unfold ServiceDue
      rwa [cfg, zoneEnabled_congr h.pju]
    rw [serviceVisit_due due, serviceSignsOf_congr h.strap, cfg, ho]
    exact ⟨rfl, hz⟩
  full s z h hz hdue ho := by
    have cfg : s.zoneCfg z = s₀.zoneCfg z := by unfold State.zoneCfg; rw [h.pju]
    have due : ServiceDue s z := by
      unfold ServiceDue
      rwa [cfg, zoneEnabled_congr h.pju]
    rw [serviceVisit_due due, serviceSignsOf_congr h.strap, cfg, ho]
    refine ⟨rfl, ?_⟩
    dsimp only
    have zone : s.zone z = s₀.zone z := congrArg Prod.fst hz
    rw [signState_setService, if_pos rfl, zone]

end

/-! ### The SERVICE signs of a STOP (R159) -/

section
variable {s : State} {z : Fin 32}

theorem serviceSigns_entered (s : State) :
    Entered .quay none [] s.tif (serviceSigns s).tif ∧ InboundKept s.tif (serviceSigns s).tif := by
  refine List.foldlRecOn (indices 32) serviceVisit
    (motive := fun x => Entered .quay none [] s.tif x.tif ∧ InboundKept s.tif x.tif)
    ⟨Entered.refl _ _, InboundKept.refl _⟩ fun x ⟨he, hk⟩ z _ => ?_
  rcases serviceVisit_cases x z with h | ⟨g, t, ho, h⟩ | ⟨l, h⟩
  · rw [h]; exact ⟨he, hk⟩
  · rw [h]
    exact ⟨he.after (entered_offer_other (u := t) ho (by decide)),
      hk.trans (inboundKept_offer (u := t) ho)⟩
  · rw [h]; exact ⟨he, hk⟩

/-- No more of a zone changes than its sign-pending flag. -/
theorem serviceSigns_zone (s : State) (z : Fin 32) :
    (serviceSigns s).zone z =
      { s.zone z with signPending := ((serviceSigns s).zone z).signPending } := by
  refine List.foldlRecOn (indices 32) serviceVisit
    (motive := fun x => x.zone z = { s.zone z with signPending := (x.zone z).signPending }) rfl
    fun x hx y _ => ?_
  rcases serviceVisit_cases x y with h | ⟨g, t, ho, h⟩ | ⟨l, h⟩
  · rw [h]; exact hx
  · rw [h]; exact hx
  · have zone : (serviceVisit x y).zone z =
        if z = y then { x.zone y with signPending := true } else x.zone z := by
      rw [h]
      exact State.zone_setZone _ _ _ _
    rw [zone]
    split
    next hzy => subst hzy; rw [hx]
    next => exact hx

theorem indices_nodup (n : Nat) : (indices n).Nodup := List.nodup_finRange n

/-- What the SERVICE signs leave, at a field port that is sending or has nothing to send. -/
theorem serviceSigns_leaves (hr : Ready s.tif .field) :
    PassLeaves (ServiceDue s) (fun z => serviceSignsOf s z (s.zoneCfg z).signAddresses) signState
      (signState s) (signState s)
      (fun z => ({ s.zone z with signPending := true }, (s.zoneCfg z).signAddresses))
      (indices 32) s (serviceSigns s) :=
  (serviceVisit_offers s).foldl (indices_nodup 32) ⟨rfl, rfl⟩ (fun _ _ => rfl) hr

/-! ### STOP (R30, R31) -/

theorem stopRun_signs (s : State) : SignsOnly (stoppedBlocks s) (serviceSigns (stoppedBlocks s)) :=
  serviceSigns_signs _

theorem stopRun_rct (s : State) : (stopRun s).rct = s.rct.stop := by
  rw [stopRun_eq, reevaluate_rct, State.setPju_rct, (stopRun_signs s).rct]
  rfl

theorem stopRun_tif (s : State) : (stopRun s).tif = (serviceSigns (stoppedBlocks s)).tif := by
  rw [stopRun_eq, reevaluate_tif, State.setPju_tif]

theorem stopRun_sin (s : State) : (stopRun s).sin = tableMap (fun _ it => it.emptied) s.sin := by
  rw [stopRun_eq, reevaluate_sin, State.setPju_sin, (stopRun_signs s).sin]
  rfl

theorem stopRun_stu (s : State) : (stopRun s).stu =
    if s.drillRunning then tableMap (fun _ st => st.drillEnded) s.stu else s.stu := by
  rw [stopRun_eq, reevaluate_stu, State.setPju_stu, (stopRun_signs s).stu]
  rfl

theorem stopRun_plu (s : State) : (stopRun s).plu =
    { s.plu with piles := tableMap (fun _ p => p.waiting) s.plu.piles } := by
  rw [stopRun_eq, reevaluate_plu, State.setPju_plu, (stopRun_signs s).plu]
  rfl

theorem stopRun_pju (s : State) : (stopRun s).pju = stoppedPju s.pju := by
  rw [stopRun_eq, reevaluate_pju, State.setPju_pju]

theorem stopRun_stage (s : State) : (stopRun s).stage = .idle := by
  rw [stopRun_eq, reevaluate_stage, State.setPju_stage, (stopRun_signs s).stage]
  rfl

theorem stopRun_mgu (s : State) : (stopRun s).mgu =
    { s.mgu with snapshot := { s.mgu.snapshot with armed := false } } := by
  rw [stopRun_eq, reevaluate_mgu, State.setPju_mgu, (stopRun_signs s).mgu]
  rfl

theorem stoppedBlocks_zone (s : State) (z : Fin 32) :
    (stoppedBlocks s).zone z = (s.zone z).stopped := by
  rw [State.zone]
  exact tableMap_get _ _ _

theorem stopRun_zone (s : State) (z : Fin 32) :
    (stopRun s).zone z = (serviceSigns (stoppedBlocks s)).zone z := by
  rw [stopRun_eq, State.zone_congr (reevaluate_znu _), State.zone_congr (State.setPju_znu _ _)]

/-- In CONFIG the lines are inactive and SVC is active (R161, R162). -/
theorem stopRun_lines (s : State) :
    (∀ n : Fin 8, (stopRun s).out.wl[n] = false) ∧ (stopRun s).out.svc = true := by
  have sound : LinesSound (stopRun s) := by
    rw [stopRun_eq]
    exact linesSound_reevaluate _
  have config : (stopRun s).rct.opState = .config := by
    rw [stopRun_rct]
    rfl
  refine ⟨fun n => Bool.eq_false_iff.mpr fun h => ?_, sound.svc.mpr (.inl config)⟩
  have run := ((sound.lines n).mp h).1
  rw [config] at run
  cases run

theorem stopRun_out (s : State) :
    (stopRun s).out.lines = s.out.lines ∧ (stopRun s).out.refreshPeriod = s.out.refreshPeriod ∧
      (stopRun s).out.panelMode = s.out.panelMode ∧ (stopRun s).out.panel = s.out.panel := by
  have out := (stopRun_signs s).out
  have same := (reevaluate_same ((serviceSigns (stoppedBlocks s)).setPju (stoppedPju s.pju))).out
  rw [State.setPju_out] at same
  rw [stopRun_eq, same, out]
  exact ⟨rfl, rfl, rfl, rfl⟩

theorem stopRun_intake (s : State) (i : Fin 48) : (stopRun s).intake i = (s.intake i).emptied := by
  unfold State.intake
  rw [stopRun_sin]
  exact tableMap_get _ _ _

theorem drillEnded_eq (st : Station) : st.drillEnded =
    if st.health.tookTest = true then
      { st with health := { st.health with reseed := true, tookTest := false } }
    else st := rfl

theorem stopRun_station (s : State) (i : Fin 48) : (stopRun s).station i =
    if s.drillRunning = true ∧ (s.station i).health.tookTest = true then
      { s.station i with
        health := { (s.station i).health with reseed := true, tookTest := false } }
    else s.station i := by
  unfold State.station
  rw [stopRun_stu, ite_and]
  split
  · exact (tableMap_get _ _ _).trans (drillEnded_eq _)
  · rfl

theorem stopRun_pile (s : State) (p : Fin 24) : (stopRun s).pile p = (s.pile p).waiting := by
  have piles := congrArg Plu.piles (stopRun_plu s)
  dsimp only at piles
  rw [State.pile, piles, tableMap_get (fun _ p => p.waiting) s.plu.piles p]
  rfl

theorem stopRun_zoneRests (s : State) (z : Fin 32) : ((stopRun s).zone z).AtRest ∧
    ((stopRun s).zone z).refresh = (s.zone z).refresh ∧
    ((stopRun s).zone z).lastSent = { level := .clear, drill := false, degraded := false } := by
  rw [stopRun_zone, serviceSigns_zone, stoppedBlocks_zone]
  generalize ((serviceSigns (stoppedBlocks s)).zone z).signPending = pending
  obtain ⟨arrivals, xs, level, hold, degraded, drill, effective⟩ := stopped_atRest (s.zone z)
  exact ⟨⟨arrivals, xs, level, hold, degraded, drill, effective⟩, rfl, rfl⟩

theorem stoppedPju_eq (p : Pju) : stoppedPju p =
    { bank0 := p.bank0, bank1 := p.bank1
      activeIs1 := if p.swapPending then !p.activeIs1 else p.activeIs1
      swapPending := false
      feeders := if p.swapPending then feederMasks p.standby.plume else p.feeders
      contributions := [] } := by
  unfold stoppedPju
  cases h : p.swapPending with
  | true =>
    have feeders := exchanged_feeders p
    rw [if_pos rfl, if_pos rfl, if_pos rfl, ← feeders]
    rfl
  | false =>
    obtain ⟨b0, b1, a, w, f, c⟩ := p
    subst h
    rfl

/-- The frames of the SERVICE signs that find room at the field port. -/
def serviceFrames (s : State) : List Frame :=
  (takenOf (ServiceDue s) (fun z => serviceSignsOf s z (s.zoneCfg z).signAddresses) (indices 32)
    s.tif).flatMap fun o => o.2

/-- The SERVICE signs of a STOP enter the field port and no other. -/
theorem serviceSigns_enters (p : Port) (hr : p = .field → Ready s.tif .field) :
    Entered p none (if p = .quay then [] else serviceFrames s) s.tif (serviceSigns s).tif := by
  cases p with
  | quay => exact (serviceSigns_entered s).1
  | field =>
    rw [(serviceSigns_leaves (hr rfl)).tif]
    exact entered_enqueue (hr rfl) _

/-- The tallies' clearing leaves what the ports send and hold. -/
theorem stoppedBlocks_entered (p : Port) (s : State) :
    Entered p none [] s.tif (stoppedBlocks s).tif := entered_clearTallies p s.tif

theorem stopRun_tallies (s : State) : TalliesClear (stopRun s).tif := by
  rw [stopRun_tif]
  exact (talliesClear_cleared s.tif).kept (serviceSigns_entered (stoppedBlocks s)).2

theorem ready_busyOrBare {t : Tif} (hr : Ready t .field) :
    t.fieldPort.sending.isSome = true ∨ t.markSlot = none :=
  hr.imp id fun h => h.2.2.2 rfl

/-- A response leaves the slot of a busy field port, and an empty one empty. -/
theorem enterReserved_markSlot {p : Port} {t : Tif} (f : Frame)
    (h : t.fieldPort.sending.isSome = true ∨ t.markSlot = none) :
    (t.enterReserved p f).markSlot = t.markSlot := by
  rcases h with hbusy | hbare
  · exact (enterReserved_busyField f hbusy).1
  · cases p with
    | field => exact ((entered_enterReserved f).rests rfl rfl hbare).trans hbare.symm
    | quay => exact Tif.wake_quay_markSlot _

/-- A STOP leaves the MARK slot of a field port that is sending or has nothing to send. -/
theorem stopRun_markSlot (hr : Ready s.tif .field) :
    (stopRun s).tif.markSlot = s.tif.markSlot ∧ Ready (stopRun s).tif .field := by
  have ready := (stoppedBlocks_entered .field s).ready hr
  rw [stopRun_tif, (serviceSigns_leaves ready).tif]
  refine ⟨?_, enqueue_ready ready _⟩
  rw [enqueue_markSlot]
  rfl

end

section
variable {e : Envelope} {b : Body} {s : State}

/-- A STOP taken in RUN. -/
theorem exec_stop_run (h : TakesAtOnce e.port s) (hrun : s.rct.opState = .run) :
    Sys2Proof.Machine.exec (.stop e b) s =
      .next (respond (ownRequest 0 3 2 e b s) (echo .ok 2 b 0) (stopRun (takenState e.port s))) := by
  have run : runCommand (ownRequest 0 3 2 e b s) (takenState e.port s) =
      (stopRun (takenState e.port s), echo .ok 2 b 0) := by
    rw [runCommand_stop]
    exact if_pos ((running_iff _).mpr hrun)
  refine (whenReleased_free (f := ask 0 3 2 e b) h.released).trans ?_
  rw [ask_command (by decide) (.inr (by decide)) h, run]

theorem takenState_entered (p q : Port) (s : State) :
    Entered p none [] s.tif (takenState q s).tif := entered_reserve p q s.tif

/-- Settles O17: the fields of `stopRun`, and the response behind the SERVICE signs. -/
theorem stopReturnsToConfig : Obligations.StopReturnsToConfig := by
  intro e b s h
  refine ⟨fun hconfig => ?_, fun hrun => ?_⟩
  · refine (whenReleased_free (f := ask 0 3 2 e b) h.released).trans ?_
    refine congrArg Host.Outcome.next
      (command_unchanged (by decide) (.inr (by decide)) h ?_)
    rw [runCommand_stop]
    exact if_neg (Bool.eq_false_iff.mp ((not_running_iff (takenState e.port s)).mpr hconfig))
  rw [exec_stop_run h hrun]
  have taken (p : Port) : Entered p none [] s.tif (takenState e.port s).tif :=
    takenState_entered p e.port s
  have drill : (takenState e.port s).drillRunning = s.drillRunning := rfl
  have slot : (takenState e.port s).tif.markSlot = s.tif.markSlot := Tif.modPort_markSlot _ _ _
  have rct : (takenState e.port s).rct = s.rct := rfl
  have mgu : (takenState e.port s).mgu = (received s).mgu := rfl
  have pju : (takenState e.port s).pju = s.pju := rfl
  have plu : (takenState e.port s).plu = s.plu := rfl
  have out : (takenState e.port s).out = s.out := rfl
  have intake (i : Fin 48) : (takenState e.port s).intake i = s.intake i := rfl
  have station (i : Fin 48) : (takenState e.port s).station i = s.station i := rfl
  have zone (i : Fin 32) : (takenState e.port s).zone i = s.zone i := rfl
  have pile (i : Fin 24) : (takenState e.port s).pile i = s.pile i := rfl
  generalize takenState e.port s = x at *
  have lines := stopRun_lines x
  have outs := stopRun_out x
  have stopped := stopRun_rct x
  have tallies := stopRun_tallies x
  have mark := stopRun_markSlot (s := x)
  have stage := stopRun_stage x
  have mgus := stopRun_mgu x
  have plus := stopRun_plu x
  have pjus := stopRun_pju x
  have intakes := stopRun_intake x
  have stations := stopRun_station x
  have zones := stopRun_zoneRests x
  have piles := stopRun_pile x
  have signs (hr : e.port = .field → Ready s.tif .field) : Entered e.port none
      (if e.port = .quay then [] else serviceFrames (stoppedBlocks x)) s.tif (stopRun x).tif := by
    rw [stopRun_tif]
    exact ((taken e.port).after (stoppedBlocks_entered _ x)).after (serviceSigns_enters e.port
      fun hp => (stoppedBlocks_entered _ x).ready ((taken .field).ready (hr hp)))
  generalize stopRun x = y at *
  simp only [rct, mgu, pju, plu, out, intake, station, zone, pile, drill, stoppedPju_eq] at *
  obtain ⟨inactive, svc⟩ := lines
  obtain ⟨lines, period, mode, panel⟩ := outs
  refine ⟨_, rfl, stopped, intakes, stations, zones, piles, ?_, pjus, inactive, svc, lines, period,
    mode, panel, stage, mgus, ?_, fun hr => ?_, ?_⟩
  · rw [respond_plu, plus]
  · rw [respond_tif]
    exact TalliesClear.kept tallies (inboundKept_enterReserved _ _ _)
  · obtain ⟨mark, ready⟩ := mark ((taken .field).ready hr)
    rw [respond_tif, enterReserved_markSlot _ (ready_busyOrBare ready), mark, slot]
  by_cases hready : e.port = .field → Ready s.tif .field
  · refine ⟨if e.port = .quay then [] else serviceFrames (stoppedBlocks x), fun hp => if_pos hp, ?_⟩
    have responded := responded_of_entered (u := 0) (op := 3) (table := 2) (b := b)
      (a := echo .ok 2 b 0) (signs hready)
    rw [stopped] at responded
    exact responded
  · rw [Classical.not_imp] at hready
    obtain ⟨hp, hnot⟩ := hready
    refine ⟨[], fun _ => rfl, fun hb => ?_, fun hn => ?_⟩
    · exact absurd (.inl (hp ▸ hb)) hnot
    · exact absurd (.inr (hp ▸ hn)) hnot

end

end Sys2Proof.Machine
end

section
/-! Proofs about the SERVICE signs: what a STOP offers, and what a frame that leaves the field insertion
queue drains (R12, R159). -/

namespace Sys2Proof.Machine

/-! ### STOP (R159) -/

section
variable {s t : State} {p q : Port} {z : Fin 32}

theorem Tif.reserve_room (t : Tif) (p q : Port) :
    ((t.reserve p).port q).room = (t.port q).room - if p = q then 1 else 0 := by
  unfold Tif.reserve
  rw [Tif.port_modPort]
  by_cases h : q = p
  · subst h
    rw [if_pos rfl, if_pos rfl]
    unfold PortState.room
    dsimp only
    omega
  · rw [if_neg h, if_neg fun hpq => h hpq.symm, Nat.sub_zero]

theorem Tif.reserve_sending (t : Tif) (p q : Port) :
    ((t.reserve p).port q).sending = (t.port q).sending := by
  unfold Tif.reserve
  rw [Tif.port_modPort]
  split <;> rfl

theorem stoppedBlocks_room (s : State) (q : Port) :
    ((stoppedBlocks s).tif.port q).room = (s.tif.port q).room ∧
      ((stoppedBlocks s).tif.port q).sending = (s.tif.port q).sending := by
  cases q <;> exact ⟨rfl, rfl⟩

theorem stopRun_service (s : State) (z : Fin 32) :
    (stopRun s).out.service[z] = (serviceSigns (stoppedBlocks s)).out.service[z] := by
  have same := (reevaluate_same ((serviceSigns (stoppedBlocks s)).setPju (stoppedPju s.pju))).out
  rw [State.setPju_out] at same
  rw [stopRun_eq, same]

/-- What a zone's signs are after a STOP: its group is among those taken, or it is pending. -/
theorem stopRun_signState (hr : Ready s.tif .field) (z : Fin 32) :
    let due := ServiceDue (stoppedBlocks s)
    let taken := takenOf due (fun z => serviceSignsOf (stoppedBlocks s) z
      ((stoppedBlocks s).zoneCfg z).signAddresses) (indices 32) (stoppedBlocks s).tif
    (due z → z ∉ taken.map (fun o => o.1) → ((stopRun s).zone z).signPending = true ∧
      (stopRun s).out.service[z] = ((stoppedBlocks s).zoneCfg z).signAddresses) ∧
    (¬ due z ∨ z ∈ taken.map (fun o => o.1) → ((stopRun s).zone z).signPending = false ∧
      (stopRun s).out.service[z] = []) := by
  intro due taken
  have leaves := serviceSigns_leaves ((stoppedBlocks_entered .field s).ready hr)
  have at_z : z ∈ indices 32 := List.mem_finRange z
  have rest : signState (stoppedBlocks s) z = ((s.zone z).stopped, []) := by
    unfold signState
    rw [stoppedBlocks_zone]
    refine Prod.ext rfl ?_
    change (Vector.replicate 32 ([] : List Byte))[z.val] = []
    exact Vector.getElem_replicate _
  rw [stopRun_zone, stopRun_service]
  have read {x : Zone × List Byte} (h : signState (serviceSigns (stoppedBlocks s)) z = x) :
      ((serviceSigns (stoppedBlocks s)).zone z).signPending = x.1.signPending ∧
        (serviceSigns (stoppedBlocks s)).out.service[z] = x.2 := by
    subst h
    exact ⟨rfl, rfl⟩
  refine ⟨fun hdue hnot => read (leaves.full z at_z hdue hnot), fun h => ?_⟩
  have quiet : signState (serviceSigns (stoppedBlocks s)) z = signState (stoppedBlocks s) z := by
    by_cases hdue : due z
    · exact leaves.entered z at_z hdue (h.resolve_left (not_not_intro hdue))
    · exact leaves.passed z at_z hdue
  exact read (quiet.trans rest)

end

/-! ### The drain (R159) -/

section
variable {s s₀ : State} {z : Fin 32}

theorem drainVisit_quiet (h : (s.zone z).signPending = false) : drainVisit s z = s :=
  if_neg (by rw [h]; exact nofun)

theorem drainVisit_pending (h : (s.zone z).signPending = true) :
    drainVisit s z = match s.tif.offer .field (serviceSignsOf s z s.out.service[z]) with
      | some t => ((s.setTif t).setZone z { s.zone z with signPending := false }).setOut
          { s.out with service := tableSet s.out.service z [] }
      | none => s := by
  refine (if_pos h).trans ?_
  have group : serviceGroup s z s.out.service[z] = serviceSignsOf s z s.out.service[z] := rfl
  rw [group] <;> rfl

/-- A drain leaves a zone alone, or its group goes to the field port. -/
theorem drainVisit_cases (s : State) (z : Fin 32) :
    drainVisit s z = s ∨ ∃ g t, s.tif.offer .field g = some t ∧
      drainVisit s z = ((s.setTif t).setZone z { s.zone z with signPending := false }).setOut
        { s.out with service := tableSet s.out.service z [] } := by
  cases h : (s.zone z).signPending with
  | false => exact .inl (drainVisit_quiet h)
  | true =>
    rw [drainVisit_pending h]
    cases ho : s.tif.offer .field (serviceSignsOf s z s.out.service[z]) with
    | some t => exact .inr ⟨_, t, ho, rfl⟩
    | none => exact .inl rfl

theorem drainVisit_offers (s₀ : State) :
    Offers drainVisit s₀ (fun s => s.tif.strap = s₀.tif.strap)
      (fun z => (s₀.zone z).signPending = true)
      (fun z => serviceSignsOf s₀ z s₀.out.service[z]) signState (signState s₀)
      (fun z => ({ s₀.zone z with signPending := false }, [])) (signState s₀) where
  same s z h := by
    rcases drainVisit_cases s z with hv | ⟨g, t, ho, hv⟩
    · rw [hv]; exact h
    · rw [hv]; exact (offer_strap ho).trans h
  other s z y hy := by
    rcases drainVisit_cases s z with hv | ⟨g, t, ho, hv⟩
    · rw [hv]
    · rw [hv]
      have set := signState_setService (s.setTif t) z y { s.zone z with signPending := false } []
      rw [if_neg hy] at set
      exact set
  passed s z h hz hquiet := by
    have zone : s.zone z = s₀.zone z := congrArg Prod.fst hz
    rw [drainVisit_quiet (by rw [zone]; exact Bool.eq_false_iff.mpr hquiet)]
    exact ⟨rfl, hz⟩
  entered s z t h hz hdue ho := by
    have zone : s.zone z = s₀.zone z := congrArg Prod.fst hz
    have service : s.out.service[z] = s₀.out.service[z] := congrArg Prod.snd hz
    rw [drainVisit_pending (by rw [zone]; exact hdue), serviceSignsOf_congr h, service, ho]
    refine ⟨rfl, ?_⟩
    have set := signState_setService (s.setTif t) z z { s.zone z with signPending := false } []
    rw [if_pos rfl, zone] at set
    rw [← zone]
    rw [← zone] at set
    exact set
  full s z h hz hdue ho := by
    have zone : s.zone z = s₀.zone z := congrArg Prod.fst hz
    have service : s.out.service[z] = s₀.out.service[z] := congrArg Prod.snd hz
    rw [drainVisit_pending (by rw [zone]; exact hdue), serviceSignsOf_congr h, service, ho]
    exact ⟨rfl, hz⟩

end

/-- A frame that leaves with no request waiting: OUT drains where it was an insertion frame of the field
port in CONFIG. -/
theorem frameLeft_drains {s : State} {p : Port} {turns : List Turn} (hempty : s.mgu.requests = [])
    (hbusy : (s.tif.port p).sending.isSome = true) :
    frameLeft p turns s =
      (if p = .field ∧ s.running = false ∧
          ((s.tif.select p).port p).queue.length < (s.tif.port p).queue.length then
        pendingZones s else []).foldl drainVisit (s.setTif (s.tif.select p)) := by
  unfold frameLeft
  rw [if_pos hbusy]
  dsimp only
  rw [contend_empty drainVisit_requests turns _ (s.setTif (s.tif.select p)) hempty]
  have running : (s.setTif (s.tif.select p)).running = s.running := rfl
  have pending : pendingZones (s.setTif (s.tif.select p)) = pendingZones s := rfl
  rw [running, pending, State.setTif_tif]
  refine congrArg (List.foldl drainVisit (s.setTif (s.tif.select p))) (if_congr ?_ rfl rfl)
  rw [Bool.and_eq_true, Bool.and_eq_true, beq_iff_eq, Bool.not_eq_true', decide_eq_true_iff,
    and_assoc]

theorem not_drains {s : State} {p : Port} {turns : List Turn} (hempty : s.mgu.requests = [])
    (hbusy : (s.tif.port p).sending.isSome = true)
    (hkept : ((s.tif.select p).port p).queue = (s.tif.port p).queue) :
    frameLeft p turns s = s.setTif (s.tif.select p) := by
  rw [frameLeft_drains hempty hbusy, if_neg, List.foldl_nil]
  rintro ⟨-, -, h⟩
  rw [hkept] at h
  exact Nat.lt_irrefl _ h

/-- What a STOP offers in the state it is taken in. -/
theorem stopped_takenOf (p : Port) (s : State) :
    takenOf (ServiceDue (stoppedBlocks (takenState p s)))
      (fun z => serviceSignsOf (stoppedBlocks (takenState p s)) z
        ((stoppedBlocks (takenState p s)).zoneCfg z).signAddresses)
      (indices 32) (stoppedBlocks (takenState p s)).tif =
    groupsTaken s.tif.fieldPort.sending.isNone
      (s.tif.fieldPort.room - if p = .field then 1 else 0)
      (((List.finRange 32).filter fun z =>
        s.zoneEnabled z = true ∧ (s.zoneCfg z).signAddresses ≠ []).map fun z =>
          (z, serviceSignsOf s z (s.zoneCfg z).signAddresses)) := by
  obtain ⟨room, sending⟩ := stoppedBlocks_room (takenState p s) .field
  have strap : (stoppedBlocks (takenState p s)).tif.strap = s.tif.strap := by cases p <;> rfl
  have taken : (takenState p s).tif = s.tif.reserve p := rfl
  unfold takenOf
  rw [room, sending, taken, Tif.reserve_room, Tif.reserve_sending]
  simp only [serviceSignsOf_congr strap]
  rfl

/-- The response to a STOP, with the round number 0 that CONFIG has. -/
theorem stopped_response (e : Envelope) (b : Body) (s y : State) (hround : y.rct.roundNumber = 0) :
    (respond (ownRequest 0 3 2 e b s) (echo .ok 2 b 0) y).tif =
      y.tif.enterReserved e.port (responseTo 0 e 0 (echo .ok 2 b 0) s) := by
  rw [respond_tif, hround]
  rfl

theorem answered_enters (p : Port) (f : Frame) (t : Tif) :
    Entered .field none (if p = .field then [f] else []) t (t.enterReserved p f) := by
  cases p with
  | field => exact entered_enterReserved f
  | quay => exact entered_append_other _ (by decide)

/-- Settles O52: the SERVICE signs and the drain are passes of groups offered to the field port. -/
theorem serviceSignsGoOutAtStop : Obligations.ServiceSignsGoOutAtStop := by
  refine ⟨fun e b s h hrun hr => ?_, fun turns s f rest hr hconfig hempty hbusy hmark hq ht => ?_,
    fun turns s hr hconfig hempty hbusy hfirst => ?_⟩
  case refine_1 =>
    intro signs own taken
    have room : own.length = if e.port = .field then 1 else 0 := by
      unfold own
      split <;> rfl
    have enters : Entered .field none [] s.tif (takenState e.port s).tif :=
      takenState_entered .field e.port s
    have ready : Ready (takenState e.port s).tif .field := enters.ready hr
    have offered := stopped_takenOf e.port s
    rw [← room] at offered
    have states := stopRun_signState ready
    dsimp only at states
    rw [offered] at states
    have due (z : Fin 32) : ServiceDue (stoppedBlocks (takenState e.port s)) z = signs z := rfl
    have cfg (z : Fin 32) : (stoppedBlocks (takenState e.port s)).zoneCfg z = s.zoneCfg z := rfl
    simp only [due, cfg] at states
    have round : (stopRun (takenState e.port s)).rct.roundNumber = 0 := by
      rw [stopRun_rct]
      rfl
    have signed := (enters.after (stoppedBlocks_entered _ (takenState e.port s))).after
      (serviceSigns_enters .field fun _ => (stoppedBlocks_entered _ _).ready ready)
    rw [← stopRun_tif] at signed
    have answer := stopped_response e b s _ round
    have enters := signed.trans (answered_enters e.port (responseTo 0 e 0 (echo .ok 2 b 0) s) _)
    have frames : serviceFrames (stoppedBlocks (takenState e.port s)) =
        taken.flatMap fun o => o.2 := by
      unfold serviceFrames
      rw [offered]
    rw [← answer, if_neg (by decide), frames] at enters
    refine ⟨_, exec_stop_run h hrun, enters.queued, ?_⟩
    generalize stopRun (takenState e.port s) = y at states
    exact states
  case refine_2 =>
    intro pending taken
    have select : s.tif.select .field = s.tif.modPort .field fun ps => ps.takeInsertion f rest := by
      rw [Tif.select_sources _ .field hmark]
      exact Tif.modPort_congr (PortState.select_insertion hq ht)
    let x := s.setTif (s.tif.select .field)
    have port : x.tif.fieldPort = s.tif.fieldPort.takeInsertion f rest := by
      change (s.tif.select .field).fieldPort = _
      rw [select]
      rfl
    have drains : frameLeft .field turns s = (pendingZones s).foldl drainVisit x := by
      rw [frameLeft_drains (p := .field) hempty hbusy, if_pos]
      refine ⟨rfl, (not_running_iff s).mpr hconfig, ?_⟩
      change x.tif.fieldPort.queue.length < s.tif.fieldPort.queue.length
      rw [port, hq]
      exact Nat.lt_succ_self _
    refine ⟨_, whenReleased_free (f := frameLeft .field turns) hr, ?_⟩
    rw [drains]
    have zones : (pendingZones s).Nodup := (indices_nodup 32).filter _
    have busy : (x.tif.port .field).sending.isSome = true := by
      change x.tif.fieldPort.sending.isSome = true
      rw [port]
      rfl
    have leaves := (drainVisit_offers x).foldl zones (s := x) rfl (fun _ _ => rfl) (.inl busy)
    have same := SignsOnly.foldl drainVisit_signs (pendingZones s) x
    have groups : takenOf (fun z => (x.zone z).signPending = true)
        (fun z => serviceSignsOf x z x.out.service[z]) (pendingZones s) x.tif = taken := by
      have strap : x.tif.strap = s.tif.strap := by
        change (s.tif.select .field).strap = _
        rw [select]
        exact Tif.modPort_strap _ _ _
      have idle : (x.tif.port .field).sending.isNone = false := by
        cases hs : (x.tif.port .field).sending with
        | none => rw [hs] at busy; cases busy
        | some f => rfl
      have room : (x.tif.port .field).room = 16 - rest.length - s.tif.fieldPort.reserved := by
        change x.tif.fieldPort.room = _
        rw [port]
        rfl
      have all : (pendingZones s).filter (fun z => (x.zone z).signPending = true) = pending := by
        refine List.filter_eq_self.mpr fun z hz => ?_
        exact decide_eq_true (List.mem_filter.mp hz).2
      unfold takenOf groupsOf
      rw [idle, room, all]
      simp only [serviceSignsOf_congr strap]
      rfl
    have others (z : Fin 32) (hz : z ∉ pendingZones s) := (drainVisit_offers x).foldl_other hz x
    have visited (z : Fin 32) (hz : z ∈ taken.map fun o => o.1) : z ∈ pendingZones s :=
      mem_of_mem_takenOf (groups ▸ hz)
    have waits (z : Fin 32) (hz : z ∈ pendingZones s) : (x.zone z).signPending = true :=
      (List.mem_filter.mp hz).2
    obtain ⟨tif, -, entered, full⟩ := leaves
    rw [groups] at tif entered full
    rw [enqueue_busy busy] at tif
    generalize (pendingZones s).foldl drainVisit x = y at *
    have field : y.tif.fieldPort = { x.tif.fieldPort with
        queue := x.tif.fieldPort.queue ++ taken.flatMap fun o => o.2 } := by
      rw [tif]
      rfl
    have read {z : Fin 32} {w : Zone × List Byte} (h : signState y z = w) :
        y.zone z = w.1 ∧ y.out.service[z] = w.2 := by
      subst h
      exact ⟨rfl, rfl⟩
    refine ⟨?_, ?_, fun z => ⟨fun hz => ?_, fun hz => ?_⟩, same.rct, same.sin, same.stu, same.plu,
      same.pju, same.mgu⟩
    · rw [field, port]
      rfl
    · rw [field, port]
      rfl
    · exact read (entered z (visited z hz) (waits z (visited z hz)) hz)
    · by_cases hp : z ∈ pendingZones s
      · exact read (full z hp (waits z hp) hz)
      · exact read (others z hp)
  case refine_3 =>
    have kept : ((s.tif.select .field).port .field).queue = (s.tif.port .field).queue := by
      cases hm : s.tif.markSlot with
      | some m =>
        rw [Tif.select_mark _ .field m hm]
        rfl
      | none =>
        obtain ⟨htransit, h⟩ := hfirst.resolve_left (not_not_intro hm)
        obtain ⟨g, l, ht⟩ := List.exists_cons_of_ne_nil htransit
        rw [Tif.select_sources _ .field hm, Tif.port_modPort, if_pos rfl,
          PortState.select_transit (ps := s.tif.port .field) ht h]
        rfl
    refine ⟨_, whenReleased_free (f := frameLeft .field turns) hr, ?_⟩
    rw [not_drains (p := .field) hempty hbusy kept]
    exact ⟨kept, rfl, rfl, rfl⟩

end Sys2Proof.Machine
end

section
/-! Proofs about OUT's sign pass and a command that MGU takes beside it (R12, R156, R157, R168). -/

namespace Sys2Proof.Machine

/-! ### A command that is no COPY (R169, R171) -/

section
variable {r : Request} {s : State}

theorem takeRequest_command (hop : r.op = 3) (hcopy : r.isCopy = false) :
    takeRequest r s =
      respond r (runCommand r (s.setTif (s.tif.reserve r.port))).2
        (runCommand r (s.setTif (s.tif.reserve r.port))).1 := by
  unfold takeRequest runRequest
  dsimp only
  rw [hcopy, hop]
  rfl

theorem notCopy_of_unit (h : r.unit ≠ 0 ∨ r.table ≠ 5) : r.isCopy = false := by
  unfold Request.isCopy
  rcases h with h | h
  · rw [beq_eq_false_iff_ne.mpr h, Bool.and_false, Bool.false_and]
  · rw [beq_eq_false_iff_ne.mpr h, Bool.and_false]

/-- A STOP that MGU takes in RUN. -/
theorem takeRequest_stop (hop : r.op = 3) (hunit : r.unit = 0) (htable : r.table = 2)
    (hrun : s.running = true) :
    takeRequest r s =
      respond r (r.reply .ok 0) (stopRun (s.setTif (s.tif.reserve r.port))) := by
  have copy : r.isCopy = false := notCopy_of_unit (.inr (by rw [htable]; decide))
  have running : (s.setTif (s.tif.reserve r.port)).running = true := hrun
  have run : runCommand r (s.setTif (s.tif.reserve r.port)) =
      (stopRun (s.setTif (s.tif.reserve r.port)), r.reply .ok 0) := by
    unfold runCommand
    rw [hunit, htable]
    exact if_pos running
  rw [takeRequest_command hop copy, run]

end

theorem respond_mgu (r : Request) (a : Reply) (s : State) : (respond r a s).mgu = s.mgu := rfl

/-! ### The room of a visit (R12, R14) -/

section
variable {t u : Tif} {p : Port} {g : List Frame} {s : State} {z : Fin 32}

/-- A port has room or is sending: at such a port no room comes back while OUT makes its visits. -/
def RoomOrBusy (t : Tif) (p : Port) : Prop := 1 ≤ (t.port p).room ∨ (t.port p).sending.isSome = true

/-- A port that selects sends, or has nothing in its queue. -/
theorem PortState.select_sends (ps : PortState) :
    ps.select.sending.isSome = true ∨
      (ps.transit = [] ∧ ps.queue = []) := by
  cases ht : ps.transit with
  | cons f fs =>
    left
    unfold PortState.select
    rw [ht]
    cases ps.queue with
    | nil => rfl
    | cons q qs => cases ps.lastTaken <;> rfl
  | nil =>
    cases hq : ps.queue with
    | nil => exact .inr ⟨rfl, rfl⟩
    | cons q qs =>
      left
      unfold PortState.select
      rw [ht, hq]
      rfl

/-- A port that has room and wakes is sending, or has its room still. -/
theorem wake_roomOrBusy (hroom : (t.port p).queue = [] → 1 ≤ (t.port p).room) :
    RoomOrBusy (t.wake p) p := by
  by_cases hbusy : (t.port p).sending.isSome = true
  · rw [Tif.wake_busy _ _ hbusy]
    exact .inr hbusy
  rw [Tif.wake_idle _ _ (by simpa using hbusy)]
  cases hm : t.markFor p with
  | some m =>
    rw [Tif.select_mark _ p m hm]
    exact .inr (by rw [Tif.port_modPort, if_pos rfl]; rfl)
  | none =>
    rw [Tif.select_sources _ p hm]
    unfold RoomOrBusy
    rw [Tif.port_modPort, if_pos rfl]
    rcases (t.port p).select_sends with h | ⟨ht, hq⟩
    · exact .inr h
    · rw [PortState.select_nothing ht hq]
      exact .inl (hroom hq)

/-- An offer to a port with room, or that is sending, leaves it so, and no room comes back. -/
theorem RoomOrBusy.offer (h : RoomOrBusy t p) {q : Port} (ho : t.offer q g = some u) :
    RoomOrBusy u p ∧ ((t.port p).room = 0 → (u.port p).room = 0) := by
  by_cases hp : p = q
  case neg =>
    have same := offer_port ho hp
    unfold RoomOrBusy at h ⊢
    rw [same]
    exact ⟨h, id⟩
  subst hp
  rw [Tif.offer_spec] at ho
  split at ho
  case isFalse => cases ho
  case isTrue fits =>
    cases ho
    have port : (t.modPort p fun ps => { ps with queue := ps.queue ++ g }).port p =
        { t.port p with queue := (t.port p).queue ++ g } := by rw [Tif.port_modPort, if_pos rfl]
    by_cases hbusy : (t.port p).sending.isSome = true
    · have waits := Tif.wake_busy (t.modPort p fun ps => { ps with queue := ps.queue ++ g }) p
        (by rw [port]; exact hbusy)
      rw [waits]
      unfold RoomOrBusy
      rw [port]
      refine ⟨.inr hbusy, fun hzero => ?_⟩
      unfold PortState.room at hzero ⊢
      dsimp only
      rw [List.length_append]
      omega
    · have room := h.resolve_right hbusy
      refine ⟨wake_roomOrBusy fun hq => ?_, fun hzero => by omega⟩
      rw [port] at hq ⊢
      have empty := List.append_eq_nil_iff.mp hq
      unfold PortState.room at room ⊢
      dsimp only
      rw [empty.1, empty.2, List.append_nil]
      rw [empty.1] at room
      exact room

/-- A visit of the sign pass changes TIF by an offer, if at all. -/
theorem signVisit_tif (s : State) (z : Fin 32) :
    (signVisit s z).tif = s.tif ∨
      ∃ g, s.tif.offer .field g = some (signVisit s z).tif := by
  by_cases hen : s.zoneEnabled z = true
  case neg => rw [signVisit_disabled ((Bool.not_eq_true _).mp hen)]; exact .inl rfl
  by_cases hdue : DueAt s z
  case neg => rw [signVisit_quiet hen hdue]; exact .inl rfl
  rw [signVisit_due hen hdue]
  cases ho : s.tif.offer .field (signsOf s z) with
  | some t => exact .inr ⟨_, ho⟩
  | none => exact .inl rfl

/-! ### A STOP beside the sign pass (R156, R168) -/

/-- MGU's one waiting request and what decides whether it may be taken, beside the room. -/
structure Waiting (r : Request) (s : State) : Prop where
  requests : s.mgu.requests = [r]
  executing : s.mgu.executing = none
  running : s.running = true
  phase : s.rct.phase ≠ .evaluating
  room : RoomOrBusy s.tif r.port

variable {r : Request}

theorem Waiting.canTake_iff (h : Waiting r s) :
    canTake r s = true ↔ 1 ≤ (s.tif.port r.port).room := by
  unfold canTake
  rw [h.executing, Bool.and_eq_true, Bool.and_eq_true, decide_eq_true_iff, bne_iff_ne]
  exact ⟨fun hc => hc.2, fun hroom => ⟨⟨rfl, h.phase⟩, hroom⟩⟩

theorem Waiting.visit (h : Waiting r s) (z : Fin 32) :
    Waiting r (signVisit s z) ∧ (canTake r s = false → canTake r (signVisit s z) = false) := by
  have signs := signVisit_signs s z
  have tif : RoomOrBusy (signVisit s z).tif r.port ∧
      ((s.tif.port r.port).room = 0 → ((signVisit s z).tif.port r.port).room = 0) := by
    rcases signVisit_tif s z with same | ⟨g, ho⟩
    · rw [same]; exact ⟨h.room, id⟩
    · exact h.room.offer ho
  have after : Waiting r (signVisit s z) :=
    ⟨by rw [signs.mgu]; exact h.requests, by rw [signs.mgu]; exact h.executing,
      by unfold State.running; rw [signs.rct]; exact h.running,
      by rw [signs.rct]; exact h.phase, tif.1⟩
  refine ⟨after, fun hno => ?_⟩
  rw [Bool.eq_false_iff, Ne, h.canTake_iff] at hno
  rw [Bool.eq_false_iff, Ne, after.canTake_iff, tif.2 (by omega)]
  omega

theorem Waiting.pass (h : Waiting r s) (todo : List (Fin 32)) :
    Waiting r (todo.foldl signVisit s) ∧
      (canTake r s = false →
        canTake r (todo.foldl signVisit s) = false) := by
  induction todo generalizing s with
  | nil => exact ⟨h, id⟩
  | cons z todo ih =>
    obtain ⟨first, kept⟩ := h.visit z
    exact ⟨(ih first).1, fun hno => (ih first).2 (kept hno)⟩

theorem Waiting.look_same (h : Waiting r s) (hno : canTake r s = false) : look s = s :=
  look_waits s fun r' rest hr => by
    rw [h.requests] at hr
    cases hr
    exact hno

/-- A STOP that MGU's look takes ends RUN and leaves no request. -/
theorem Waiting.look_stop (h : Waiting r s) (hop : r.op = 3) (hunit : r.unit = 0)
    (htable : r.table = 2) (htake : canTake r s = true) :
    look s = takeRequest r (withRequests [] s) ∧ (look s).running = false ∧
      (look s).mgu.requests = [] := by
  have taken : look s = takeRequest r (withRequests [] s) := look_takes s r [] h.requests htake
  refine ⟨taken, ?_⟩
  have running : (withRequests [] s).running = true := h.running
  rw [taken, takeRequest_stop hop hunit htable running]
  refine ⟨(not_running_iff _).mpr ?_, ?_⟩
  · rw [respond_rct, stopRun_rct]
    rfl
  · rw [respond_mgu, stopRun_mgu]
    rfl

/-- Looks that find nothing to take, and no visit left: the turns change nothing. -/
theorem interleave_rests {visit : State → Fin 32 → State} (hs : look s = s) (turns : List Turn)
    (begun : Bool) : interleave visit turns begun [] s = s := by
  induction turns generalizing begun with
  | nil => rfl
  | cons turn turns ih =>
    cases turn with
    | out => exact ih begun
    | mgu =>
      unfold interleave
      dsimp only
      rw [hs, if_pos rfl]
      exact ih begun

/-- A STOP that waits while the pass has begun is taken after the whole pass, if at all. -/
theorem interleave_stop (hop : r.op = 3) (hunit : r.unit = 0) (htable : r.table = 2)
    (turns : List Turn) (todo : List (Fin 32)) (h : Waiting r s) :
    interleave signVisit turns true todo s =
      if turns.contains .mgu then look (todo.foldl signVisit s) else todo.foldl signVisit s := by
  induction turns generalizing todo s with
  | nil => rfl
  | cons turn turns ih =>
    cases turn with
    | out =>
      have contains : (Turn.out :: turns).contains .mgu = turns.contains .mgu := rfl
      rw [contains]
      cases todo with
      | nil => exact ih [] h
      | cons z todo => exact ih todo (h.visit z).1
    | mgu =>
      have contains : (Turn.mgu :: turns).contains .mgu = true := rfl
      rw [contains, if_pos rfl]
      unfold interleave
      dsimp only
      obtain ⟨last, kept⟩ := h.pass todo
      cases htake : canTake r s with
      | true =>
        obtain ⟨-, stops, -⟩ := h.look_stop hop hunit htable htake
        rw [if_neg (by rw [stops, h.running]; exact nofun), if_pos rfl]
        refine interleave_rests ?_ turns true
        cases hlast : canTake r (todo.foldl signVisit s) with
        | true => exact look_empty _ (last.look_stop hop hunit htable hlast).2.2
        | false => rw [last.look_same hlast, last.look_same hlast]
      | false =>
        rw [h.look_same htake, if_pos rfl, ih todo h, last.look_same (kept htake), ite_self]

/-! ### A DRILL before the sign pass (R139, R156, R168) -/

/-- RCT and the stage at ZNU's completion, where no drill has ended and no snapshot is armed. -/
def State.closing (s : State) : State :=
  (s.setRct { s.rct with phase := .closed, closeTimer := none }).setStage .idle

theorem completed_closing (hdrill : s.znu.drillAtClose = false)
    (harmed : s.mgu.snapshot.armed = false) : completed s = s.closing := by
  have stations : completedStations s = s.stu := by
    unfold completedStations
    rw [hdrill]
    rfl
  have znu : { s.znu with drillAtClose := false } = s.znu := by rw [← hdrill]
  have mgu := completed_mgu s
  rw [harmed, if_neg (by decide)] at mgu
  rw [completed_eq, stations, znu, mgu]
  rfl

theorem closing_unseen : Unseen State.closing :=
  ⟨fun _ => rfl, fun _ => rfl, fun _ => rfl, fun _ _ => rfl, fun _ _ => rfl⟩

theorem drillZones_closing (half : Nat) (mask : Word) (d : Nat) (s : State) :
    drillZones half mask d s.closing = (drillZones half mask d s).closing := by
  have set : drillSet half mask d s.closing = (drillSet half mask d s).closing := rfl
  have starts : drillStarts half mask d s.closing = drillStarts half mask d s := rfl
  rw [drillZones_eq, drillZones_eq, set, starts, closing_unseen.raiseAll]
  rfl

theorem runDrill_closing (r : Request) (s : State) :
    runDrill r s.closing = ((runDrill r s).1.closing, (runDrill r s).2) := by
  unfold runDrill
  have running : s.closing.running = s.running := rfl
  have sets : drillSets r.body.field.toNat r.body.data s.closing =
    drillSets r.body.field.toNat r.body.data s := rfl
  dsimp only
  rw [running, sets, drillZones_closing]
  split
  next => rfl
  next => split <;> rfl

theorem respond_closing (a : Reply) (s : State) :
    respond r a s.closing = (respond r a s).closing := rfl

/-- A DRILL that MGU takes. -/
theorem takeRequest_drill (hop : r.op = 3) (hunit : r.unit = 3) (htable : r.table = 2) :
    takeRequest r s =
      respond r (runDrill r (s.setTif (s.tif.reserve r.port))).2
        (runDrill r (s.setTif (s.tif.reserve r.port))).1 := by
  have run (x : State) : runCommand r x = runDrill r x := by
    unfold runCommand
    rw [hunit, htable]
    rfl
  rw [takeRequest_command hop (notCopy_of_unit (.inl (by rw [hunit]; decide))), run]

theorem takeDrill_closing (hop : r.op = 3) (hunit : r.unit = 3) (htable : r.table = 2) :
    takeRequest r s.closing = (takeRequest r s).closing := by
  have reserved : s.closing.setTif (s.closing.tif.reserve r.port) =
      (s.setTif (s.tif.reserve r.port)).closing := rfl
  rw [takeRequest_drill hop hunit htable, takeRequest_drill hop hunit htable, reserved,
    runDrill_closing, respond_closing]

/-- What a DRILL leaves as it was. -/
structure DrillKeeps (s t : State) : Prop where
  resetHeld : t.resetHeld = s.resetHeld
  stage : t.stage = s.stage
  rct : t.rct = s.rct
  drillAtClose : t.znu.drillAtClose = s.znu.drillAtClose
  requests : t.mgu.requests = s.mgu.requests
  armed : t.mgu.snapshot.armed = s.mgu.snapshot.armed
  pju : t.pju = s.pju

theorem drillZones_keeps (half : Nat) (mask : Word) (d : Nat) (s : State) :
    DrillKeeps s (drillZones half mask d s) := by
  obtain ⟨-, resetHeld, rct, -, -, -, pju, znu, stage, -, mgu⟩ := drillZones_same half mask d s
  have drill : (drillSet half mask d s).znu.drillAtClose = s.znu.drillAtClose := by
    rw [drillSet, State.mapZones, State.setZnu_znu]
  rw [← znu] at drill
  simp only [drillSet, State.mapZones_rct, State.mapZones_pju, State.mapZones_stage,
    State.mapZones_mgu, State.mapZones_resetHeld] at resetHeld rct pju stage mgu
  generalize drillZones half mask d s = y at *
  exact ⟨resetHeld, stage, rct, drill, by rw [mgu], by rw [mgu], pju⟩

theorem takeDrill_keeps (hop : r.op = 3) (hunit : r.unit = 3) (htable : r.table = 2) :
    DrillKeeps s (takeRequest r s) := by
  have run (x : State) : DrillKeeps x (runDrill r x).1 := by
    unfold runDrill
    dsimp only
    split
    next => exact ⟨rfl, rfl, rfl, rfl, rfl, rfl, rfl⟩
    next =>
      split
      next => exact drillZones_keeps _ _ _ x
      next => exact ⟨rfl, rfl, rfl, rfl, rfl, rfl, rfl⟩
  rw [takeRequest_drill hop hunit htable]
  obtain ⟨resetHeld, stage, rct, drill, requests, armed, pju⟩ :=
    run (s.setTif (s.tif.reserve r.port))
  generalize runDrill r (s.setTif (s.tif.reserve r.port)) = y at *
  exact ⟨resetHeld, stage, rct, drill, requests, armed, pju⟩

/-- A request that may be taken at ZNU's completion. -/
theorem completed_waiting (hrun : s.rct.opState = .run) (hreq : s.mgu.requests = [r])
    (hexec : s.mgu.executing = none) (hroom : 1 ≤ (s.tif.port r.port).room) :
    Waiting r (completed s) := by
  have rct : (completed s).rct = { s.rct with phase := .closed, closeTimer := none } := by
    rw [completed_eq]
  have phase : (completed s).rct.phase = .closed := by rw [rct]
  refine ⟨(completed_requests s).trans hreq, (completed_executing s).trans hexec,
    (running_iff _).mpr (by rw [rct]; exact hrun), by rw [phase]; decide, .inl ?_⟩
  rw [completed_tif]
  exact hroom

end

/-! ### OUT's sign pass (R12, R156) -/

section
variable {s : State} {r : Request}

/-- The groups of the pass are those of the due zones. -/
theorem signPass_taken (s : State) :
    takenOf (SignDue s) (signsOf s) (enabledZones s) (completed s).tif =
      groupsTaken s.tif.fieldPort.sending.isNone s.tif.fieldPort.room
        (((List.finRange 32).filter fun z => s.zoneEnabled z = true ∧ DueAt s z).map fun z =>
          (z, signsOf s z)) := by
  have due : (enabledZones s).filter (fun z => SignDue s z) =
      (List.finRange 32).filter fun z => s.zoneEnabled z = true ∧ DueAt s z := by
    unfold enabledZones indices
    rw [List.filter_filter]
    refine List.filter_congr fun z _ => ?_
    by_cases hen : s.zoneEnabled z = true
    · simp [SignDue, hen]
    · simp [SignDue, hen]
  unfold takenOf groupsOf
  rw [completed_tif, due]
  rfl

/-- Settles O51: the pass is one of groups offered to the field port; a STOP ends it or comes after it,
and a DRILL taken first commutes with the completion. -/
theorem signPassOffersDueZones : Obligations.SignPassOffersDueZones := by
  refine ⟨fun turns s hr hstage hempty hready => ?_,
    fun turns r s hr hstage hreq hexec hroom hop => ⟨fun hunit htable hrun hen => ?_,
      fun hunit htable hrun => ?_, fun hunit htable hdrill harmed => ?_⟩⟩
  case refine_1 =>
    intro due taken counted sent
    have leaves := signPass_leaves hready
    obtain ⟨tif, passed, entered, full⟩ := leaves
    rw [signPass_taken] at tif entered full
    refine ⟨_, (exec_evaluationComplete turns hr hstage).trans
      (congrArg _ (evaluationEnds_pass turns hempty)), fun z hen hnot => ?_, ?_, fun z hdue => ?_⟩
    · have quiet := passed z ((mem_enabledZones s z).mpr hen) hnot
      rw [quiet, signQuiet, if_pos hen]
      rfl
    · rw [tif, completed_tif]
    · have visited := (mem_enabledZones s z).mpr hdue.1
      by_cases ht : z ∈ taken.map fun o => o.1
      · rw [if_pos ht]
        exact entered z visited hdue ht
      · rw [if_neg ht]
        exact full z visited hdue ht
  all_goals rw [exec_evaluationComplete _ hr hstage]
  case refine_2 =>
    rw [exec_evaluationComplete _ hr hstage]
    refine congrArg _ ?_
    have waits := completed_waiting hrun hreq hexec hroom
    rw [evaluationEnds_eq, evaluationEnds_eq]
    obtain ⟨z, hen⟩ := hen
    have some : enabledZones (completed s) ≠ [] := by
      rw [enabledZones_congr (completed_signsFrom s).pju]
      exact List.ne_nil_of_mem ((mem_enabledZones s z).mpr hen)
    obtain ⟨first, todo, hlist⟩ := List.exists_cons_of_ne_nil some
    rw [hlist]
    have began := interleave_stop hop hunit htable turns todo (waits.visit first).1
    have contains : (Turn.out :: turns).contains .mgu = turns.contains .mgu := rfl
    unfold contend
    rw [contains]
    change (if turns.contains .mgu then interleave signVisit turns true todo _ else
      look (interleave signVisit turns true todo _)) = look _
    rw [began]
    split <;> rfl
  case refine_3 =>
    have waits := completed_waiting hrun hreq hexec hroom
    have takes : canTake r (completed s) = true :=
      waits.canTake_iff.mpr (by rw [completed_tif]; exact hroom)
    obtain ⟨taken, stops, empty⟩ := waits.look_stop hop hunit htable takes
    have ends : evaluationEnds (.mgu :: turns) s = look (completed s) := by
      rw [evaluationEnds_eq]
      unfold contend
      have contains : (Turn.mgu :: turns).contains .mgu = true := rfl
      dsimp only
      rw [contains, if_pos rfl]
      unfold interleave
      dsimp only
      rw [if_neg (by rw [stops, waits.running]; exact nofun), if_neg (by decide)]
      exact interleave_rests (look_empty _ empty) turns false
    refine ⟨_, rfl, ?_, fun z => ?_⟩
    · rw [ends]
      exact (not_running_iff _).mp stops
    · rw [ends, taken]
      have running : (withRequests [] (completed s)).running = true := waits.running
      rw [takeRequest_stop hop hunit htable running]
      have zone : ((withRequests [] (completed s)).setTif
          ((withRequests [] (completed s)).tif.reserve r.port)).zone z = s.zone z :=
        completed_zone s z
      have rests := (stopRun_zoneRests ((withRequests [] (completed s)).setTif
        ((withRequests [] (completed s)).tif.reserve r.port)) z).2.1
      rw [zone] at rests
      generalize stopRun _ = y at rests ⊢
      exact rests
  case refine_4 =>
    have closing := completed_closing hdrill harmed
    have empties : withRequests [] s.closing = (withRequests [] s).closing := rfl
    have takes : canTake r s.closing = true := by
      unfold canTake
      change (s.mgu.executing.isNone && Phase.closed != .evaluating &&
        decide (1 ≤ (s.tif.port r.port).room)) = true
      rw [hexec, decide_eq_true hroom]
      rfl
    have looks : look (completed s) = (takeRequest r (withRequests [] s)).closing := by
      rw [closing, look_takes s.closing r [] hreq takes]
      exact takeDrill_closing (s := withRequests [] s) hop hunit htable
    obtain ⟨resetHeld, stage, rct, drill, requests, armed, pju⟩ :=
      takeDrill_keeps (s := withRequests [] s) hop hunit htable
    have empty : (takeRequest r (withRequests [] s)).mgu.requests = [] := requests
    have running : (look (completed s)).running = (completed s).running := by
      rw [looks, closing]
      change ((takeRequest r (withRequests [] s)).rct.opState == .run) = (s.rct.opState == .run)
      rw [rct]
      rfl
    generalize takeRequest r (withRequests [] s) = v at *
    rw [exec_evaluationComplete turns (resetHeld.trans hr) (stage.trans hstage),
      evaluationEnds_pass turns empty, completed_closing (drill.trans hdrill) (armed.trans harmed)]
    have zones : enabledZones v = enabledZones (completed s) := by
      rw [enabledZones_congr (completed_signsFrom s).pju]
      exact enabledZones_congr pju
    have contains : (Turn.mgu :: turns).contains .mgu = true := rfl
    refine congrArg _ ?_
    rw [evaluationEnds_eq, zones]
    unfold contend
    dsimp only
    rw [contains, if_pos rfl]
    unfold interleave
    dsimp only
    rw [if_pos running, looks]
    exact interleave_empty signVisit_requests turns false _ _ empty

end

end Sys2Proof.Machine
end

section
/-! Proofs about forwarding: what a frame that is forwarded leaves in TIF, and the notices of a close that
its own copy makes (R9 to R11, R14, R15, R175). -/

namespace Sys2Proof.Machine

/-! ### Errors of a port (R6, R11, R15, R175) -/

section
variable {p q : Port} {f : Frame} {s t : State} {e : TrunkError}

theorem otherPort_ne (p : Port) : otherPort p ≠ p := by cases p <;> decide

/-- The errors of a port count in its tally (R175). -/
abbrev Tallies (s : State) : Prop := s.mgu.notices.trunk.enable = true ∧ s.rct.opState = .run

theorem trunkError_eq (p : Port) (e : TrunkError) (s : State) :
    trunkError p e s =
      (s.setTif (s.tif.modPort p fun ps =>
        ps.countError (s.mgu.notices.trunk.enable && s.running) e)).setMgu
        (if s.mgu.notices.trunk.enable then
          { s.mgu with notices := s.mgu.notices.setStatus .trunk } else s.mgu) := by
  unfold trunkError
  dsimp only
  split <;> rfl

theorem trunkError_tif (p : Port) (e : TrunkError) (s : State) :
    (trunkError p e s).tif = s.tif.modPort p fun ps =>
      ps.countError (s.mgu.notices.trunk.enable && s.running) e := by
  rw [trunkError_eq] <;> rfl

theorem trunkError_mgu (p : Port) (e : TrunkError) (s : State) :
    (trunkError p e s).mgu =
      if s.mgu.notices.trunk.enable then
        { s.mgu with notices := s.mgu.notices.setStatus .trunk } else s.mgu := by
  rw [trunkError_eq] <;> rfl

/-- An error sets the TRUNK status while the class is enabled, and no other flag (R172, R175). -/
theorem trunkError_notices (p : Port) (e : TrunkError) (s : State) :
    (trunkError p e s).mgu.notices.trunk.enable = s.mgu.notices.trunk.enable ∧
    (s.mgu.notices.trunk.enable = true → (trunkError p e s).mgu.notices.trunk.status = true) ∧
    (s.mgu.notices.trunk.enable = false → (trunkError p e s).mgu = s.mgu) ∧
    (s.mgu.notices.trunk.status = true → (trunkError p e s).mgu.notices.trunk.status = true) ∧
    (trunkError p e s).mgu.requests = s.mgu.requests := by
  rw [trunkError_mgu]
  split
  next h => exact ⟨rfl, fun _ => rfl, fun hno => absurd (h.symm.trans hno) (by decide), fun _ => rfl, rfl⟩
  next h => exact ⟨rfl, fun hyes => absurd hyes h, fun _ => rfl, id, rfl⟩

theorem trunkError_blocks (p : Port) (e : TrunkError) (s : State) :
    (trunkError p e s).rct = s.rct ∧ (trunkError p e s).sin = s.sin ∧
      (trunkError p e s).stu = s.stu ∧ (trunkError p e s).plu = s.plu ∧
      (trunkError p e s).pju = s.pju ∧ (trunkError p e s).znu = s.znu ∧
      (trunkError p e s).out = s.out := by
  rw [trunkError_eq]
  exact ⟨rfl, rfl, rfl, rfl, rfl, rfl, rfl⟩

/-! ### What a frame that is forwarded does (R9, R11, R14) -/

/-- A frame is offered to its transit FIFO. -/
theorem offerTransit_taken (h : (s.tif.port (otherPort p)).transit.length < 8) :
    offerTransit p f s = s.setTif (s.tif.modPort (otherPort p) fun ps =>
      { ps with transit := ps.transit ++ [f] }) := by
  have taken : s.tif.enterTransit (otherPort p) f = some (s.tif.modPort (otherPort p) fun ps =>
      { ps with transit := ps.transit ++ [f] }) := if_pos h
  unfold offerTransit
  rw [taken]

theorem offerTransit_dropped (h : 8 ≤ (s.tif.port (otherPort p)).transit.length) :
    offerTransit p f s = trunkError p .drop s := by
  have full : s.tif.enterTransit (otherPort p) f = none := if_neg (Nat.not_lt.mpr h)
  unfold offerTransit
  rw [full]

/-- The ports once a frame has been offered: the one it goes out by, and the one it arrived on. -/
theorem offerTransit_ports (p : Port) (f : Frame) (s : State) :
    ((s.tif.port (otherPort p)).transit.length < 8 →
      (offerTransit p f s).tif.port (otherPort p) =
        { s.tif.port (otherPort p) with transit := (s.tif.port (otherPort p)).transit ++ [f] } ∧
      (offerTransit p f s).tif.port p = s.tif.port p) ∧
    (8 ≤ (s.tif.port (otherPort p)).transit.length →
      (offerTransit p f s).tif.port (otherPort p) = s.tif.port (otherPort p) ∧
      (offerTransit p f s).tif.port p =
        (s.tif.port p).countError (s.mgu.notices.trunk.enable && s.running) .drop) ∧
    (offerTransit p f s).tif.markSlot = s.tif.markSlot := by
  by_cases h : (s.tif.port (otherPort p)).transit.length < 8
  · rw [offerTransit_taken h, State.setTif_tif]
    refine ⟨fun _ => ⟨?_, ?_⟩, fun hfull => by omega, Tif.modPort_markSlot _ _ _⟩
    · rw [Tif.port_modPort, if_pos rfl]
    · exact Tif.modPort_other _ _ (otherPort_ne p).symm
  · rw [offerTransit_dropped (Nat.not_lt.mp h), trunkError_tif]
    refine ⟨fun hroom => absurd hroom h, fun _ => ⟨?_, ?_⟩, Tif.modPort_markSlot _ _ _⟩
    · exact Tif.modPort_other _ _ (otherPort_ne p)
    · rw [Tif.port_modPort, if_pos rfl]

/-- MGU once a frame has been offered, and the other blocks. -/
theorem offerTransit_mgu (p : Port) (f : Frame) (s : State) :
    ((s.tif.port (otherPort p)).transit.length < 8 → (offerTransit p f s).mgu = s.mgu) ∧
    (8 ≤ (s.tif.port (otherPort p)).transit.length →
      (offerTransit p f s).mgu = (trunkError p .drop s).mgu) := by
  refine ⟨fun h => ?_, fun h => ?_⟩
  · rw [offerTransit_taken h, State.setTif_mgu]
  · rw [offerTransit_dropped h]

theorem offerTransit_blocks (p : Port) (f : Frame) (s : State) :
    (offerTransit p f s).rct = s.rct ∧ (offerTransit p f s).sin = s.sin ∧
      (offerTransit p f s).stu = s.stu ∧ (offerTransit p f s).plu = s.plu ∧
      (offerTransit p f s).pju = s.pju ∧ (offerTransit p f s).znu = s.znu ∧
      (offerTransit p f s).out = s.out := by
  by_cases h : (s.tif.port (otherPort p)).transit.length < 8
  · rw [offerTransit_taken h]
    exact ⟨rfl, rfl, rfl, rfl, rfl, rfl, rfl⟩
  · rw [offerTransit_dropped (Nat.not_lt.mp h)]
    exact trunkError_blocks p .drop s

theorem forwardFrame_tif (p : Port) (f : Frame) (s : State) :
    (forwardFrame p f s).tif = (offerTransit p f s).tif.wake (otherPort p) := rfl

theorem forwardFrame_blocks (p : Port) (f : Frame) (s : State) :
    (forwardFrame p f s).rct = s.rct ∧ (forwardFrame p f s).sin = s.sin ∧
      (forwardFrame p f s).stu = s.stu ∧ (forwardFrame p f s).plu = s.plu ∧
      (forwardFrame p f s).pju = s.pju ∧ (forwardFrame p f s).znu = s.znu ∧
      (forwardFrame p f s).out = s.out := offerTransit_blocks p f s

end

/-! ### What the copy of a frame does to TIF (R9, R10, R14, R25, R175) -/

/-- A port with its tallies left out. -/
def PortState.untallied (ps : PortState) : PortState := { ps with crcTally := 0, dropTally := 0 }

/-- An idle port whose FIFO held the one frame `f` once the frames `l` have entered its queue: it sends
the frame its last-taken mark does not name. -/
def Joined (f : Frame) (before after : PortState) : List Frame → Prop
  | [] =>
    after.sending = none ∧ after.transit = [f] ∧ after.queue = [] ∧
      after.lastTaken = before.lastTaken ∧ after.framesForwarded = before.framesForwarded ∧
      after.framesInserted = before.framesInserted
  | n :: rest =>
    (before.lastTaken = .insertion →
      after.sending = some f ∧ after.transit = [] ∧ after.queue = n :: rest ∧
        after.lastTaken = .transit ∧ after.framesInserted = before.framesInserted ∧
        after.framesForwarded = bump before.framesForwarded) ∧
    (before.lastTaken = .transit →
      after.sending = some n ∧ after.transit = [f] ∧ after.queue = rest ∧
        after.lastTaken = .insertion ∧ after.framesForwarded = before.framesForwarded ∧
        after.framesInserted = bump before.framesInserted)

/-- What the notices and the tallies of a close change between `t` and `u` beside a frame `f` that has
just entered a transit FIFO. -/
structure CopyKeeps (f : Frame) (t u : Tif) : Prop where
  counts : ∀ r, (u.port r).inbound.untallied = (t.port r).inbound.untallied
  field : u.fieldPort.untallied = t.fieldPort.untallied
  markSlot : u.markSlot = t.markSlot
  busy : t.quayPort.sending.isSome = true →
    u.quayPort.sending = t.quayPort.sending ∧ u.quayPort.transit = t.quayPort.transit
  joins : t.quayPort.sending = none → t.quayPort.transit = [f] → t.quayPort.queue = [] →
    ∃ l, (∀ n ∈ l, frameClass n = some .notice) ∧ Joined f t.quayPort u.quayPort l

section
variable {f n : Frame} {t u v : Tif} {ps : PortState} {l : List Frame}

theorem CopyKeeps.refl (f : Frame) (t : Tif) : CopyKeeps f t t where
  counts _ := rfl
  field := rfl
  markSlot := rfl
  busy _ := ⟨rfl, rfl⟩
  joins hs ht hq := ⟨[], nofun, hs, ht, hq, rfl, rfl, rfl⟩

theorem CopyKeeps.clear (h : CopyKeeps f t u) (p : Port) :
    CopyKeeps f t (u.modPort p PortState.clearTallies) := by
  obtain ⟨counts, field, markSlot, busy, joins⟩ := h
  cases p with
  | field =>
    refine ⟨fun r => ?_, field, markSlot, busy, joins⟩
    cases r with
    | field => exact counts .field
    | quay => exact counts .quay
  | quay =>
    refine ⟨fun r => ?_, field, markSlot, busy, fun hs ht hq => ?_⟩
    · cases r with
      | field => exact counts .field
      | quay => exact counts .quay
    obtain ⟨l, hl, hjoined⟩ := joins hs ht hq
    refine ⟨l, hl, ?_⟩
    cases l <;> exact hjoined

/-- A busy port that takes a group holds it behind its queue. -/
theorem offer_busy {p : Port} {g : List Frame} (ho : t.offer p g = some u)
    (hbusy : (t.port p).sending.isSome = true) :
    u.port p = { t.port p with queue := (t.port p).queue ++ g } := by
  have port : (t.modPort p fun ps => { ps with queue := ps.queue ++ g }).port p =
      { t.port p with queue := (t.port p).queue ++ g } := by rw [Tif.port_modPort, if_pos rfl]
  rw [Tif.offer_spec] at ho
  split at ho
  · cases ho
    rw [Tif.wake_busy _ _ (by rw [port]; exact hbusy), port]
  · cases ho

/-- An idle quay port that takes a group selects over all it holds. -/
theorem offer_idleQuay {g : List Frame} (ho : t.offer .quay g = some u)
    (hidle : t.quayPort.sending = none) :
    u.quayPort = ({ t.quayPort with queue := t.quayPort.queue ++ g } : PortState).select := by
  rw [Tif.offer_spec] at ho
  split at ho
  · cases ho
    have idle : ((t.modPort .quay fun ps => { ps with queue := ps.queue ++ g }).port
      .quay).sending = none := hidle
    rw [Tif.wake_idle _ .quay idle, Tif.select_sources _ .quay rfl]
    rfl
  · cases ho

/-- A notice that finds room enters behind those before it. -/
theorem Joined.offer (h : Joined f ps u.quayPort l) (ho : u.offer .quay [n] = some v) :
    Joined f ps v.quayPort (l ++ [n]) := by
  cases l with
  | nil =>
    obtain ⟨hs, ht, hq, hlast, hforwarded, hinserted⟩ := h
    have port := offer_idleQuay ho hs
    refine ⟨fun hi => ?_, fun hi => ?_⟩
    · have sends := PortState.select_transit (rest := []) (f := f)
        (ps := { u.quayPort with queue := u.quayPort.queue ++ [n] }) ht (.inr (hlast.trans hi))
      rw [port, sends, hq]
      exact ⟨rfl, rfl, rfl, rfl, hinserted, congrArg bump hforwarded⟩
    · have sends := PortState.select_insertion (rest := []) (f := n)
        (ps := { u.quayPort with queue := u.quayPort.queue ++ [n] }) (by rw [hq]; rfl)
        (.inr (hlast.trans hi))
      rw [port, sends]
      exact ⟨rfl, ht, rfl, rfl, hforwarded, congrArg bump hinserted⟩
  | cons m rest =>
    obtain ⟨hinsertion, htransit⟩ := h
    refine ⟨fun hi => ?_, fun hi => ?_⟩
    · obtain ⟨hs, ht, hq, hlast, hinserted, hforwarded⟩ := hinsertion hi
      have port : v.quayPort = _ := offer_busy ho (by
        change u.quayPort.sending.isSome = true
        rw [hs]; rfl)
      rw [port]
      exact ⟨hs, ht, congrArg (· ++ [n]) hq, hlast, hinserted, hforwarded⟩
    · obtain ⟨hs, ht, hq, hlast, hforwarded, hinserted⟩ := htransit hi
      have port : v.quayPort = _ := offer_busy ho (by
        change u.quayPort.sending.isSome = true
        rw [hs]; rfl)
      rw [port]
      exact ⟨hs, ht, congrArg (· ++ [n]) hq, hlast, hforwarded, hinserted⟩

theorem CopyKeeps.notice (h : CopyKeeps f t u) (hn : frameClass n = some .notice)
    (ho : u.offer .quay [n] = some v) : CopyKeeps f t v := by
  obtain ⟨counts, field, markSlot, busy, joins⟩ := h
  have entered := entered_offer ho
  have inbound := inboundKept_offer ho
  have other : v.fieldPort = u.fieldPort := offer_port (q := .field) ho (by decide)
  refine ⟨fun r => by rw [inbound r]; exact counts r, by rw [other]; exact field, ?_, fun hb => ?_,
    fun hs ht hq => ?_⟩
  · rw [Tif.offer_spec] at ho
    split at ho
    · cases ho
      rw [Tif.wake_quay_markSlot, Tif.modPort_markSlot]
      exact markSlot
    · cases ho
  · obtain ⟨hs, ht⟩ := busy hb
    obtain ⟨ks, kt, -⟩ := entered.busy (by
      change u.quayPort.sending.isSome = true
      rw [hs]; exact hb)
    exact ⟨Eq.trans ks hs, Eq.trans kt ht⟩
  · obtain ⟨l, hl, hjoined⟩ := joins hs ht hq
    refine ⟨l ++ [n], fun m hm => ?_, hjoined.offer ho⟩
    rcases List.mem_append.mp hm with hm | hm
    · exact hl m hm
    · rw [List.mem_singleton.mp hm]; exact hn

/-- The frame of a notice is one of class NOTICE (R2, R174). -/
theorem noticeFrame_class (strap : BitVec 3) (round c subject old new flags : Nat) :
    frameClass (noticeFrame strap round c subject old new flags) = some .notice :=
  classOfByte_code .notice

end

/-! ### The copy of a sample (R9, R25) -/

section
variable {f : Frame} {t : Tif} {s : State}

theorem CopyKeeps.sendNotice (h : CopyKeeps f t s.tif) (c : NoticeClass) (r : Report) :
    CopyKeeps f t (sendNotice c r s).tif := by
  unfold Sys2Proof.Machine.sendNotice
  dsimp only
  split
  next x hx => exact h.notice (noticeFrame_class _ _ _ _ _ _ _) hx
  next => exact h

theorem CopyKeeps.raiseAll (events : List (NoticeClass × Report)) (h : CopyKeeps f t s.tif) :
    CopyKeeps f t (raiseAll events s).tif := by
  induction events generalizing s with
  | nil => exact h
  | cons e events ih =>
    refine ih (s := raise e.1 e.2 s) ?_
    unfold raise
    dsimp only
    split
    next =>
      split
      next => exact h
      next => exact CopyKeeps.sendNotice (s := s.setNotices (s.mgu.notices.setStatus e.1)) h e.1 e.2
    next => exact h

theorem CopyKeeps.trunkNotice (h : CopyKeeps f t s.tif) (p : Port) :
    CopyKeeps f t (trunkNotice p s).tif := by
  unfold Sys2Proof.Machine.trunkNotice
  dsimp only
  refine CopyKeeps.clear ?_ p
  split
  next => exact h.sendNotice _ _
  next => exact h

theorem CopyKeeps.closeRound (h : CopyKeeps f t s.tif) : CopyKeeps f t (closeRound s).tif := by
  obtain ⟨x, hxtif, -, -, htif, -⟩ := closeRound_signals s
  rw [htif]
  refine CopyKeeps.raiseAll _ ?_
  rw [hxtif]
  refine CopyKeeps.trunkNotice (CopyKeeps.trunkNotice ?_ .field) .quay
  rw [State.mapIntakes_tif]
  exact CopyKeeps.raiseAll (s := s.setRct s.rct.close) _ h

/-- From `s` to `t` neither TIF nor MGU changes, or the round of `s`, which is open, closes. -/
def MayClose (s t : State) : Prop :=
  (t.tif = s.tif ∧ t.mgu = s.mgu) ∨
    ∃ w : State, w.tif = s.tif ∧ w.mgu = s.mgu ∧ w.rct.phase = s.rct.phase ∧
      s.rct.phase = .opened ∧ t = closeRound w

theorem reportReading_mayClose (i : Fin 48) (s : State) : MayClose s (reportReading i s) := by
  unfold reportReading
  split
  next =>
    dsimp only
    split
    next h =>
      refine .inr ⟨s.setRct { s.rct with outstanding := s.rct.outstanding - 1 }, rfl, rfl, rfl, ?_,
        rfl⟩
      simp only [allInCloses, Bool.and_eq_true, beq_iff_eq] at h
      exact h.1.2
    next => exact .inl ⟨rfl, rfl⟩
  next => exact .inl ⟨rfl, rfl⟩

/-- An accepted sample's slot and flag are stored before its reading is reported. -/
theorem acceptSample_mayClose (c : SampleCopy) (s : State) : MayClose s (acceptSample c s) := by
  unfold acceptSample
  dsimp only
  generalize (s.intake c.station).accept _ _ _ _ = it
  generalize (s.station c.station).markTest _ = st
  have stored : ((s.setIntake c.station it).setStation c.station st).tif = s.tif ∧
      ((s.setIntake c.station it).setStation c.station st).mgu = s.mgu := ⟨rfl, rfl⟩
  have rct : ((s.setIntake c.station it).setStation c.station st).rct = s.rct := rfl
  generalize (s.setIntake c.station it).setStation c.station st = x at *
  split
  next =>
    have closes := reportReading_mayClose c.station x
    unfold MayClose at closes
    rw [stored.1, stored.2, rct] at closes
    exact closes
  next => exact .inl stored

/-- The copy of a sample leaves TIF and MGU, or closes the round. -/
theorem takeSample_mayClose (c : SampleCopy) (s : State) : MayClose s (takeSample c s) := by
  unfold takeSample
  split
  next =>
    unfold runSample
    split
    next => exact acceptSample_mayClose c s
    next =>
      generalize (s.intake c.station).drop _ = it
      exact .inl ⟨rfl, rfl⟩
  next =>
    split
    next =>
      left
      unfold probeSample
      split <;> exact ⟨rfl, rfl⟩
    next => exact .inl ⟨rfl, rfl⟩

theorem closeRound_phase (s : State) : (closeRound s).rct.phase = .evaluating := by
  rw [(closeRound_same s).rct]
  rfl

end

/-! ### What leaves by the other port (R11, R14) -/

section
variable {p : Port} {f : Frame} {y : State} {z t u : Tif}

theorem CopyKeeps.busyPort (h : CopyKeeps f t u) {q : Port}
    (hb : (t.port q).sending.isSome = true) :
    (u.port q).sending = (t.port q).sending ∧ (u.port q).transit = (t.port q).transit := by
  cases q with
  | field => exact ⟨(congrArg PortState.sending h.field :), (congrArg PortState.transit h.field :)⟩
  | quay => exact h.busy hb

/-- The notices of a close enter the quay port alone, and where nothing has changed there are none. -/
theorem CopyKeeps.joinsPort (h : CopyKeeps f t u) {q : Port} (hs : (t.port q).sending = none)
    (ht : (t.port q).transit = [f]) (hq : (t.port q).queue = []) :
    ∃ l, (∀ n ∈ l, frameClass n = some .notice) ∧ (q = .field ∨ u = t → l = []) ∧
      Joined f (t.port q) (u.port q) l := by
  by_cases hsame : q = .field ∨ u = t
  · refine ⟨[], nofun, fun _ => rfl, ?_⟩
    rcases hsame with rfl | rfl
    · exact ⟨(congrArg PortState.sending h.field :).trans hs,
        (congrArg PortState.transit h.field :).trans ht, (congrArg PortState.queue h.field :).trans hq,
        (congrArg PortState.lastTaken h.field :), (congrArg PortState.framesForwarded h.field :),
        (congrArg PortState.framesInserted h.field :)⟩
    · exact ⟨hs, ht, hq, rfl, rfl, rfl⟩
  · cases q with
    | field => exact absurd (.inl rfl) hsame
    | quay =>
      obtain ⟨l, hl, hj⟩ := h.joins hs ht hq
      exact ⟨l, hl, fun h => absurd h hsame, hj⟩

/-- What an idle port with the frame in its FIFO is once the port has woken. -/
def SentOn (f : Frame) (before after : PortState) (l : List Frame) : Prop :=
  (l = [] ∨ before.lastTaken = .insertion →
    after.sending = some f ∧ after.transit = [] ∧ after.queue = l ∧ after.lastTaken = .transit ∧
      after.framesInserted = before.framesInserted ∧
      after.framesForwarded = bump before.framesForwarded) ∧
  ∀ n rest, l = n :: rest → before.lastTaken = .transit →
    after.sending = some n ∧ after.transit = [f] ∧ after.queue = rest ∧
      after.lastTaken = .insertion ∧ after.framesForwarded = before.framesForwarded ∧
      after.framesInserted = bump before.framesInserted

theorem Joined.sentOn {b : PortState} {q : Port} {l : List Frame} (h : Joined f b (u.port q) l)
    (hmark : u.markFor q = none) : SentOn f b ((u.wake q).port q) l := by
  cases l with
  | nil =>
    obtain ⟨hs, ht, hq, hlast, hforwarded, hinserted⟩ := h
    refine ⟨fun _ => ?_, nofun⟩
    rw [Tif.wake_idle _ _ hs, Tif.select_sources _ _ hmark, Tif.port_modPort, if_pos rfl,
      PortState.select_transit ht (.inl hq)]
    exact ⟨rfl, rfl, hq, rfl, hinserted, congrArg bump hforwarded⟩
  | cons m rest =>
    obtain ⟨hinsertion, htransit⟩ := h
    cases hlast : b.lastTaken with
    | insertion =>
      have sent := hinsertion hlast
      rw [Tif.wake_busy _ _ (by rw [sent.1]; rfl)]
      exact ⟨fun _ => sent, fun _ _ _ hl => absurd (hlast.symm.trans hl) (by decide)⟩
    | transit =>
      have sent := htransit hlast
      rw [Tif.wake_busy _ _ (by rw [sent.1]; rfl)]
      refine ⟨fun hl => ?_, fun n rest' hl _ => ?_⟩
      · rcases hl with hl | hl
        · cases hl
        · exact absurd (hlast.symm.trans hl) (by decide)
      · cases hl
        exact sent

/-- The port a frame arrived on and the one it goes out by, once it has been forwarded. -/
structure Forwards (p : Port) (f : Frame) (y z t u : Tif) : Prop where
  counts : (u.port p).unexamined = (y.port p).unexamined ∧
    (u.port p).goodFrames = (y.port p).goodFrames ∧ (u.port p).unevaluated = (y.port p).unevaluated
  room : (y.port (otherPort p)).transit.length < 8 →
    (u.port p).transitDrops = (y.port p).transitDrops ∧
      ((y.port (otherPort p)).sending.isSome = true →
        (u.port (otherPort p)).transit = (y.port (otherPort p)).transit ++ [f])
  full : 8 ≤ (y.port (otherPort p)).transit.length →
    (u.port (otherPort p)).transit = (y.port (otherPort p)).transit ∧
      (u.port p).transitDrops = bump (y.port p).transitDrops
  nothing : NothingToSend y (otherPort p) → ∃ l, (∀ n ∈ l, frameClass n = some .notice) ∧
    (otherPort p = .field ∨ z = t → l = []) ∧
      SentOn f (y.port (otherPort p)) (u.port (otherPort p)) l

theorem forwards (hz : CopyKeeps f (offerTransit p f y).tif z)
    (hr : Ready y.tif (otherPort p)) :
    Forwards p f y.tif z (offerTransit p f y).tif (z.wake (otherPort p)) := by
  obtain ⟨room, full, mark⟩ := offerTransit_ports p f y
  have arrived : ((z.wake (otherPort p)).port p) = z.port p :=
    Tif.wake_other _ (otherPort_ne p).symm
  have counted := hz.counts p
  have waits (hb : (y.tif.port (otherPort p)).sending.isSome = true) :
      ((z.wake (otherPort p)).port (otherPort p)).transit =
        ((offerTransit p f y).tif.port (otherPort p)).transit := by
    have busy : ((offerTransit p f y).tif.port (otherPort p)).sending.isSome = true := by
      by_cases h : (y.tif.port (otherPort p)).transit.length < 8
      · rw [(room h).1]; exact hb
      · rw [(full (Nat.not_lt.mp h)).1]; exact hb
    obtain ⟨hs, ht⟩ := hz.busyPort busy
    rw [Tif.wake_busy _ _ (by rw [hs]; exact busy)]
    exact ht
  have short (hn : NothingToSend y.tif (otherPort p)) :
      (y.tif.port (otherPort p)).transit.length < 8 := by
    rw [hn.2.1]
    decide
  constructor
  case counts =>
    rw [arrived]
    have before : (((offerTransit p f y).tif.port p).unexamined = (y.tif.port p).unexamined) ∧
        ((offerTransit p f y).tif.port p).goodFrames = (y.tif.port p).goodFrames ∧
        ((offerTransit p f y).tif.port p).unevaluated = (y.tif.port p).unevaluated := by
      by_cases h : (y.tif.port (otherPort p)).transit.length < 8
      · rw [(room h).2]; exact ⟨rfl, rfl, rfl⟩
      · rw [(full (Nat.not_lt.mp h)).2]; exact ⟨rfl, rfl, rfl⟩
    obtain ⟨b1, b2, b3⟩ := before
    exact ⟨(congrArg PortState.unexamined counted).trans b1,
      (congrArg PortState.goodFrames counted).trans b2,
      (congrArg PortState.unevaluated counted).trans b3⟩
  case room =>
    intro h
    refine ⟨?_, fun hb => ?_⟩
    · rw [arrived]
      exact (congrArg PortState.transitDrops counted).trans
        (congrArg PortState.transitDrops (room h).2 :)
    · rw [waits hb, (room h).1]
  case full =>
    intro h
    have hb : (y.tif.port (otherPort p)).sending.isSome = true :=
      hr.resolve_right fun hn => absurd (short hn) (Nat.not_lt.mpr h)
    refine ⟨?_, ?_⟩
    · rw [waits hb, (full h).1]
    · rw [arrived]
      exact (congrArg PortState.transitDrops counted).trans
        (congrArg PortState.transitDrops (full h).2)
  case nothing =>
    intro hn
    have port := (room (short hn)).1
    obtain ⟨hs, ht, hq, hm⟩ := hn
    rw [ht, List.nil_append] at port
    have bare : z.markFor (otherPort p) = none := by
      cases hp : otherPort p with
      | field => exact (hz.markSlot.trans mark).trans (hm hp)
      | quay => rfl
    obtain ⟨l, hl, hempty, hjoined⟩ := hz.joinsPort (q := otherPort p) (by rw [port]; exact hs)
      (by rw [port]) (by rw [port]; exact hq)
    refine ⟨l, hl, hempty, ?_⟩
    have sent := hjoined.sentOn bare
    rw [port] at sent
    exact sent

end

end Sys2Proof.Machine
end

section
/-! Proofs about the disposition of an arriving frame that is forwarded (R5, R6, R9 to R11, R14, R175). -/

namespace Sys2Proof.Machine

/-! ### Bad frames (R6, R11) -/

section
variable {p : Port} {f : Frame} {s u y : State} {c : FrameClass}

theorem forwardFrame_arrival (p : Port) (f : Frame) (s : State) :
    (forwardFrame p f s).tif.port p = (offerTransit p f s).tif.port p :=
  Tif.wake_other _ (otherPort_ne p).symm

theorem tallies_iff (s : State) :
    (s.mgu.notices.trunk.enable && s.running) = true ↔ Tallies s := by
  rw [Bool.and_eq_true, running_iff]

/-- A tally of an error that counts, and of one that does not (R175). -/
theorem tally_cases (s : State) (n : Nat) :
    (Tallies s → (if s.mgu.notices.trunk.enable && s.running then bump255 n else n) =
      min 255 (n + 1)) ∧
    (¬ Tallies s → (if s.mgu.notices.trunk.enable && s.running then bump255 n else n) = n) :=
  ⟨fun h => if_pos ((tallies_iff s).mpr h), fun h => if_neg (mt (tallies_iff s).mp h)⟩

/-- A bad frame is an error of its port and is forwarded. -/
theorem disposeFrame_bad (hclass : frameClass f = some c) (hbad : isGood c f = false) (s : State) :
    disposeFrame p f s = forwardFrame p f (trunkError p .crc s) := by
  unfold disposeFrame
  rw [hclass]
  exact if_neg (by rw [hbad]; exact nofun)

/-- What a frame leaves of the ports when its copy goes nowhere. -/
theorem forwardFrame_ports (hr : Ready y.tif (otherPort p)) :
    ((y.tif.port (otherPort p)).transit.length < 8 →
      (forwardFrame p f y).tif.port p = y.tif.port p) ∧
    (8 ≤ (y.tif.port (otherPort p)).transit.length →
      (forwardFrame p f y).tif.port p =
        (y.tif.port p).countError (y.mgu.notices.trunk.enable && y.running) .drop) ∧
    ((y.tif.port (otherPort p)).sending.isSome = true →
      ((forwardFrame p f y).tif.port (otherPort p)).sending =
        (y.tif.port (otherPort p)).sending ∧
      ((forwardFrame p f y).tif.port (otherPort p)).transit =
        (if (y.tif.port (otherPort p)).transit.length < 8 then
          (y.tif.port (otherPort p)).transit ++ [f] else (y.tif.port (otherPort p)).transit) ∧
      ((forwardFrame p f y).tif.port (otherPort p)).queue = (y.tif.port (otherPort p)).queue) ∧
    (NothingToSend y.tif (otherPort p) →
      SentOn f (y.tif.port (otherPort p)) ((forwardFrame p f y).tif.port (otherPort p)) []) := by
  obtain ⟨room, full, -⟩ := offerTransit_ports p f y
  refine ⟨fun h => (forwardFrame_arrival p f y).trans (room h).2,
    fun h => (forwardFrame_arrival p f y).trans (full h).2, fun hb => ?_, fun hn => ?_⟩
  · have waits : (forwardFrame p f y).tif.port (otherPort p) =
        (offerTransit p f y).tif.port (otherPort p) := by
      rw [forwardFrame_tif, Tif.wake_busy]
      by_cases h : (y.tif.port (otherPort p)).transit.length < 8
      · rw [(room h).1]; exact hb
      · rw [(full (Nat.not_lt.mp h)).1]; exact hb
    rw [waits]
    by_cases h : (y.tif.port (otherPort p)).transit.length < 8
    · rw [if_pos h, (room h).1]
      exact ⟨rfl, rfl, rfl⟩
    · rw [if_neg h, (full (Nat.not_lt.mp h)).1]
      exact ⟨rfl, rfl, rfl⟩
  · obtain ⟨l, -, hempty, hsent⟩ := (forwards (CopyKeeps.refl f _) hr).nothing hn
    rw [hempty (.inr rfl)] at hsent
    exact hsent

/-- Settles O9: the frame is a CRC error of its port, and is then forwarded. -/
theorem badFramesAreCountedAndForwarded : Obligations.BadFramesAreCountedAndForwarded := by
  intro after p c f s hr u before out tallied hbetween harr hclass hbad hready
  let x : State := u.modPort p (PortState.arrivedAt f)
  let y : State := trunkError p .crc x
  have xtif : x.tif = u.tif.modPort p (PortState.arrivedAt f) := rfl
  have xmgu : x.mgu = u.mgu := rfl
  have xrct : x.rct = u.rct := rfl
  have running : x.running = u.running := rfl
  have ran : Sys2Proof.Machine.exec (.frameArrival after p f) s = .next (forwardFrame p f y) := by
    rw [exec_frameArrival after f hr, frameArrives_between harr hbetween,
      disposeFrame_bad hclass hbad]
  obtain ⟨enable, sets, quiet, keeps, requests⟩ := trunkError_notices p .crc x
  have blocks := trunkError_blocks p .crc x
  have arrival : y.tif.port p = ((u.tif.port p).arrivedAt f).countError
      (u.mgu.notices.trunk.enable && u.running) .crc := by
    have tif := trunkError_tif p .crc x
    rw [xmgu, running] at tif
    change (trunkError p .crc x).tif.port p = _
    rw [tif, Tif.port_modPort, if_pos rfl, xtif, Tif.port_modPort, if_pos rfl]
  have leaving : y.tif.port (otherPort p) = out := by
    change (trunkError p .crc x).tif.port (otherPort p) = _
    rw [trunkError_tif, Tif.modPort_other _ _ (otherPort_ne p), xtif,
      Tif.modPort_other _ _ (otherPort_ne p)]
  have mark : y.tif.markSlot = u.tif.markSlot := by
    change (trunkError p .crc x).tif.markSlot = _
    rw [trunkError_tif, Tif.modPort_markSlot, xtif, Tif.modPort_markSlot]
  have yrunning : y.running = u.running := by
    change ((trunkError p .crc x).rct.opState == .run) = _
    rw [blocks.1]
    rfl
  have ready : Ready y.tif (otherPort p) := by
    rcases hready with hb | ⟨hs, ht, hq, hm⟩
    · exact .inl (by rw [leaving]; exact hb)
    · exact .inr ⟨by rw [leaving]; exact hs, by rw [leaving]; exact ht, by rw [leaving]; exact hq,
        fun hp => mark.trans (hm hp)⟩
  have idle (hn : NothingToSend u.tif (otherPort p)) : NothingToSend y.tif (otherPort p) := by
    obtain ⟨hs, ht, hq, hm⟩ := hn
    exact ⟨by rw [leaving]; exact hs, by rw [leaving]; exact ht, by rw [leaving]; exact hq,
      fun hp => mark.trans (hm hp)⟩
  have yenable : y.mgu.notices.trunk.enable = u.mgu.notices.trunk.enable := enable
  have ysets : u.mgu.notices.trunk.enable = true → y.mgu.notices.trunk.status = true := sets
  have yquiet : u.mgu.notices.trunk.enable = false → y.mgu = u.mgu := quiet
  have yrequests : y.mgu.requests = u.mgu.requests := requests
  have yblocks : y.rct = u.rct ∧ y.sin = u.sin ∧ y.stu = u.stu ∧ y.plu = u.plu ∧ y.pju = u.pju ∧
      y.znu = u.znu ∧ y.out = u.out := blocks
  clear_value y
  obtain ⟨hroom, hfull, hbusy, hnothing⟩ := forwardFrame_ports (f := f) ready
  obtain ⟨mroom, mfull⟩ := offerTransit_mgu p f y
  obtain ⟨denable, dsets, dquiet, dkeeps, drequests⟩ := trunkError_notices p .drop y
  rw [leaving, arrival] at hroom
  rw [leaving, arrival, yenable, yrunning] at hfull
  rw [leaving] at hbusy hnothing mroom mfull
  obtain ⟨hcrc, hnocrc⟩ := tally_cases u before.crcTally
  obtain ⟨hdrop, hnodrop⟩ := tally_cases u before.dropTally
  have counted : ((forwardFrame p f y).tif.port p).crcErrors = bump before.crcErrors ∧
      ((forwardFrame p f y).tif.port p).goodFrames = before.goodFrames ∧
      ((forwardFrame p f y).tif.port p).crcTally =
        if u.mgu.notices.trunk.enable && u.running then bump255 before.crcTally
        else before.crcTally := by
    by_cases h : out.transit.length < 8
    · rw [hroom h]; exact ⟨rfl, rfl, rfl⟩
    · rw [hfull (Nat.not_lt.mp h)]; exact ⟨rfl, rfl, rfl⟩
  obtain ⟨crcErrors, goodFrames, crcTally⟩ := counted
  have mgu : (forwardFrame p f y).mgu = y.mgu ∨
      (forwardFrame p f y).mgu = (trunkError p .drop y).mgu := by
    by_cases h : out.transit.length < 8
    · exact .inl (mroom h)
    · exact .inr (mfull (Nat.not_lt.mp h))
  obtain ⟨brct, bsin, bstu, bplu, bpju, bznu, bout⟩ := forwardFrame_blocks p f y
  obtain ⟨yrct, ysin, ystu, yplu, ypju, yznu, yout⟩ := yblocks
  refine ⟨_, ran, crcErrors, goodFrames, fun h => crcTally.trans (hcrc h),
    fun h => crcTally.trans (hnocrc h), fun h => ?_, fun h => ?_, fun hb => ?_, fun hn => ?_, ?_,
    fun hen => ?_, fun hen => ?_, ?_, brct.trans yrct, bsin.trans ysin, bstu.trans ystu,
    bplu.trans yplu, bpju.trans ypju, bznu.trans yznu, bout.trans yout⟩
  · rw [hroom h]
    exact ⟨rfl, rfl⟩
  · rw [hfull h]
    exact ⟨rfl, hdrop, hnodrop⟩
  · obtain ⟨hs, ht, -⟩ := hbusy hb
    exact ⟨hs, ht⟩
  · obtain ⟨hs, ht, -, hlast, -, hcount⟩ := (hnothing (idle hn)).1 (.inl rfl)
    exact ⟨hs, ht, hlast, hcount⟩
  · rcases hready with hb | hn
    · exact (hbusy hb).2.2
    · obtain ⟨-, -, hq, -⟩ := (hnothing (idle hn)).1 (.inl rfl)
      exact hq.trans hn.2.2.1.symm
  · rcases mgu with h | h
    · rw [h]; exact ysets hen
    · rw [h]; exact dkeeps (ysets hen)
  · rcases mgu with h | h
    · rw [h]; exact yquiet hen
    · rw [h, dquiet (yenable.trans hen)]; exact yquiet hen
  · rcases mgu with h | h
    · rw [h]; exact yrequests
    · rw [h, drequests]; exact yrequests

end

end Sys2Proof.Machine
end

section
/-! Proofs about the frames that are forwarded as they are, with and without a copy (R5, R9 to R11, R14). -/

namespace Sys2Proof.Machine

/-! ### Frames that are forwarded (R9) -/

section
variable {p : Port} {f : Frame} {s t u : State} {c : FrameClass}

/-- A good SAMPLE from no station of the part. -/
abbrev ForeignSample (f : Frame) : Prop :=
  frameClass f = some .sample ∧ 48 ≤ (frameSource f).toNat

/-- A SAMPLE from a station of the part. -/
abbrev StationSample (f : Frame) : Prop :=
  frameClass f = some .sample ∧ (frameSource f).toNat < 48

/-- The port of a frame that has arrived between frames and is counted: as unexamined, or as good and,
from no station, as unevaluated (R9, R15). -/
def PortState.countedFrame (f : Frame) (ps : PortState) : PortState :=
  let x := ps.arrivedAt f
  if frameClass f = none then { x with unexamined := bump x.unexamined }
  else if ForeignSample f then
    { x with goodFrames := bump x.goodFrames, unevaluated := bump x.unevaluated }
  else { x with goodFrames := bump x.goodFrames }

/-- The state once the frame is counted. -/
def countedState (p : Port) (f : Frame) (u : State) : State :=
  u.modPort p (PortState.countedFrame f)

/-- From `u` to `t` the frame has been forwarded, its copy handed on. -/
structure Disposed (p : Port) (f : Frame) (u t : State) : Prop where
  ports : ∃ z, CopyKeeps f (offerTransit p f (countedState p f u)).tif z ∧
    t.tif = z.wake (otherPort p) ∧
    (¬ StationSample f ∨ t.rct.phase = u.rct.phase →
      z = (offerTransit p f (countedState p f u)).tif)
  status : (offerTransit p f (countedState p f u)).mgu.notices.trunk.status = true →
    t.mgu.notices.trunk.status = true
  plain : ¬ (frameClass f = some .yard ∨ StationSample f) →
    t = forwardFrame p f (countedState p f u)

theorem disposed_forward : Disposed p f u (forwardFrame p f (countedState p f u)) :=
  ⟨⟨_, CopyKeeps.refl f _, rfl, fun _ => rfl⟩, id, fun _ => rfl⟩

theorem State.modPort_modPort (s : State) (p : Port) (g k : PortState → PortState) :
    (s.modPort p g).modPort p k = s.modPort p fun ps => k (g ps) := by
  unfold State.modPort
  rw [State.setTif_tif, State.setTif_twice, Tif.modPort_modPort]

/-- The count of an arriving frame is what its disposal makes of its port. -/
theorem counted_modPort {g : PortState → PortState}
    (h : ∀ ps : PortState, g (ps.arrivedAt f) = ps.countedFrame f) (u : State) :
    (u.modPort p (PortState.arrivedAt f)).modPort p g = countedState p f u := by
  rw [State.modPort_modPort]
  exact congrArg u.setTif (Tif.modPort_congr (h _))

theorem disposeFrame_unknown (hclass : frameClass f = none) :
    disposeFrame p f (u.modPort p (PortState.arrivedAt f)) =
      forwardFrame p f (countedState p f u) := by
  have counted := counted_modPort (p := p) (f := f)
    (g := fun ps => { ps with unexamined := bump ps.unexamined })
    (fun ps => (if_pos hclass).symm) u
  rw [← counted]
  unfold disposeFrame
  rw [hclass]

theorem disposeFrame_good (hclass : frameClass f = some c) (hgood : isGood c f = true) :
    disposeFrame p f s = disposeGood p c f s := by
  unfold disposeFrame
  rw [hclass]
  exact if_pos hgood

theorem not_foreign (hclass : frameClass f = some c) (hc : c ≠ .sample) : ¬ ForeignSample f :=
  fun h => hc (Option.some.inj (hclass.symm.trans h.1))

/-- A good frame that is no SAMPLE from elsewhere is counted as good. -/
theorem counted_good (hclass : frameClass f = some c) (hforeign : ¬ ForeignSample f) :
    (u.modPort p (PortState.arrivedAt f)).modPort p
      (fun ps => { ps with goodFrames := bump ps.goodFrames }) = countedState p f u :=
  counted_modPort (fun ps => by
    unfold PortState.countedFrame
    rw [if_neg (by rw [hclass]; exact nofun), if_neg hforeign]) u

/-- The count of a foreign sample may come before the offer. -/
theorem offerTransit_unevaluated (p : Port) (f : Frame) (s : State) :
    (offerTransit p f s).modPort p (fun ps => { ps with unevaluated := bump ps.unevaluated }) =
      offerTransit p f (s.modPort p fun ps => { ps with unevaluated := bump ps.unevaluated }) := by
  let g : PortState → PortState := fun ps => { ps with unevaluated := bump ps.unevaluated }
  have leaving : (s.modPort p g).tif.port (otherPort p) = s.tif.port (otherPort p) :=
    Tif.modPort_other _ _ (otherPort_ne p)
  by_cases h : (s.tif.port (otherPort p)).transit.length < 8
  · rw [offerTransit_taken h, offerTransit_taken (by rw [leaving]; exact h)]
    cases p <;> rfl
  · rw [offerTransit_dropped (Nat.not_lt.mp h),
      offerTransit_dropped (by rw [leaving]; exact Nat.not_lt.mp h), trunkError_eq, trunkError_eq]
    cases p <;> rfl

theorem disposeGood_eq (p : Port) (c : FrameClass) (f : Frame) (s : State) :
    disposeGood p c f s =
      match c with
      | .sample => disposeSample p f (s.modPort p fun ps => { ps with goodFrames := bump ps.goodFrames })
      | .yard => takeYard (yardCopyOf f)
          (forwardFrame p f (s.modPort p fun ps => { ps with goodFrames := bump ps.goodFrames }))
      | .mreq =>
        disposeRequest p f (s.modPort p fun ps => { ps with goodFrames := bump ps.goodFrames })
      | .mark | .sign | .mrsp | .notice =>
        forwardFrame p f (s.modPort p fun ps => { ps with goodFrames := bump ps.goodFrames }) := by
  unfold disposeGood
  cases c <;> rfl

/-- A YARD copy leaves TIF and MGU. -/
theorem takeYard_kept (y : YardCopy) (s : State) :
    (takeYard y s).tif = s.tif ∧ (takeYard y s).mgu = s.mgu := by
  unfold takeYard
  cases yardResult y s with
  | none => exact ⟨rfl, rfl⟩
  | some r => exact ⟨rfl, rfl⟩

theorem disposed_yard (hclass : frameClass f = some .yard) (hgood : isGood .yard f = true) :
    Disposed p f u (disposeFrame p f (u.modPort p (PortState.arrivedAt f))) := by
  rw [disposeFrame_good hclass hgood, disposeGood_eq]
  dsimp only
  rw [counted_good hclass (not_foreign hclass (by decide))]
  obtain ⟨tif, mgu⟩ := takeYard_kept (yardCopyOf f) (forwardFrame p f (countedState p f u))
  refine ⟨⟨_, CopyKeeps.refl f _, tif, fun _ => rfl⟩, fun h => ?_, fun h => absurd (.inl hclass) h⟩
  rw [mgu]
  exact h

theorem disposed_request (hclass : frameClass f = some .mreq) (hgood : isGood .mreq f = true)
    (hother : ∀ unit : Fin 4, (frameDest f).toNat ≠ 224 + 4 * u.tif.strap.toNat + unit.val) :
    Disposed p f u (disposeFrame p f (u.modPort p (PortState.arrivedAt f))) := by
  have foreign : ¬ ForeignSample f := not_foreign hclass (by decide)
  have strap : (countedState p f u).tif.strap = u.tif.strap := Tif.modPort_strap _ _ _
  have own : ownUnit (countedState p f u).tif.strap (frameDest f) = none := by
    unfold ownUnit
    dsimp only
    rw [strap]
    refine if_neg fun h => ?_
    exact hother ⟨(frameDest f).toNat - (224 + 4 * u.tif.strap.toNat), by omega⟩ (by dsimp only; omega)
  rw [disposeFrame_good hclass hgood, disposeGood_eq]
  dsimp only
  rw [counted_good hclass foreign]
  unfold disposeRequest
  rw [own]
  exact disposed_forward

theorem disposed_foreign (h : ForeignSample f) (hgood : isGood .sample f = true) :
    Disposed p f u (disposeFrame p f (u.modPort p (PortState.arrivedAt f))) := by
  obtain ⟨hclass, hsource⟩ := h
  have counted : ((u.modPort p (PortState.arrivedAt f)).modPort p
      (fun ps => { ps with goodFrames := bump ps.goodFrames })).modPort p
      (fun ps => { ps with unevaluated := bump ps.unevaluated }) = countedState p f u := by
    refine Eq.trans ?_ (counted_modPort (g := fun ps =>
      { ps with goodFrames := bump ps.goodFrames, unevaluated := bump ps.unevaluated })
      (fun ps => ?_) u)
    · exact State.modPort_modPort _ _ _ _
    · unfold PortState.countedFrame
      rw [if_neg (by rw [hclass]; exact nofun), if_pos ⟨hclass, hsource⟩]
  rw [disposeFrame_good hclass hgood, disposeGood_eq]
  dsimp only
  unfold disposeSample
  dsimp only
  rw [indexOf_beyond hsource]
  dsimp only
  rw [offerTransit_unevaluated, counted]
  exact disposed_forward

/-- The copy of a station's sample may close the round, whose notices join the frame. -/
theorem disposed_sample (h : StationSample f) (hgood : isGood .sample f = true) :
    Disposed p f u (disposeFrame p f (u.modPort p (PortState.arrivedAt f))) := by
  obtain ⟨hclass, hsource⟩ := h
  have index : indexOf 48 (frameSource f).toNat = some ⟨_, hsource⟩ := indexOf_val rfl
  rw [disposeFrame_good hclass hgood, disposeGood_eq]
  dsimp only
  rw [counted_good hclass fun h => absurd h.2 (Nat.not_le.mpr hsource)]
  unfold disposeSample
  dsimp only
  rw [index]
  dsimp only
  have phase : (offerTransit p f (countedState p f u)).rct.phase = u.rct.phase := by
    rw [(offerTransit_blocks p f _).1]
    rfl
  generalize hz : offerTransit p f (countedState p f u) = z at *
  have closes := takeSample_mayClose (sampleCopyOf ⟨_, hsource⟩ f) z
  generalize takeSample _ z = v at *
  rcases closes with ⟨tif, mgu⟩ | ⟨w, wtif, wmgu, wphase, hopen, hclose⟩
  · refine ⟨⟨z.tif, by rw [hz]; exact CopyKeeps.refl f _, ?_, fun _ => by rw [hz]⟩, fun hs => ?_,
      fun h => absurd (.inr ⟨hclass, hsource⟩) h⟩
    · exact congrArg (Tif.wake (otherPort p)) tif
    · rw [hz] at hs
      change v.mgu.notices.trunk.status = true
      rw [mgu]
      exact hs
  · have keeps : CopyKeeps f z.tif (closeRound w).tif :=
      CopyKeeps.closeRound (by rw [wtif]; exact CopyKeeps.refl f _)
    obtain ⟨-, -, status⟩ := closeRound_flags .trunk w
    subst hclose
    refine ⟨⟨(closeRound w).tif, by rw [hz]; exact keeps, rfl, fun hq => ?_⟩, fun hs => ?_,
      fun h => absurd (.inr ⟨hclass, hsource⟩) h⟩
    · rcases hq with hq | hq
      · exact absurd ⟨hclass, hsource⟩ hq
      · have now : (closeRound w).rct.phase = u.rct.phase := hq
        rw [closeRound_phase, ← phase, hopen] at now
        cases now
    · rw [hz] at hs
      change ((closeRound w).mgu.notices.flags .trunk).status = true
      rw [status, wmgu]
      exact Bool.or_eq_true_iff.mpr (.inr hs)

/-- A frame that is forwarded, by its class (R9). -/
theorem disposed (h : frameClass f = none ∨ ∃ c, frameClass f = some c ∧ isGood c f = true ∧
      (c = .mreq → ∀ unit : Fin 4,
        (frameDest f).toNat ≠ 224 + 4 * u.tif.strap.toNat + unit.val)) :
    Disposed p f u (disposeFrame p f (u.modPort p (PortState.arrivedAt f))) := by
  rcases h with hnone | ⟨c, hclass, hgood, hmreq⟩
  · rw [disposeFrame_unknown hnone]
    exact disposed_forward
  cases c with
  | sample =>
    rcases Nat.lt_or_ge (frameSource f).toNat 48 with hs | hs
    · exact disposed_sample ⟨hclass, hs⟩ hgood
    · exact disposed_foreign ⟨hclass, hs⟩ hgood
  | yard => exact disposed_yard hclass hgood
  | mreq => exact disposed_request hclass hgood (hmreq rfl)
  | mark | sign | mrsp | notice =>
    rw [disposeFrame_good hclass hgood, disposeGood_eq]
    dsimp only
    rw [counted_good hclass (not_foreign hclass (by decide))]
    exact disposed_forward

/-- What the count of a frame changes of its port's counters, and what it leaves (R9, R15). -/
theorem countedFrame_counts (f : Frame) (ps : PortState) :
    (frameClass f = none → (ps.countedFrame f).unexamined = bump ps.unexamined ∧
      (ps.countedFrame f).goodFrames = ps.goodFrames) ∧
    (frameClass f ≠ none → (ps.countedFrame f).unexamined = ps.unexamined ∧
      (ps.countedFrame f).goodFrames = bump ps.goodFrames) ∧
    (ForeignSample f → (ps.countedFrame f).unevaluated = bump ps.unevaluated) ∧
    (¬ ForeignSample f → (ps.countedFrame f).unevaluated = ps.unevaluated) ∧
    (ps.countedFrame f).transitDrops = ps.transitDrops ∧
    (ps.countedFrame f).dropTally = ps.dropTally := by
  unfold PortState.countedFrame
  dsimp only
  by_cases hnone : frameClass f = none
  · have notForeign : ¬ ForeignSample f := fun h => by
      have := hnone.symm.trans h.1
      cases this
    rw [if_pos hnone]
    exact ⟨fun _ => ⟨rfl, rfl⟩, fun h => absurd hnone h, fun h => absurd h notForeign, fun _ => rfl,
      rfl, rfl⟩
  · rw [if_neg hnone]
    by_cases hforeign : ForeignSample f
    · rw [if_pos hforeign]
      exact ⟨fun h => absurd h hnone, fun _ => ⟨rfl, rfl⟩, fun _ => rfl, fun h => absurd hforeign h,
        rfl, rfl⟩
    · rw [if_neg hforeign]
      exact ⟨fun h => absurd h hnone, fun _ => ⟨rfl, rfl⟩, fun h => absurd h hforeign, fun _ => rfl,
        rfl, rfl⟩

/-- Settles O10: the frame is counted, offered to its FIFO, and its port wakes once its copy has been
handed on. -/
theorem transitFifoTakesOrDrops : Obligations.TransitFifoTakesOrDrops := by
  intro after p f s hr u before out foreign sampled copied hbetween harr hclass hready
  let y := countedState p f u
  have arrival : y.tif.port p = before.countedFrame f := by
    change (u.tif.modPort p (PortState.countedFrame f)).port p = _
    rw [Tif.port_modPort, if_pos rfl]
  have leaving : y.tif.port (otherPort p) = out := Tif.modPort_other _ _ (otherPort_ne p)
  have mark : y.tif.markSlot = u.tif.markSlot := Tif.modPort_markSlot _ _ _
  have idle (hn : NothingToSend u.tif (otherPort p)) : NothingToSend y.tif (otherPort p) := by
    obtain ⟨hs, ht, hq, hm⟩ := hn
    exact ⟨by rw [leaving]; exact hs, by rw [leaving]; exact ht, by rw [leaving]; exact hq,
      fun hp => mark.trans (hm hp)⟩
  have ready : Ready y.tif (otherPort p) :=
    hready.imp (fun hb => by rw [leaving]; exact hb) idle
  have ran : Sys2Proof.Machine.exec (.frameArrival after p f) s =
      .next (disposeFrame p f (u.modPort p (PortState.arrivedAt f))) := by
    rw [exec_frameArrival after f hr, frameArrives_between harr hbetween]
  obtain ⟨⟨z, keeps, tif, same⟩, status, plain⟩ := disposed (p := p) (u := u) hclass
  have forwarded := forwards (y := y) keeps ready
  obtain ⟨droom, dfull, -⟩ := offerTransit_ports p f y
  obtain ⟨mroom, mfull⟩ := offerTransit_mgu p f y
  obtain ⟨-, dsets, -⟩ := trunkError_notices p .drop y
  have ymgu : y.mgu = u.mgu := rfl
  have yrct : y.rct = u.rct := rfl
  have tally := tally_cases y before.dropTally
  have yblocks : y.rct = u.rct ∧ y.sin = u.sin ∧ y.stu = u.stu ∧ y.plu = u.plu ∧ y.pju = u.pju ∧
      y.znu = u.znu ∧ y.out = u.out := ⟨rfl, rfl, rfl, rfl, rfl, rfl, rfl⟩
  change CopyKeeps f (offerTransit p f y).tif z at keeps
  change (offerTransit p f y).mgu.notices.trunk.status = true → _ at status
  change _ → z = (offerTransit p f y).tif at same
  change _ → _ = forwardFrame p f y at plain
  clear_value y
  rw [← tif] at forwarded
  obtain ⟨⟨unexamined, goodFrames, unevaluated⟩, room, full, nothing⟩ := forwarded
  rw [arrival] at unexamined goodFrames unevaluated room full droom dfull
  rw [leaving] at room full nothing droom dfull mroom mfull
  obtain ⟨cunknown, cgood, cforeign, cown, cdrops, ctally⟩ := countedFrame_counts f before
  rw [cdrops] at room full
  generalize disposeFrame p f (u.modPort p (PortState.arrivedAt f)) = t at *
  refine ⟨t, ran, fun h => ?_, fun h => ?_, fun h => unevaluated.trans (cforeign h),
    fun h => unevaluated.trans (cown h), fun h => ?_, fun h => ?_, fun hn => ?_, fun hno => ?_⟩
  · exact ⟨unexamined.trans (cunknown h).1, goodFrames.trans (cunknown h).2⟩
  · exact ⟨unexamined.trans (cgood h).1, goodFrames.trans (cgood h).2⟩
  · refine ⟨(room h).1, (room h).2, fun hno => ?_⟩
    rw [plain hno]
    refine ⟨(mroom h).trans ymgu, ?_⟩
    rw [forwardFrame_arrival, (droom h).2]
    exact ctally
  · refine ⟨(full h).1, (full h).2, fun hen => status ?_, fun hno => ?_⟩
    · rw [mfull h]
      exact dsets (by rw [ymgu]; exact hen)
    · rw [plain hno, forwardFrame_arrival, (dfull h).2]
      change (if y.mgu.notices.trunk.enable && y.running then
        bump255 (before.countedFrame f).dropTally else (before.countedFrame f).dropTally) = _
      rw [ctally]
      unfold Tallies at tally
      rw [ymgu, yrct] at tally
      rw [ymgu]
      by_cases ht : u.mgu.notices.trunk.enable = true ∧ u.rct.opState = .run
      · rw [if_pos ht]
        exact tally.1 ht
      · rw [if_neg ht]
        exact tally.2 ht
  · obtain ⟨l, hl, hempty, hinsertion, htransit⟩ := nothing (idle hn)
    refine ⟨l, hl, fun h => hempty ?_, hinsertion, htransit⟩
    rcases h with h | h | h
    · exact .inr (same (.inl h))
    · subst h; exact .inl rfl
    · exact .inr (same (.inr h))
  · rw [plain hno]
    obtain ⟨brct, bsin, bstu, bplu, bpju, bznu, bout⟩ := forwardFrame_blocks p f y
    obtain ⟨yrct, ysin, ystu, yplu, ypju, yznu, yout⟩ := yblocks
    exact ⟨brct.trans yrct, bsin.trans ysin, bstu.trans ystu, bplu.trans yplu, bpju.trans ypju,
      bznu.trans yznu, bout.trans yout⟩

end

end Sys2Proof.Machine
end

section
/-! Proofs about READs: the counters that a READ clears, and the notice status (R15, R57, R97, R169, R170,
R173, R183). -/

namespace Sys2Proof.Machine

/-! ### A READ that is taken at once (R169, R170) -/

section
variable {u t i f : Nat} {e : Envelope} {table : Byte} {b : Body} {s : State} {v : Nat} {p : Port}

/-- No table shows a place that is reserved. -/
theorem readEntry_reserve (u t i : Nat) (s : State) (p : Port) :
    readEntry u t i (s.setTif (s.tif.reserve p)) = readEntry u t i s := by
  unfold readEntry
  cases p <;> split <;> rfl

theorem readField_taken (u t i f : Nat) (p : Port) (s : State) :
    readField u t i f (takenState p s) = readField u t i f (received s) := by
  unfold readField
  exact congrArg (fun l => Option.bind l fun l => l[f]?) (readEntry_reserve u t i (received s) p)

theorem clearCounter_reserved (ps : PortState) (f : Nat) :
    PortState.clearCounter { ps with reserved := ps.reserved + 1 } f =
      { ps.clearCounter f with reserved := (ps.clearCounter f).reserved + 1 } := by
  unfold PortState.clearCounter
  split <;> rfl

/-- A counter is cleared beside a reservation. -/
theorem modPort_clearCounter_reserve (s : State) (p q : Port) (f : Nat) :
    (s.setTif (s.tif.reserve p)).modPort q (fun ps => ps.clearCounter f) =
      (s.modPort q fun ps => ps.clearCounter f).setTif
        ((s.modPort q fun ps => ps.clearCounter f).tif.reserve p) := by
  have same : (s.tif.reserve p).modPort q (fun ps => ps.clearCounter f) =
      (s.tif.modPort q fun ps => ps.clearCounter f).reserve p := by
    by_cases h : q = p
    · subst h
      unfold Tif.reserve
      rw [Tif.modPort_modPort, Tif.modPort_modPort]
      exact Tif.modPort_congr (clearCounter_reserved _ f)
    · cases p with
      | field => cases q with
        | field => exact absurd rfl h
        | quay => rfl
      | quay => cases q with
        | field => rfl
        | quay => exact absurd rfl h
  exact congrArg s.setTif same

/-- What a READ clears is no reservation. -/
theorem clearOnRead_reserve (u t i f : Nat) (s : State) (p : Port) :
    clearOnRead u t i f (s.setTif (s.tif.reserve p)) =
      (clearOnRead u t i f s).setTif ((clearOnRead u t i f s).tif.reserve p) := by
  unfold clearOnRead
  split
  next =>
    split
    next => exact modPort_clearCounter_reserve s p .field f
    next =>
      split
      next => exact modPort_clearCounter_reserve s p .quay f
      next => split <;> rfl
  next =>
    split
    next => rfl
    next =>
      split
      next => rfl
      next => split <;> rfl
  next => split <;> rfl
  next => split <;> rfl
  next => rfl

theorem clearOnRead_strap (u t i f : Nat) (s : State) :
    (clearOnRead u t i f s).tif.strap = s.tif.strap := by
  unfold clearOnRead
  split
  next =>
    split
    next => exact Tif.modPort_strap _ _ _
    next =>
      split
      next => exact Tif.modPort_strap _ _ _
      next => split <;> rfl
  next =>
    split
    next => rfl
    next =>
      split
      next => rfl
      next => split <;> rfl
  next => split <;> rfl
  next => split <;> rfl
  next => rfl

/-- A READ of a known field answers its value once it is cleared, where it is. -/
theorem ask_read {u : Nat} (hu : u < 4) (h : TakesAtOnce e.port s)
    (hread : readField u table.toNat b.index.toNat b.field.toNat (received s) = some v) :
    ask u 1 table e b s =
      answered u e (echo .ok table b (BitVec.ofNat 16 v))
        (clearOnRead u table.toNat b.index.toNat b.field.toNat (received s)) := by
  rw [ask_taken u 1 table e b s h (notCopy_of_op hu (by decide)), runRequest_read hu]
  let x := clearOnRead u table.toNat b.index.toNat b.field.toNat (received s)
  have run : runRead (ownRequest u 1 table e b s) (takenState e.port s) =
      (x.setTif (x.tif.reserve e.port), echo .ok table b (BitVec.ofNat 16 v)) := by
    unfold runRead
    dsimp only
    rw [ownRequest_unit u hu, show (ownRequest u 1 table e b s).table = table from rfl,
      show (ownRequest u 1 table e b s).body = b from rfl, readField_taken, hread]
    dsimp only
    have cleared := clearOnRead_reserve u table.toNat b.index.toNat b.field.toNat (received s) e.port
    exact Prod.ext cleared rfl
  have own : ownRequest u 1 table e b s = ownRequest u 1 table e b x := by
    unfold ownRequest
    rw [show x.tif.strap = s.tif.strap from clearOnRead_strap _ _ _ _ _]
  rw [run, own]
  dsimp only
  rw [respond_taken u 1 table e b _ x (x.setTif (x.tif.reserve e.port)) rfl rfl]
  rfl

end

/-! ### Counters (R15, R57, R97, R178) -/

/-- The counters that the tables show. -/
inductive Counter where
  | port (p : Port) (f : Fin 8)
  | request (dropped : Bool)
  | notice (lost : Bool)
  | intake (k : Fin 48) (f : Fin 7)
  | yard (i : Fin 24)

/-- The unit whose table shows the counter. -/
def Counter.unit : Counter → Nat
  | port _ _ | request _ | notice _ => 0
  | intake _ _ => 1
  | yard _ => 2

/-- The table that shows it. -/
def Counter.table : Counter → Nat
  | notice _ => 2
  | port _ _ | request _ | intake _ _ | yard _ => 1

/-- The entry that shows it; the yard rejects are one counter in every entry. -/
def Counter.index : Counter → Nat
  | port p _ => portCode p
  | request _ => 2
  | notice _ => 0
  | intake k _ => k.val
  | yard i => i.val

/-- Its field. -/
def Counter.field : Counter → Nat
  | port _ f => f.val
  | request dropped => flagCode dropped
  | notice lost => 13 + flagCode lost
  | intake _ f => 23 + f.val
  | yard _ => 6

/-- The state with the counter at 0. -/
def Counter.clear (s : State) : Counter → State
  | port p f => s.modPort p fun ps => ps.clearCounter f.val
  | request dropped =>
    s.setMgu (if dropped then { s.mgu with dropped := 0 } else { s.mgu with received := 0 })
  | notice lost =>
    s.setNotices (if lost then { s.mgu.notices with lost := 0 } else { s.mgu.notices with queued := 0 })
  | intake k f => s.setIntake k ((s.intake k).clearCounter (23 + f.val))
  | yard _ => s.setPlu { s.plu with yardRejects := 0 }

section
variable {s : State} {u t i f : Nat}

theorem clearOnRead_counter (c : Counter) (s : State) :
    clearOnRead c.unit c.table c.index c.field s = c.clear s := by
  cases c with
  | port p f => cases p <;> rfl
  | request dropped => cases dropped <;> rfl
  | notice lost => cases lost <;> rfl
  | intake k f =>
    change (match indexOf 48 k.val with
      | some k => s.setIntake k ((s.intake k).clearCounter (23 + f.val))
      | none => s) = _
    rw [indexOf_val rfl] <;> rfl
  | yard i => rfl

/-- Every field that is a counter is one of these. -/
theorem counter_of_isCounterField {u : Fin 4} (h : isCounterField u t i f = true) :
    ∃ c : Counter, c.unit = u.val ∧ c.table = t ∧ c.index = i ∧ c.field = f := by
  unfold isCounterField at h
  split at h
  next hu =>
    rw [Bool.or_eq_true, Bool.and_eq_true, Bool.and_eq_true, decide_eq_true_iff, decide_eq_true_iff,
      beq_iff_eq, decide_eq_true_iff] at h
    rcases h with ⟨hi, hf⟩ | ⟨hi, hf⟩
    · refine ⟨.port (if i = 0 then .field else .quay) ⟨f, hf⟩, hu.symm, rfl, ?_, rfl⟩
      have : i = 0 ∨ i = 1 := by omega
      rcases this with rfl | rfl <;> rfl
    · refine ⟨.request (decide (f = 1)), hu.symm, rfl, hi.symm, ?_⟩
      have : f = 0 ∨ f = 1 := by omega
      rcases this with rfl | rfl <;> rfl
  next hu =>
    rw [Bool.and_eq_true, Bool.or_eq_true, beq_iff_eq, beq_iff_eq, beq_iff_eq] at h
    obtain ⟨hi, hf⟩ := h
    refine ⟨.notice (decide (f = 14)), hu.symm, rfl, hi.symm, ?_⟩
    rcases hf with rfl | rfl <;> rfl
  next hu =>
    rw [Bool.and_eq_true, Bool.and_eq_true, decide_eq_true_iff, decide_eq_true_iff,
      decide_eq_true_iff] at h
    obtain ⟨⟨hi, hlow⟩, hhigh⟩ := h
    refine ⟨.intake ⟨i, hi⟩ ⟨f - 23, by omega⟩, hu.symm, rfl, rfl, ?_⟩
    change 23 + (f - 23) = f
    omega
  next hu =>
    rw [Bool.and_eq_true, decide_eq_true_iff, beq_iff_eq] at h
    exact ⟨.yard ⟨i, h.1⟩, hu.symm, rfl, rfl, h.2.symm⟩
  next => cases h

/-! ### What the other tables show -/

theorem readEntry_modPort (h : ¬ (u = 0 ∧ t = 1)) (p : Port) {g : PortState → PortState} :
    readEntry u t i (s.modPort p g) = readEntry u t i s := by
  unfold readEntry
  split
  case h_2 => exact absurd ⟨rfl, rfl⟩ h
  all_goals cases p <;> rfl

theorem readEntry_setMgu (h : ¬ (u = 0 ∧ t = 1)) {m : Mgu} (hn : m.notices = s.mgu.notices)
    (hs : m.snapshot = s.mgu.snapshot) (hc : m.resetCause = s.mgu.resetCause)
    (hr : m.retiredAtRelease = s.mgu.retiredAtRelease) :
    readEntry u t i (s.setMgu m) = readEntry u t i s := by
  have identity : identityFields (s.setMgu m) = identityFields s := by
    unfold identityFields
    rw [State.setMgu_mgu, hc, hr]
    rfl
  unfold readEntry
  split
  case h_2 => exact absurd ⟨rfl, rfl⟩ h
  case h_3 => rw [State.setMgu_mgu, hn]
  case h_4 => rw [State.setMgu_mgu, hs]
  case h_5 => rw [identity]
  all_goals rfl

theorem readEntry_setNotices (h : ¬ (u = 0 ∧ t = 2)) (n : Notices) :
    readEntry u t i (s.setNotices n) = readEntry u t i s := by
  unfold readEntry
  split
  case h_3 => exact absurd ⟨rfl, rfl⟩ h
  all_goals rfl

theorem readEntry_setIntake (h : ¬ (u = 1 ∧ t = 1)) (k : Fin 48) (x : Intake) :
    readEntry u t i (s.setIntake k x) = readEntry u t i s := by
  unfold readEntry
  split
  case h_7 => exact absurd ⟨rfl, rfl⟩ h
  all_goals rfl

theorem readEntry_setPlu (h : ¬ (u = 2 ∧ t = 1)) {x : Plu} (hp : x.piles = s.plu.piles) :
    readEntry u t i (s.setPlu x) = readEntry u t i s := by
  have pile (k : Fin 24) : (s.setPlu x).pile k = s.pile k := by
    unfold State.pile
    rw [State.setPlu_plu, hp]
  unfold readEntry
  split
  case h_10 => exact absurd ⟨rfl, rfl⟩ h
  case h_9 => simp only [pile]
  all_goals rfl

/-! ### What a counter's own table shows -/

theorem portFields_clear (ps : PortState) (f : Fin 8) :
    portFields (ps.clearCounter f.val) = (portFields ps).set f.val 0 := by
  match f with
  | 0 | 1 | 2 | 3 | 4 | 5 | 6 | 7 => rfl

theorem stationFields_clear (st : Station) (it : Intake) (f : Fin 7) :
    stationFields st (it.clearCounter (23 + f.val)) = (stationFields st it).set (23 + f.val) 0 := by
  match f with
  | 0 | 1 | 2 | 3 | 4 | 5 | 6 => rfl

/-- The place of a counter in the tables. -/
def Counter.At (c : Counter) (u t i : Nat) : Prop :=
  u = c.unit ∧ t = c.table ∧ (i = c.index ∨ c.unit = 2)

theorem readEntry_trunk (i : Nat) (s : State) :
    readEntry 0 1 i s =
      if i = 0 then some (portFields s.tif.fieldPort)
      else if i = 1 then some (portFields s.tif.quayPort)
      else if i = 2 then some [s.mgu.received, s.mgu.dropped] else none := rfl

theorem readEntry_notices (i : Nat) (s : State) :
    readEntry 0 2 i s = if i = 0 then some (noticeFields s.mgu.notices) else none := rfl

theorem readEntry_stations (i : Nat) (s : State) :
    readEntry 1 1 i s = (indexOf 48 i).map fun k => stationFields (s.station k) (s.intake k) := rfl

theorem readEntry_piles (i : Nat) (s : State) :
    readEntry 2 1 i s = (indexOf 24 i).map fun k => pileFields (s.pile k).dyn s.plu.yardRejects := rfl

theorem readEntry_clearPort (p : Port) (f : Fin 8) (i : Nat) (s : State) :
    readEntry 0 1 i ((Counter.port p f).clear s) =
      if i = portCode p then (readEntry 0 1 i s).map fun l => l.set f.val 0
      else readEntry 0 1 i s := by
  have cleared (q : Port) : portFields (((Counter.port p f).clear s).tif.port q) =
      if q = p then (portFields (s.tif.port q)).set f.val 0 else portFields (s.tif.port q) := by
    have port : ((Counter.port p f).clear s).tif.port q =
        if q = p then (s.tif.port q).clearCounter f.val else s.tif.port q :=
      Tif.port_modPort _ _ _ _
    rw [port]
    split
    · exact portFields_clear _ f
    · rfl
  have field := cleared .field
  have quay := cleared .quay
  have mgu : ((Counter.port p f).clear s).mgu = s.mgu := rfl
  change portFields ((Counter.port p f).clear s).tif.fieldPort =
    if .field = p then (portFields s.tif.fieldPort).set f.val 0
    else portFields s.tif.fieldPort at field
  change portFields ((Counter.port p f).clear s).tif.quayPort =
    if .quay = p then (portFields s.tif.quayPort).set f.val 0
    else portFields s.tif.quayPort at quay
  rw [readEntry_trunk, readEntry_trunk, field, quay, mgu]
  cases p with
  | field =>
    rw [if_pos rfl, if_neg (by decide : ¬ Port.quay = .field)]
    change _ = if i = 0 then _ else _
    by_cases h0 : i = 0
    · simp [h0]
    · simp [h0]
  | quay =>
    rw [if_pos rfl, if_neg (by decide : ¬ Port.field = .quay)]
    change _ = if i = 1 then _ else _
    by_cases h1 : i = 1
    · simp [h1]
    · simp [h1]

/-- A counter at 0 shows in its own fields and in no other. -/
theorem readEntry_clear (c : Counter) (u t i : Nat) (s : State) :
    (c.At u t i → readEntry u t i (c.clear s) = (readEntry u t i s).map fun l => l.set c.field 0) ∧
    (¬ c.At u t i → readEntry u t i (c.clear s) = readEntry u t i s) := by
  by_cases htable : u = c.unit ∧ t = c.table
  case neg =>
    refine ⟨fun h => absurd ⟨h.1, h.2.1⟩ htable, fun _ => ?_⟩
    cases c with
    | port p f => exact readEntry_modPort htable p
    | request dropped => cases dropped <;> exact readEntry_setMgu htable rfl rfl rfl rfl
    | notice lost => exact readEntry_setNotices htable _
    | intake k f => exact readEntry_setIntake htable k _
    | yard k => exact readEntry_setPlu htable rfl
  obtain ⟨rfl, rfl⟩ := htable
  have here : c.At c.unit c.table i ↔ i = c.index ∨ c.unit = 2 :=
    ⟨fun h => h.2.2, fun h => ⟨rfl, rfl, h⟩⟩
  rw [here]
  cases c with
  | port p f =>
    have entry := readEntry_clearPort p f i s
    refine ⟨fun h => ?_, fun h => ?_⟩
    · exact entry.trans (if_pos (h.resolve_right (by decide : ¬ (0 = 2))))
    · exact entry.trans (if_neg fun hi => h (.inl hi))
  | request dropped =>
    change (i = 2 ∨ 0 = 2 → readEntry 0 1 i _ = (readEntry 0 1 i s).map _) ∧
      (¬ (i = 2 ∨ 0 = 2) → readEntry 0 1 i _ = readEntry 0 1 i s)
    have tif : ((Counter.request dropped).clear s).tif = s.tif := rfl
    refine ⟨fun h => ?_, fun h => ?_⟩
    · have hi := h.resolve_right (by decide)
      subst hi
      cases dropped <;> rfl
    · rw [readEntry_trunk, readEntry_trunk, tif, if_neg fun hi => h (.inl hi),
        if_neg fun hi => h (.inl hi)]
  | notice lost =>
    change (i = 0 ∨ 0 = 2 → readEntry 0 2 i _ = (readEntry 0 2 i s).map _) ∧
      (¬ (i = 0 ∨ 0 = 2) → readEntry 0 2 i _ = readEntry 0 2 i s)
    rw [readEntry_notices, readEntry_notices]
    refine ⟨fun h => ?_, fun h => ?_⟩
    · have hi := h.resolve_right (by decide)
      rw [if_pos hi, if_pos hi]
      cases lost <;> rfl
    · rw [if_neg fun hi => h (.inl hi), if_neg fun hi => h (.inl hi)]
  | intake k f =>
    change (i = k.val ∨ 1 = 2 → readEntry 1 1 i _ = (readEntry 1 1 i s).map _) ∧
      (¬ (i = k.val ∨ 1 = 2) → readEntry 1 1 i _ = readEntry 1 1 i s)
    rw [readEntry_stations, readEntry_stations]
    have station (j : Fin 48) : ((Counter.intake k f).clear s).station j = s.station j := rfl
    have intake (j : Fin 48) : ((Counter.intake k f).clear s).intake j =
        if j = k then (s.intake k).clearCounter (23 + f.val) else s.intake j := tableSet_get _ _ _ _
    simp only [station, intake]
    refine ⟨fun h => ?_, fun h => ?_⟩
    · rw [indexOf_val (h.resolve_right (by decide)), Option.map_some, Option.map_some, if_pos rfl,
        stationFields_clear]
      rfl
    · cases hj : indexOf 48 i with
      | none => rfl
      | some j =>
        have value : i = j.val := by
          unfold indexOf at hj
          split at hj
          · cases hj; rfl
          · cases hj
        rw [Option.map_some, Option.map_some, if_neg fun hjk : j = k => h (.inl (by rw [value, hjk]))]
  | yard k =>
    change (i = k.val ∨ 2 = 2 → readEntry 2 1 i _ = (readEntry 2 1 i s).map _) ∧
      (¬ (i = k.val ∨ 2 = 2) → readEntry 2 1 i _ = readEntry 2 1 i s)
    refine ⟨fun _ => ?_, fun h => absurd (.inr rfl) h⟩
    rw [readEntry_piles, readEntry_piles, Option.map_map]
    rfl

/-! ### What a cleared counter leaves -/

theorem clearCounter_port (ps : PortState) (f : Nat) :
    (ps.clearCounter f).framer = ps.framer ∧ (ps.clearCounter f).transit = ps.transit ∧
      (ps.clearCounter f).queue = ps.queue ∧ (ps.clearCounter f).reserved = ps.reserved ∧
      (ps.clearCounter f).sending = ps.sending ∧ (ps.clearCounter f).lastTaken = ps.lastTaken ∧
      (ps.clearCounter f).crcTally = ps.crcTally ∧ (ps.clearCounter f).dropTally = ps.dropTally := by
  unfold PortState.clearCounter
  split <;> exact ⟨rfl, rfl, rfl, rfl, rfl, rfl, rfl, rfl⟩

theorem clearCounter_intake (it : Intake) (f : Nat) :
    (it.clearCounter f).reading = it.reading ∧ (it.clearCounter f).pendingA = it.pendingA ∧
      (it.clearCounter f).lastOffset = it.lastOffset := by
  unfold Intake.clearCounter
  split <;> exact ⟨rfl, rfl, rfl⟩

theorem Counter.clear_blocks (c : Counter) (s : State) :
    (c.clear s).rct = s.rct ∧ (c.clear s).stu = s.stu ∧ (c.clear s).plu.piles = s.plu.piles ∧
      (c.clear s).pju = s.pju ∧ (c.clear s).znu = s.znu ∧ (c.clear s).out = s.out ∧
      (c.clear s).stage = s.stage ∧ (c.clear s).tif.markSlot = s.tif.markSlot ∧
      (c.clear s).tif.strap = s.tif.strap ∧
      (c.clear s).mgu =
        { s.mgu with
          received := (c.clear s).mgu.received, dropped := (c.clear s).mgu.dropped
          notices :=
            { s.mgu.notices with
              queued := (c.clear s).mgu.notices.queued, lost := (c.clear s).mgu.notices.lost } } := by
  cases c with
  | port p f =>
    exact ⟨rfl, rfl, rfl, rfl, rfl, rfl, rfl, Tif.modPort_markSlot _ _ _, Tif.modPort_strap _ _ _, rfl⟩
  | request dropped => cases dropped <;> exact ⟨rfl, rfl, rfl, rfl, rfl, rfl, rfl, rfl, rfl, rfl⟩
  | notice lost => cases lost <;> exact ⟨rfl, rfl, rfl, rfl, rfl, rfl, rfl, rfl, rfl, rfl⟩
  | intake k f => exact ⟨rfl, rfl, rfl, rfl, rfl, rfl, rfl, rfl, rfl, rfl⟩
  | yard k => exact ⟨rfl, rfl, rfl, rfl, rfl, rfl, rfl, rfl, rfl, rfl⟩

theorem Counter.clear_intake (c : Counter) (s : State) (j : Fin 48) :
    ((c.clear s).intake j).reading = (s.intake j).reading ∧
      ((c.clear s).intake j).pendingA = (s.intake j).pendingA ∧
      ((c.clear s).intake j).lastOffset = (s.intake j).lastOffset := by
  cases c with
  | intake k f =>
    have intake : ((Counter.intake k f).clear s).intake j =
        if j = k then (s.intake k).clearCounter (23 + f.val) else s.intake j := tableSet_get _ _ _ _
    rw [intake]
    split
    next h => rw [h]; exact clearCounter_intake _ _
    next => exact ⟨rfl, rfl, rfl⟩
  | port p f => exact ⟨rfl, rfl, rfl⟩
  | request dropped => exact ⟨rfl, rfl, rfl⟩
  | notice lost => exact ⟨rfl, rfl, rfl⟩
  | yard k => exact ⟨rfl, rfl, rfl⟩

theorem Counter.clear_port (c : Counter) (s : State) (q : Port) :
    ((c.clear s).tif.port q).framer = (s.tif.port q).framer ∧
      ((c.clear s).tif.port q).transit = (s.tif.port q).transit ∧
      ((c.clear s).tif.port q).queue = (s.tif.port q).queue ∧
      ((c.clear s).tif.port q).reserved = (s.tif.port q).reserved ∧
      ((c.clear s).tif.port q).sending = (s.tif.port q).sending ∧
      ((c.clear s).tif.port q).lastTaken = (s.tif.port q).lastTaken ∧
      ((c.clear s).tif.port q).crcTally = (s.tif.port q).crcTally ∧
      ((c.clear s).tif.port q).dropTally = (s.tif.port q).dropTally := by
  cases c with
  | port p f =>
    have port : ((Counter.port p f).clear s).tif.port q =
        if q = p then (s.tif.port q).clearCounter f.val else s.tif.port q :=
      Tif.port_modPort _ _ _ _
    rw [port]
    split
    · exact clearCounter_port _ _
    · exact ⟨rfl, rfl, rfl, rfl, rfl, rfl, rfl, rfl⟩
  | request dropped => exact ⟨rfl, rfl, rfl, rfl, rfl, rfl, rfl, rfl⟩
  | notice lost => exact ⟨rfl, rfl, rfl, rfl, rfl, rfl, rfl, rfl⟩
  | intake k f => exact ⟨rfl, rfl, rfl, rfl, rfl, rfl, rfl, rfl⟩
  | yard k => exact ⟨rfl, rfl, rfl, rfl, rfl, rfl, rfl, rfl⟩

/-! ### What a counter's fields show before and after (R170) -/

/-- A counter's entry is there, and has its field. -/
theorem readEntry_at (c : Counter) (s : State) :
    ∃ l, readEntry c.unit c.table c.index s = some l ∧ c.field < l.length := by
  cases c with
  | port p f => cases p <;> exact ⟨_, rfl, f.isLt⟩
  | request dropped =>
    cases dropped with
    | false => exact ⟨_, rfl, (by decide : 0 < 2)⟩
    | true => exact ⟨_, rfl, (by decide : 1 < 2)⟩
  | notice lost =>
    cases lost with
    | false => exact ⟨_, rfl, (by decide : 13 < 15)⟩
    | true => exact ⟨_, rfl, (by decide : 14 < 15)⟩
  | intake k f =>
    refine ⟨stationFields (s.station k) (s.intake k), ?_, ?_⟩
    · exact (readEntry_stations k.val s).trans (by rw [indexOf_val rfl]; rfl)
    · change 23 + f.val < 30
      omega
  | yard k =>
    refine ⟨pileFields (s.pile k).dyn s.plu.yardRejects, ?_, (by decide : 6 < 7)⟩
    exact (readEntry_piles k.val s).trans (by rw [indexOf_val rfl]; rfl)

/-- A READ of a cleared counter answers 0, and a field that is not the counter's reads as before. -/
theorem readField_clear (c : Counter) (s : State) :
    (∃ v, readField c.unit c.table c.index c.field s = some v) ∧
    readField c.unit c.table c.index c.field (c.clear s) = some 0 ∧
    ∀ u t i f, u ≠ c.unit ∨ t ≠ c.table ∨ f ≠ c.field ∨ (i ≠ c.index ∧ c.unit ≠ 2) →
      readField u t i f (c.clear s) = readField u t i f s := by
  obtain ⟨l, hl, hlt⟩ := readEntry_at c s
  have here : c.At c.unit c.table c.index := ⟨rfl, rfl, .inl rfl⟩
  refine ⟨⟨l[c.field], ?_⟩, ?_, fun u t i f h => ?_⟩
  · unfold readField
    rw [hl]
    exact List.getElem?_eq_getElem hlt
  · unfold readField
    rw [(readEntry_clear c _ _ _ s).1 here, hl]
    change (l.set c.field 0)[c.field]? = some 0
    exact List.getElem?_set_self hlt
  · unfold readField
    by_cases hat : c.At u t i
    · have hf : f ≠ c.field := by
        obtain ⟨hu, ht, hi⟩ := hat
        rcases h with h | h | h | ⟨h, hunit⟩
        · exact absurd hu h
        · exact absurd ht h
        · exact h
        · exact absurd (hi.resolve_right hunit) h
      rw [(readEntry_clear c u t i s).1 hat]
      cases readEntry u t i s with
      | none => rfl
      | some l => exact List.getElem?_set_ne hf.symm
    · rw [(readEntry_clear c u t i s).2 hat]

/-- Every pile's entry shows the one counter of yard rejects. -/
theorem readField_yardRejects {k : Nat} (hk : k < 24) (s : State) :
    readField 2 1 k 6 s = some s.plu.yardRejects := by
  unfold readField
  rw [readEntry_piles, indexOf_val (i := ⟨k, hk⟩) rfl]
  rfl

end

/-! ### The notice status (R173) -/

/-- A counter of unit 2 is that of the yard rejects. -/
theorem yard_of_unit {c : Counter} (h : c.unit = 2) {s : State} {v : Nat}
    (hv : readField c.unit c.table c.index c.field s = some v) :
    v = s.plu.yardRejects ∧ (c.clear s).plu.yardRejects = 0 := by
  cases c with
  | yard k =>
    refine ⟨?_, rfl⟩
    exact Option.some.inj (hv.symm.trans (readField_yardRejects k.isLt s))
  | port | request | notice | intake => cases h

/-- The bits of the notice status field. -/
theorem statusWord_bits (a b c d e f g : Bool) :
    let w : Word := BitVec.ofNat 16 (flagCode a + 2 * flagCode b + 4 * flagCode c
      + 8 * flagCode d + 16 * flagCode e + 32 * flagCode f + 64 * flagCode g)
    w.getLsbD 0 = a ∧ w.getLsbD 1 = b ∧ w.getLsbD 2 = c ∧ w.getLsbD 3 = d ∧ w.getLsbD 4 = e ∧
      w.getLsbD 5 = f ∧ w.getLsbD 6 = g ∧ w.toNat < 128 := by
  revert a b c d e f g
  decide

/-- Settles O56: a READ clears the counter it answers, which no other field shows, or the statuses. -/
theorem counterAndStatusReadsClear : Obligations.CounterAndStatusReadsClear := by
  refine ⟨fun e unit table b s h hwf => ?_, fun e data s h => ?_⟩
  · intro i f
    obtain ⟨c, hu, ht, hi, hf⟩ := counter_of_isCounterField hwf
    obtain ⟨⟨v, hv⟩, hzero, hothers⟩ := readField_clear c (received s)
    obtain ⟨rct, stu, piles, pju, znu, out, stage, mark, strap, mgu⟩ := c.clear_blocks (received s)
    have cleared := clearOnRead_counter c (received s)
    have yard (hunit : c.unit = 2) := yard_of_unit hunit hv
    have run := ask_read unit.isLt h (b := b) (table := table) (v := v)
      (by rw [hu, ht, hi, hf] at hv; exact hv)
    rw [← hu, ← ht, ← hi, ← hf, cleared, hu] at run
    rw [hu, ht, hi, hf] at hv hzero hothers
    refine ⟨v, c.clear (received s), hv, (whenReleased_free h.released).trans (congrArg _ run), hzero,
      hothers, fun hyard k hk => ?_, rct, stu, piles, pju, znu, out, stage, mark, strap, mgu,
      c.clear_intake (received s), c.clear_port (received s)⟩
    obtain ⟨value, zero⟩ := yard (by rw [hu, hyard]; rfl)
    rw [readField_yardRejects hk, readField_yardRejects hk, zero, value]
    exact ⟨rfl, rfl⟩
  · intro n off
    let field := n.statusField
    obtain ⟨b0, b1, b2, b3, b4, b5, b6, hlow⟩ := statusWord_bits n.zone.status n.station.status
      n.pile.status n.round.status n.drill.status n.trunk.status n.lostFlag
    refine ⟨BitVec.ofNat 16 field, b0, b1, b2, b3, b4, b5, b6, fun k hk => ?_, ?_⟩
    · have bound : 128 ≤ 2 ^ k := Nat.pow_le_pow_right (n := 2) (by decide) hk
      exact Nat.testBit_lt_two_pow (Nat.lt_of_lt_of_le hlow bound)
    · refine (whenReleased_free h.released).trans (congrArg _ ?_)
      have run := ask_read (u := 0) (by decide) h (table := 2)
        (b := { index := 0, field := 12, data := data }) (v := field) rfl
      exact run

end Sys2Proof.Machine
end

section
/-! Proofs about the arrival of a request: what is dropped, what waits, and what a request that is taken
at once answers (R166 to R171, R177). -/

namespace Sys2Proof.Machine

/-! ### The entries of the tables (R166, R183) -/

section
variable {u t i f n : Nat} {s : State}

/-- An entry of as many fields as the table has at an index, where it has one. -/
theorem indexOf_length {l : Fin n → List Nat} (m : Nat) (h : ∀ k, (l k).length = m) :
    (((indexOf n i).map l).map List.length).getD 0 = if i < n then m else 0 := by
  by_cases hi : i < n
  · rw [indexOf_val (i := ⟨i, hi⟩) rfl, if_pos hi]
    exact h _
  · rw [indexOf_beyond (Nat.le_of_not_lt hi), if_neg hi]
    rfl

theorem snapshotEntry_length (x : Snapshot) (i : Nat) :
    ((snapshotEntry x i).map List.length).getD 0 =
      if i = 0 then 3 else if i ≤ 48 then 6 else if i ≤ 80 then 5 else 0 := by
  unfold snapshotEntry
  split
  next => rfl
  next h0 =>
    split
    next h48 =>
      rw [indexOf_length 6 fun _ => rfl, if_pos (by omega)]
    next h48 =>
      rw [indexOf_length 5 fun _ => rfl]
      exact if_congr (by omega) rfl rfl

theorem ite_length {c : Prop} [Decidable c] (l : List Nat) :
    ((if c then some l else none).map List.length).getD 0 = if c then l.length else 0 := by
  split <;> rfl

theorem plumeEntry_length (p : Plume) (i : Nat) :
    ((plumeEntry p i).map List.length).getD 0 = if i < 1536 then 3 else 0 :=
  ite_length _

theorem zoneFields_length (z : Zone) : (zoneFields z).length = 28 := by
  unfold zoneFields
  rw [List.length_append, Vector.length_toList]
  rfl

/-- An entry has as many fields as its table says. -/
theorem readEntry_length (u t i : Nat) (s : State) :
    ((readEntry u t i s).map List.length).getD 0 = fieldCount u t i := by
  unfold readEntry
  split
  case h_2 =>
    change _ = if i < 2 then 8 else if i = 2 then 2 else 0
    rcases i with _ | _ | i
    · rfl
    · rfl
    · exact (ite_length _).trans (if_neg (by omega)).symm
  case h_4 => exact snapshotEntry_length _ i
  case h_6 => exact indexOf_length 18 fun _ => rfl
  case h_7 => exact indexOf_length 30 fun _ => rfl
  case h_8 => exact indexOf_length 2 fun _ => rfl
  case h_9 => exact indexOf_length 4 fun _ => rfl
  case h_10 => exact indexOf_length 7 fun _ => rfl
  case h_12 =>
    change _ = if i < 1536 then 3 else if i = 1536 then 4 else 0
    split
    next h => rw [if_neg (by omega)]; rfl
    next h => exact plumeEntry_length _ i
  case h_13 => exact indexOf_length 17 fun _ => rfl
  case h_14 => exact indexOf_length 19 fun _ => rfl
  case h_15 => exact indexOf_length 28 fun _ => zoneFields_length _
  case h_16 =>
    change _ = if i < 8 then 4 else if i = 8 then 1 else 0
    split
    next h => rw [if_neg (by omega)]; rfl
    next h => exact indexOf_length 4 fun _ => rfl
  case h_18 =>
    simp only [fieldCount]
    rfl
  all_goals exact ite_length _

theorem readField_isSome : (readField u t i f s).isSome = true ↔ f < fieldCount u t i := by
  rw [← readEntry_length u t i s]
  unfold readField
  cases readEntry u t i s with
  | none => exact ⟨nofun, nofun⟩
  | some l =>
    change (l[f]?).isSome = true ↔ f < l.length
    rw [isSome_getElem?]

theorem clearCounter_keeps {it : Intake} (h : f < 23 ∨ 29 < f) : it.clearCounter f = it := by
  unfold Intake.clearCounter
  split
  case h_8 => rfl
  all_goals omega

/-- A READ of a field that is no counter and not the notice status clears nothing. -/
theorem clearOnRead_keeps {u : Fin 4} (hf : f < fieldCount u.val t i)
    (hc : isCounterField u t i f = false) (hn : ¬ (u = 0 ∧ t = 2 ∧ f = 12)) :
    clearOnRead u.val t i f s = s := by
  obtain ⟨u, hu⟩ := u
  unfold isCounterField at hc
  dsimp only at hc hf hn ⊢
  unfold clearOnRead
  split
  case h_1 =>
    have count : f < if i < 2 then 8 else if i = 2 then 2 else 0 := hf
    have shown : ((i < 2 && f < 8) || (i == 2 && f < 2)) = false := hc
    simp only [Bool.or_eq_false_iff, Bool.and_eq_false_iff, decide_eq_false_iff_not,
      beq_eq_false_iff_ne] at shown
    split at count
    next => omega
    next => split at count <;> omega
  case h_2 =>
    have count : f < if i = 0 then 15 else 0 := hf
    have shown : (i == 0 && (f == 13 || f == 14)) = false := hc
    simp only [Bool.or_eq_false_iff, Bool.and_eq_false_iff, beq_eq_false_iff_ne] at shown
    have : f ≠ 12 := fun h => hn ⟨rfl, rfl, h⟩
    split at count
    next => rw [if_neg this, if_neg (by omega), if_neg (by omega)]
    next => omega
  case h_3 =>
    have count : f < if i < 48 then 30 else 0 := hf
    have shown : (decide (i < 48) && 23 ≤ f && f ≤ 29) = false := hc
    simp only [Bool.and_eq_false_iff, decide_eq_false_iff_not] at shown
    split at count
    next hi =>
      rw [indexOf_val (i := ⟨i, hi⟩) rfl]
      dsimp only
      rw [clearCounter_keeps (by omega)]
      exact congrArg s.setSin (tableSet_self _ _)
    next => omega
  case h_4 =>
    have count : f < if i < 24 then 7 else 0 := hf
    have shown : (decide (i < 24) && f == 6) = false := hc
    simp only [Bool.and_eq_false_iff, decide_eq_false_iff_not, beq_eq_false_iff_ne] at shown
    split at count
    next => exact if_neg (by omega)
    next => omega
  case h_5 => rfl

end

/-! ### Requests that wait or are dropped (R167, R168) -/

section
variable {u : Nat} {op table : Byte} {e : Envelope} {b : Body} {s : State} {r : Request}

theorem mayTake_iff_canTake : MayTake r s ↔ canTake r s = true := by
  unfold canTake
  rw [Bool.and_eq_true, Bool.and_eq_true, decide_eq_true_iff, bne_iff_ne, Option.isNone_iff_eq_none]
  exact ⟨fun h => ⟨⟨h.executing, h.phase⟩, h.room⟩, fun h => ⟨h.1.1, h.1.2, h.2⟩⟩

/-- A request that executes, and a round in evaluation, keep every head waiting. -/
theorem canTake_busy (h : s.mgu.executing.isSome = true ∨ s.rct.phase = .evaluating) :
    canTake r s = false := by
  rw [Bool.eq_false_iff, Ne, ← mayTake_iff_canTake]
  intro may
  rcases h with h | h
  · rw [may.executing] at h
    cases h
  · exact may.phase h

theorem canTake_full (h : (s.tif.port r.port).room = 0) : canTake r s = false := by
  rw [Bool.eq_false_iff, Ne, ← mayTake_iff_canTake]
  intro may
  have room := may.room
  omega

/-- The state with one more request waiting. -/
def queuedLast (r : Request) (s : State) : State :=
  s.setMgu
    { s.mgu with
      requests := s.mgu.requests ++ [r], received := min 65535 (s.mgu.received + 1) }

theorem requestArrives_dropped (h : 4 ≤ s.mgu.requests.length) :
    requestArrives r s = s.setMgu { s.mgu with dropped := min 65535 (s.mgu.dropped + 1) } :=
  if_neg (Nat.not_lt.mpr h)

theorem requestArrives_queued (h : s.mgu.requests.length < 4) :
    requestArrives r s = serveQueue (queuedLast r s) :=
  if_pos h

/-- A request behind a head that MGU may not take waits. -/
theorem requestArrives_waits (h : s.mgu.requests.length < 4)
    (hno : ∀ head rest, s.mgu.requests ++ [r] = head :: rest → canTake head s = false) :
    requestArrives r s = queuedLast r s := by
  rw [requestArrives_queued h]
  exact serve_waits _ _ hno

theorem exec_arrival (unit : Fin 4) (hr : s.resetHeld = none) :
    exec (.mreqArrival unit e op table b) s = .next (ask unit.val op table e b s) :=
  whenReleased_free hr

/-! ### What a request that is taken at once is refused or answered (R169 to R171, R177) -/

theorem ask_badOp {u : Nat} (hu : u < 4) (h : TakesAtOnce e.port s) (h1 : op ≠ 1) (h2 : op ≠ 2)
    (h3 : op ≠ 3) :
    ask u op table e b s = received (answered u e (echo .badValue table b b.data) s) := by
  refine ask_unchanged h (notCopy_of_op hu h3) ?_
  have notCopy : (ownRequest u op table e b s).isCopy = false := by
    rw [ownRequest_isCopy hu, beq_eq_false_iff_ne.mpr h3]
    rfl
  unfold runRequest
  rw [notCopy]
  exact (if_neg h1).trans ((if_neg h2).trans (if_neg h3))

theorem ask_unknownRead {u : Nat} (hu : u < 4) (h : TakesAtOnce e.port s)
    (hf : fieldCount u table.toNat b.index.toNat ≤ b.field.toNat) :
    ask u 1 table e b s = received (answered u e (echo .badAddr table b b.data) s) := by
  refine ask_unchanged h (notCopy_of_op hu (by decide)) ?_
  have unknown : readField u table.toNat b.index.toNat b.field.toNat (takenState e.port s) = none :=
    Option.not_isSome_iff_eq_none.mp (readField_isSome.not.mpr (Nat.not_lt.mpr hf))
  rw [runRequest_read hu]
  unfold runRead
  dsimp only
  rw [ownRequest_unit u hu, show (ownRequest u 1 table e b s).table = table from rfl,
    show (ownRequest u 1 table e b s).body = b from rfl, unknown]
  rfl

theorem ask_readOnly {u : Nat} (hu : u < 4) (h : TakesAtOnce e.port s)
    (hf : writableCount u table.toNat b.index.toNat ≤ b.field.toNat) :
    ask u 2 table e b s = received (answered u e (echo .badAddr table b b.data) s) := by
  refine ask_write_refused hu h ?_
  rw [writeField_beyond hf]
  rfl

theorem ask_unknownCommand {u : Nat} (hu : u < 4) (h : TakesAtOnce e.port s)
    (ht : table.toNat ∉ commandCodes u) :
    ask u 3 table e b s = received (answered u e (echo .badAddr table b b.data) s) := by
  have notCopy : u ≠ 0 ∨ table ≠ 5 := by
    by_contra both
    rw [not_or, not_not, not_not] at both
    obtain ⟨rfl, rfl⟩ := both
    exact ht (by decide)
  refine ask_unchanged h (notCopy_of_table hu notCopy) ?_
  rw [runRequest_command hu notCopy]
  unfold runCommand
  rw [ownRequest_unit u hu, show (ownRequest u 3 table e b s).table = table from rfl]
  generalize table.toNat = t at ht ⊢
  split
  case h_10 => rfl
  all_goals exact absurd (by decide) ht

theorem ask_plainRead {unit : Fin 4} (h : TakesAtOnce e.port s)
    (hf : b.field.toNat < fieldCount unit.val table.toNat b.index.toNat)
    (hc : isCounterField unit table.toNat b.index.toNat b.field.toNat = false)
    (hn : ¬ (unit = 0 ∧ table = 2 ∧ b.field.toNat = 12)) {v : Nat}
    (hread : readField unit.val table.toNat b.index.toNat b.field.toNat (received s) = some v) :
    ask unit.val 1 table e b s =
      received (answered unit.val e (echo .ok table b (BitVec.ofNat 16 v)) s) := by
  rw [ask_read unit.isLt h hread, clearOnRead_keeps hf hc]
  · rfl
  · exact fun ⟨hu, ht, hf⟩ => hn ⟨hu, BitVec.eq_of_toNat_eq ht, hf⟩

/-- The clauses of O58 about a request's arrival (R166 to R171, R177). -/
theorem requestsArrive (unit : Fin 4) (e : Envelope) (op table : Byte) (b : Body) (s : State)
    (hr : s.resetHeld = none) :
    let arrives := exec (.mreqArrival unit e op table b) s
    let request := ownRequest unit.val op table e b s
    let waits := queuedLast request s
    let answers := fun (a : Reply) => arrives = .next (received (answered unit.val e a s))
    let i := b.index.toNat
    let f := b.field.toNat
    let fields := fieldCount unit.val table.toNat i
    (4 ≤ s.mgu.requests.length →
      arrives = .next (s.setMgu { s.mgu with dropped := min 65535 (s.mgu.dropped + 1) })) ∧
    (s.mgu.requests.length < 4 → s.mgu.executing.isSome = true ∨ s.rct.phase = .evaluating →
      arrives = .next waits) ∧
    (s.mgu.requests = [] → (s.tif.port e.port).room = 0 → arrives = .next waits) ∧
    (∀ r rest, s.mgu.requests = r :: rest → rest.length < 3 →
      (s.tif.port r.port).room = 0 → arrives = .next waits) ∧
    (TakesAtOnce e.port s → arrives = .next (takeRequest request (received s))) ∧
    (TakesAtOnce e.port s → op ≠ 1 → op ≠ 2 → op ≠ 3 →
      answers (echo .badValue table b b.data)) ∧
    (TakesAtOnce e.port s → op = 1 → fields ≤ f → answers (echo .badAddr table b b.data)) ∧
    (TakesAtOnce e.port s → op = 2 → writableCount unit.val table.toNat i ≤ f →
      answers (echo .badAddr table b b.data)) ∧
    (TakesAtOnce e.port s → op = 3 → table.toNat ∉ commandCodes unit.val →
      answers (echo .badAddr table b b.data)) ∧
    (TakesAtOnce e.port s → op = 1 → f < fields → isCounterField unit table.toNat i f = false →
      ¬ (unit = 0 ∧ table = 2 ∧ f = 12) →
      ∃ value, readField unit.val table.toNat i f (received s) = some value ∧
        answers (echo .ok table b (BitVec.ofNat 16 value))) ∧
    (∀ k, TakesAtOnce e.port s → op = 1 → unit = 0 → table = 4 → b.index = 0 → k < 6 →
      b.field.toNat = k →
      answers (echo .ok table b (BitVec.ofNat 16
        ([0x2E41, 0x0C98, 1, s.tif.strap.toNat, s.mgu.resetCause.code,
          s.mgu.retiredAtRelease].getD k 0)))) := by
  intro arrives request waits answers i f fields
  have gives {t : State} (h : ask unit.val op table e b s = t) : arrives = .next t :=
    (exec_arrival unit hr).trans (congrArg _ h)
  have head {r : Request} (h : s.mgu.requests.length < 4)
      (hno : ∀ head rest, s.mgu.requests ++ [request] = head :: rest → canTake head s = false) :
      arrives = .next waits := gives (requestArrives_waits h hno)
  refine ⟨fun h => gives (requestArrives_dropped h),
    fun h hbusy => gives (requestArrives_waits h fun _ _ _ => canTake_busy hbusy),
    fun hnone hfull => gives (requestArrives_waits (by rw [hnone]; decide) fun r rest hq => ?_),
    fun r rest hq hlen hfull => gives (requestArrives_waits (by rw [hq]; exact Nat.succ_lt_succ hlen)
      fun r' rest' hq' => ?_),
    fun h => gives (ask_takes _ op table e b s h),
    fun h h1 h2 h3 => gives (ask_badOp unit.isLt h h1 h2 h3), ?_, ?_, ?_, ?_, ?_⟩
  case refine_1 =>
    rw [hnone] at hq
    cases hq
    exact canTake_full hfull
  case refine_2 =>
    rw [hq] at hq'
    cases hq'
    exact canTake_full hfull
  case refine_3 => rintro h rfl hf; exact gives (ask_unknownRead unit.isLt h hf)
  case refine_4 => rintro h rfl hf; exact gives (ask_readOnly unit.isLt h hf)
  case refine_5 => rintro h rfl ht; exact gives (ask_unknownCommand unit.isLt h ht)
  case refine_6 =>
    rintro h rfl hf hc hn
    obtain ⟨v, hread⟩ := Option.isSome_iff_exists.mp (readField_isSome.mpr hf)
    exact ⟨v, hread, gives (ask_plainRead h hf hc hn hread)⟩
  case refine_7 =>
    rintro k h rfl rfl rfl hi hk hfield
    have index : b.index.toNat = 0 := by rw [hi]; rfl
    refine gives (ask_plainRead h ?_ ?_ (fun hn => absurd hn.2.1 (by decide)) ?_)
    · rw [index, hfield]
      exact hk
    · rfl
    · rw [index, hfield]
      interval_cases k <;> rfl

end

end Sys2Proof.Machine
end

section
/-! Proofs about what neither reads nor changes MGU's request queue: the commands that ask nothing (R9,
R22 to R34, R101 to R139, R163, R167). -/

namespace Sys2Proof.Machine

section
variable {f g : State → State} {s : State} {l : List Request}

/-- `f` neither reads nor changes the queue of requests. -/
def Apart (f : State → State) : Prop := ∀ l s, f (withRequests l s) = withRequests l (f s)

theorem withRequests_unseen (l : List Request) : Unseen (withRequests l) :=
  ⟨fun _ => rfl, fun _ => rfl, fun _ => rfl, fun _ _ => rfl, fun _ _ => rfl⟩

theorem withRequests_own (s : State) : withRequests s.mgu.requests (withRequests [] s) = s := rfl

/-- What an empty queue gives, any queue gives beside itself. -/
theorem Apart.beside (h : Apart f) (s : State) :
    f s = withRequests s.mgu.requests (f (withRequests [] s)) :=
  (congrArg f (withRequests_own s).symm).trans (h _ _)

theorem Apart.comp (hf : Apart f) (hg : Apart g) : Apart fun s => f (g s) := fun l s =>
  (congrArg f (hg l s)).trans (hf l (g s))

theorem Apart.rest : Apart fun s => s := fun _ _ => rfl

theorem Apart.ite {c : State → Prop} [DecidablePred c] (hc : ∀ l s, c (withRequests l s) ↔ c s)
    (hf : Apart f) (hg : Apart g) : Apart fun s => if c s then f s else g s := fun l s => by
  by_cases h : c s
  · exact (if_pos ((hc l s).mpr h)).trans ((hf l s).trans (congrArg _ (if_pos h).symm))
  · exact (if_neg ((hc l s).not.mpr h)).trans ((hg l s).trans (congrArg _ (if_neg h).symm))

theorem raiseAll_withRequests (events : List (NoticeClass × Report)) (l : List Request) (s : State) :
    raiseAll events (withRequests l s) = withRequests l (raiseAll events s) :=
  (withRequests_unseen l).raiseAll events s

theorem reevaluate_apart : Apart reevaluate := fun _ _ => rfl

/-! ### The close and the opening of a round -/

theorem closeRound_apart : Apart closeRound := fun l s => by
  have own (t : State) (h : t.rct.roundTimer = s.rct.roundTimer) :
      t.aside s.rct.roundTimer l = withRequests l t := by
    rw [← h]
    rfl
  have timer : (closeRound s).rct.roundTimer = s.rct.roundTimer := by
    rw [(closeRound_same _).rct]
    rfl
  rw [← own s rfl, closeRound_aside, own _ timer]

theorem deadlineFalls_apart : Apart deadlineFalls :=
  Apart.ite (fun _ _ => Iff.rfl) closeRound_apart Apart.rest

theorem timerExpires_apart : Apart timerExpires :=
  Apart.ite (fun _ _ => Iff.rfl) (fun _ _ => rfl) Apart.rest

theorem probeExpires_apart : Apart probeExpires :=
  Apart.ite (fun _ _ => Iff.rfl) (fun l s => (withRequests_unseen l).raise _ _ (s.setRct _))
    Apart.rest

/-! ### Samples and YARD frames -/

theorem reportReading_apart (i : Fin 48) : Apart (reportReading i) :=
  Apart.ite (fun _ _ => Iff.rfl)
    (Apart.ite (fun _ _ => Iff.rfl) (Apart.comp closeRound_apart (g := countedOff) fun _ _ => rfl)
      fun _ _ => rfl)
    Apart.rest

theorem takeSample_apart (c : SampleCopy) : Apart (takeSample c) := by
  have accepted : Apart (acceptSample c) :=
    Apart.ite (fun _ _ => Iff.rfl)
      (Apart.comp (reportReading_apart _) (g := samplePlaced c) fun _ _ => rfl) fun _ _ => rfl
  have run : Apart (runSample c) := fun l s => by
    unfold runSample
    rw [show judgeSample c (withRequests l s) = judgeSample c s from rfl]
    split
    next => exact accepted l s
    next => rfl
  exact Apart.ite (fun _ _ => Iff.rfl) run
    (Apart.ite (fun _ _ => Iff.rfl) (Apart.ite (fun _ _ => Iff.rfl) (fun _ _ => rfl) Apart.rest)
      Apart.rest)

theorem takeYard_apart (y : YardCopy) : Apart (takeYard y) := fun l s => by
  unfold takeYard
  rw [show yardResult y (withRequests l s) = yardResult y s from rfl]
  split <;> rfl

/-! ### The evaluation of a round -/

/-- What a visit does once its event is raised. -/
def visitDone (p : Fin 24) (d : PileDyn) (s : State) : State :=
  let t := s.setPju { s.pju with contributions := s.pju.contributions ++ handedContribution p d }
  t.setStage (pileStage t (p.val + 1))

theorem visitPile_done (p : Fin 24) (s : State) :
    visitPile p s =
      visitDone p (visitedPile (s.pile p).cfg s (s.pile p).dyn)
        (raiseAll
          (pileEvent p (s.pile p).dyn.source (visitedPile (s.pile p).cfg s (s.pile p).dyn).source)
          (s.setPile p { s.pile p with dyn := visitedPile (s.pile p).cfg s (s.pile p).dyn })) := rfl

theorem visitPile_apart (p : Fin 24) : Apart (visitPile p) := fun l s => by
  have done (d : PileDyn) : Apart (visitDone p d) := fun _ _ => rfl
  rw [visitPile_done, visitPile_done, ← done, ← raiseAll_withRequests]
  rfl

/-- What an evaluation does once its events are raised. -/
def evaluationDone (z : Fin 32) (s : State) : State :=
  (reevaluate s).setStage (zoneStage (reevaluate s) (z.val + 1))

theorem evaluateZone_done (z : Fin 32) (s : State) :
    evaluateZone z s =
      evaluationDone z
        (raiseAll (drillEndEvent z (s.zone z) ++ zoneEvent z (s.zone z) (evaluatedZone s z))
          (s.setZone z (evaluatedZone s z))) := rfl

theorem evaluateZone_apart (z : Fin 32) : Apart (evaluateZone z) := fun l s => by
  have done : Apart (evaluationDone z) := fun _ _ => rfl
  rw [evaluateZone_done, evaluateZone_done, ← done, ← raiseAll_withRequests]
  rfl

theorem exchange_apart : Apart exchange := fun l s => by
  have ends : exchangeDrillEnds (withRequests l s) = exchangeDrillEnds s := rfl
  have blocks : exchangedBlocks (withRequests l s) = withRequests l (exchangedBlocks s) := rfl
  rw [exchange_eq, exchange_eq, ends, blocks, raiseAll_withRequests, reevaluate_apart]

theorem Apart.foldl {α : Type} {v : State → α → State} (h : ∀ a, Apart fun s => v s a)
    (todo : List α) : Apart fun s => todo.foldl v s := by
  induction todo with
  | nil => exact Apart.rest
  | cons a todo ih => exact Apart.comp ih (h a)

theorem postEntry_apart (amount : Nat) (e : PlumeEntry) : Apart (postEntry amount e) :=
  Apart.ite (fun _ _ => Iff.rfl) (fun _ _ => rfl) Apart.rest

theorem postContribution_apart (c : Contribution) : Apart fun s => postContribution s c :=
  Apart.foldl (fun _ l s => postEntry_apart _ _ l s) _

/-- What the projection does once the shares are posted. -/
def projectionDone (s : State) : State :=
  (s.setPju { s.pju with contributions := [] }).setStage
    (zoneStage (s.setPju { s.pju with contributions := [] }) 0)

theorem project_apart : Apart project := by
  have before : Apart beforePosting := Apart.ite (fun _ _ => Iff.rfl) exchange_apart Apart.rest
  have posts : Apart fun s : State => s.pju.contributions.foldl postContribution s := fun l s =>
    Apart.foldl postContribution_apart s.pju.contributions l s
  have done : Apart projectionDone := fun _ _ => rfl
  exact Apart.comp (f := projectionDone) done (Apart.comp posts before)

/-! ### The commands that ask nothing -/

theorem pileTurn_apart : Apart pileTurn := fun l s => by
  unfold pileTurn
  rw [show (withRequests l s).stage = s.stage from rfl]
  split
  next p _ => exact visitPile_apart p l s
  all_goals rfl

theorem projectionTurn_apart : Apart projectionTurn := fun l s => by
  unfold projectionTurn
  rw [show (withRequests l s).stage = s.stage from rfl]
  split
  next => exact project_apart l s
  all_goals rfl

theorem zoneTurn_apart : Apart zoneTurn := fun l s => by
  unfold zoneTurn
  rw [show (withRequests l s).stage = s.stage from rfl]
  split
  next z _ => exact evaluateZone_apart z l s
  all_goals rfl

/-- A command that waits for the release does what its function does, or nothing. -/
theorem Apart.whenReleased (h : Apart f) {v : State}
    (hv : whenReleased f (withRequests [] s) = .next v) :
    whenReleased f s = .next (withRequests s.mgu.requests v) := by
  have gated : Apart fun s : State => if s.resetHeld.isSome then s else f s :=
    Apart.ite (fun _ _ => Iff.rfl) Apart.rest h
  cases hv
  exact congrArg _ (gated.beside s)

/-- The clause of O58 about the commands that bring MGU no request (R167). -/
theorem asksNothing {c : Instr} {v : State} (hc : AsksNothing c)
    (hv : exec c (withRequests [] s) = .next v) :
    exec c s = .next (withRequests s.mgu.requests v) := by
  rcases hc with ⟨y, rfl⟩ | ⟨x, rfl⟩ | ⟨a, rfl⟩ | rfl | rfl | rfl | rfl | rfl | rfl | rfl
  · exact (takeYard_apart y).whenReleased hv
  · exact (takeSample_apart x).whenReleased hv
  · change execResetRelease a (withRequests [] s) = .next v at hv
    change execResetRelease a s = _
    unfold execResetRelease at hv ⊢
    rw [show (withRequests [] s).resetHeld = s.resetHeld from rfl] at hv
    cases hheld : s.resetHeld with
    | none =>
      rw [hheld] at hv
      cases hv
      rfl
    | some cause =>
      rw [hheld] at hv
      cases hv
      rfl
  · exact timerExpires_apart.whenReleased hv
  · exact deadlineFalls_apart.whenReleased hv
  · exact pileTurn_apart.whenReleased hv
  · exact projectionTurn_apart.whenReleased hv
  · exact zoneTurn_apart.whenReleased hv
  · exact probeExpires_apart.whenReleased hv
  · exact Apart.whenReleased (f := capturePanel) (fun _ _ => rfl) hv

end

end Sys2Proof.Machine
end

section
/-! Proofs about MGU's looks: when a frame has left, at ZNU's completion, when an execution ends, and
before time passes (R14, R139, R159, R168). -/

namespace Sys2Proof.Machine

section
variable {r : Request} {rest : List Request} {s v : State} {f : State → State}
  {visit : State → Fin 32 → State} {turns : List Turn} {todo : List (Fin 32)}

theorem Apart.requests (h : Apart f) (s : State) : (f s).mgu.requests = s.mgu.requests := by
  have same := h s.mgu.requests s
  rw [show withRequests s.mgu.requests s = s from rfl] at same
  generalize f s = t at same
  exact (congrArg (fun t : State => t.mgu.requests) same :)

/-! ### A look at the head (R168) -/

/-- MGU's look at a queue that holds a request, beside what the event leaves. -/
theorem look_beside (r : Request) (rest : List Request) (v : State) :
    (MayTake r v → look (withRequests (r :: rest) v) = takeRequest r (withRequests rest v)) ∧
      (¬ MayTake r v → look (withRequests (r :: rest) v) = withRequests (r :: rest) v) := by
  have may : MayTake r v ↔ canTake r (withRequests (r :: rest) v) = true := mayTake_iff_canTake
  refine ⟨fun h => look_takes (withRequests (r :: rest) v) r rest rfl (may.mp h),
    fun h => look_waits _ fun r' rest' hr => ?_⟩
  cases hr
  rw [Bool.eq_false_iff, Ne]
  exact fun hc => h (may.mpr hc)

theorem takeRequest_requests (r : Request) (s : State) :
    (takeRequest r s).mgu.requests = s.mgu.requests := by
  unfold takeRequest
  dsimp only
  split
  next => rfl
  next =>
    rw [respond_mgu]
    exact (moved_runRequest keptByTraffic_true r _).requests

/-! ### OUT's visits and MGU's looks at one event (R12, R159, R168) -/

/-- Turns without one of MGU's own are OUT's visits. -/
theorem interleave_visits (h : Turn.mgu ∉ turns) (begun : Bool) (todo : List (Fin 32)) (s : State) :
    interleave visit turns begun todo s = todo.foldl visit s := by
  induction turns generalizing begun todo s with
  | nil => rfl
  | cons turn turns ih =>
    rw [List.mem_cons, not_or] at h
    cases turn with
    | mgu => exact absurd rfl h.1
    | out =>
      cases todo with
      | nil => exact ih h.2 begun [] s
      | cons z todo => exact ih h.2 true todo (visit s z)

/-- With nothing for OUT to visit, one turn of MGU's own is one look. -/
theorem interleave_looks (h : turns.count .mgu = 1) (s : State) :
    interleave visit turns false [] s = look s := by
  induction turns with
  | nil => cases h
  | cons turn turns ih =>
    cases turn with
    | out => exact ih (by rwa [List.count_cons_of_ne (by decide)] at h)
    | mgu =>
      have none : Turn.mgu ∉ turns := by
        rw [List.count_cons_self] at h
        exact List.count_eq_zero.mp (Nat.succ.inj h)
      unfold interleave
      dsimp only
      split
      next => exact interleave_visits none _ _ _
      next => exact interleave_visits none _ _ _

/-- MGU looks once, after OUT's visits. -/
theorem contend_looks (h : Turn.mgu ∉ turns ∨ (turns.count .mgu = 1 ∧ todo = [])) (s : State) :
    contend visit turns todo s = look (todo.foldl visit s) := by
  unfold contend
  dsimp only
  rcases h with h | ⟨h, rfl⟩
  · rw [interleave_visits h, if_neg]
    rwa [List.contains_iff_mem]
  · rw [interleave_looks h, if_pos]
    · rfl
    · rw [List.contains_iff_mem]
      exact List.count_pos_iff.mp (by omega)

/-- An event at which MGU looks once: OUT's visits are those of an empty queue. -/
theorem contend_beside (hv : ∀ z, Apart fun s => visit s z)
    (h : Turn.mgu ∉ turns ∨ (turns.count .mgu = 1 ∧ todo = [])) (s : State) :
    contend visit turns todo s =
      look (withRequests s.mgu.requests (contend visit turns todo (withRequests [] s))) := by
  rw [contend_empty (fun s z => (hv z).requests s) turns todo (withRequests [] s) rfl,
    contend_looks h]
  exact congrArg look ((Apart.foldl hv todo).beside s)

/-- Where MGU may take nothing at any visit, the event is OUT's visits. -/
theorem contend_waits {P : State → Prop} (hstay : ∀ s, P s → look s = s)
    (hv : ∀ s z, P s → P (visit s z)) (turns : List Turn) (todo : List (Fin 32)) (hs : P s) :
    contend visit turns todo s = todo.foldl visit s := by
  have visits (todo : List (Fin 32)) (s : State) (hs : P s) : P (todo.foldl visit s) :=
    List.foldlRecOn todo visit hs fun s hs z _ => hv s z hs
  have waits : interleave visit turns false todo s = todo.foldl visit s := by
    generalize false = begun
    induction turns generalizing begun todo s with
    | nil => rfl
    | cons turn turns ih =>
      cases turn with
      | mgu =>
        unfold interleave
        dsimp only
        rw [hstay s hs, if_pos rfl]
        exact ih todo hs begun
      | out =>
        cases todo with
        | nil => exact ih [] hs begun
        | cons z todo => exact ih todo (hv s z hs) true
  unfold contend
  dsimp only
  rw [waits]
  split
  next => rfl
  next => exact hstay _ (visits todo s hs)

/-! ### The visits and the events beside the queue -/

theorem drainVisit_apart (z : Fin 32) : Apart fun s => drainVisit s z := fun l s => by
  have group (g : List Byte) : serviceGroup (withRequests l s) z g = serviceGroup s z g := rfl
  dsimp only
  unfold drainVisit
  rw [group, show (withRequests l s).zone z = s.zone z from rfl,
    show (withRequests l s).tif = s.tif from rfl, show (withRequests l s).out = s.out from rfl]
  split
  next => split <;> rfl
  next => rfl

theorem signVisit_apart (z : Fin 32) : Apart fun s => signVisit s z := fun l s => by
  have group (t : Tuple) (g : List Byte) :
      signGroup (withRequests l s) z t g = signGroup s z t g := rfl
  dsimp only
  unfold signVisit
  dsimp only
  rw [group, show (withRequests l s).zone z = s.zone z from rfl,
    show (withRequests l s).zoneEnabled z = s.zoneEnabled z from rfl,
    show (withRequests l s).zoneCfg z = s.zoneCfg z from rfl,
    show (withRequests l s).tif = s.tif from rfl, show (withRequests l s).out = s.out from rfl]
  split
  next =>
    split
    next => split <;> rfl
    next => rfl
  next => rfl

theorem completed_apart : Apart completed := by
  have drills : Apart lastDrillEnd := Apart.ite (fun _ _ => Iff.rfl) (fun _ _ => rfl) Apart.rest
  have snaps : Apart captureSnapshot := Apart.ite (fun _ _ => Iff.rfl) (fun _ _ => rfl) Apart.rest
  have closes : Apart fun s : State =>
      ((s.setRct { s.rct with phase := .closed, closeTimer := none }).setZnu
        { s.znu with drillAtClose := false }).setStage .idle := fun _ _ => rfl
  exact Apart.comp (f := captureSnapshot) snaps (Apart.comp closes drills)

theorem finishCopy_apart : Apart finishCopy := fun l s => by
  unfold finishCopy
  rw [show (withRequests l s).mgu.executing = s.mgu.executing from rfl]
  cases s.mgu.executing <;> rfl

/-- The zones OUT drains when a frame has left `p` (R159). -/
def drained (p : Port) (s : State) : List (Fin 32) :=
  if p == .field && !s.running &&
      decide (((s.tif.select p).port p).queue.length < (s.tif.port p).queue.length)
  then pendingZones s else []

theorem frameLeft_contends {p : Port} (hsend : (s.tif.port p).sending.isSome = true) :
    frameLeft p turns s = contend drainVisit turns (drained p s) (s.setTif (s.tif.select p)) :=
  if_pos hsend

theorem drained_none {p : Port} (h : p = .quay ∨ s.rct.opState = .run) : drained p s = [] := by
  refine if_neg ?_
  rcases h with rfl | h
  · exact nofun
  · rw [(running_iff s).mpr h, Bool.not_true, Bool.and_false, Bool.false_and]
    exact nofun

/-- The events at which MGU looks once do beside the queue what they do with it empty, and then look. -/
theorem looks_after {c : Instr} (hr : s.resetHeld = none)
    (hc : (∃ p turns, c = .frameSent p turns ∧ (s.tif.port p).sending.isSome = true ∧
        (Turn.mgu ∉ turns ∨ (turns.count .mgu = 1 ∧ (p = .quay ∨ s.rct.opState = .run)))) ∨
      (∃ turns, c = .evaluationComplete turns ∧ s.stage = .done ∧ Turn.mgu ∉ turns) ∨
      c = .copyComplete)
    (hv : exec c (withRequests [] s) = .next v) :
    exec c s = .next (look (withRequests s.mgu.requests v)) := by
  rcases hc with ⟨p, turns, rfl, hsend, hturns⟩ | ⟨turns, rfl, hstage, hturns⟩ | rfl
  · have empty : exec (.frameSent p turns) (withRequests [] s) =
        .next (frameLeft p turns (withRequests [] s)) := whenReleased_free hr
    rw [empty, frameLeft_contends (s := withRequests [] s) hsend] at hv
    cases hv
    refine (whenReleased_free hr).trans (congrArg _ ?_)
    rw [frameLeft_contends hsend]
    exact contend_beside drainVisit_apart (hturns.imp_right fun h => ⟨h.1, drained_none h.2⟩)
      (s.setTif (s.tif.select p))
  · rw [exec_evaluationComplete turns (s := withRequests [] s) hr hstage, evaluationEnds_eq,
      completed_apart] at hv
    cases hv
    rw [exec_evaluationComplete turns hr hstage, evaluationEnds_eq,
      contend_beside signVisit_apart (.inl hturns), completed_requests]
    rfl
  · have empty : exec .copyComplete (withRequests [] s) =
        .next (look (finishCopy (withRequests [] s))) := whenReleased_free hr
    rw [empty, look_empty _ (finishCopy_apart.requests _)] at hv
    cases hv
    exact (whenReleased_free hr).trans (congrArg _ (congrArg look (finishCopy_apart.beside s)))

/-! ### A head that MGU may not take -/

/-- A COPY executes, or the port of the request `r` has no room and is sending: MGU may not take `r`. -/
def Barred (r : Request) (s : State) : Prop :=
  s.mgu.executing.isSome = true ∨
    ((s.tif.port r.port).room = 0 ∧ (s.tif.port r.port).sending.isSome = true)

theorem Barred.canTake (h : Barred r s) : canTake r s = false :=
  h.elim (fun h => canTake_busy (.inl h)) fun h => canTake_full h.1

/-- The request `r` is the head of the queue, and MGU may not take it. -/
def HeadBarred (r : Request) (rest : List Request) (s : State) : Prop :=
  s.mgu.requests = r :: rest ∧ Barred r s

theorem HeadBarred.look (h : HeadBarred r rest s) : look s = s :=
  look_waits s fun r' rest' hq => by
    rw [h.1] at hq
    cases hq
    exact h.2.canTake

/-- A visit of OUT takes what it sends into the field queue, if anything. -/
theorem HeadBarred.visited {t : State} (h : HeadBarred r rest s)
    (hmgu : t.mgu = s.mgu) (htif : t.tif = s.tif ∨ ∃ g, s.tif.offer .field g = some t.tif) :
    HeadBarred r rest t := by
  refine ⟨by rw [hmgu]; exact h.1, h.2.imp (fun hx => by rw [hmgu]; exact hx) fun hfull => ?_⟩
  rcases htif with same | ⟨g, ho⟩
  · rw [same]; exact hfull
  · obtain ⟨busy, full⟩ := RoomOrBusy.offer (.inr hfull.2) ho
    have room := full hfull.1
    exact ⟨room, busy.resolve_left (by omega)⟩

theorem drainVisit_tif (s : State) (z : Fin 32) :
    (drainVisit s z).tif = s.tif ∨ ∃ g, s.tif.offer .field g = some (drainVisit s z).tif := by
  rcases drainVisit_cases s z with same | ⟨g, t, ho, hvisit⟩
  · exact .inl (by rw [same])
  · exact .inr ⟨g, by rw [hvisit]; exact ho⟩

/-- OUT's visits at an event where MGU may not take the head are those of an empty queue. -/
theorem contend_barred (hv : ∀ z, Apart fun s => visit s z)
    (hstay : ∀ s z, HeadBarred r rest s → HeadBarred r rest (visit s z)) (turns : List Turn)
    (todo : List (Fin 32)) (hs : HeadBarred r rest s) :
    contend visit turns todo s =
      withRequests (r :: rest) (contend visit turns todo (withRequests [] s)) := by
  rw [contend_empty (fun s z => (hv z).requests s) turns todo (withRequests [] s) rfl,
    contend_waits (fun s => HeadBarred.look) hstay turns todo hs, ← hs.1]
  exact (Apart.foldl hv todo).beside s

theorem frameLeft_barred {p : Port} (turns : List Turn) (hq : s.mgu.requests = r :: rest)
    (h : s.mgu.executing.isSome = true ∨
      ((s.tif.port r.port).room = 0 ∧ (s.tif.port r.port).sending.isSome = true ∧ r.port ≠ p)) :
    frameLeft p turns s = withRequests (r :: rest) (frameLeft p turns (withRequests [] s)) := by
  by_cases hsend : (s.tif.port p).sending.isSome = true
  · rw [frameLeft_contends hsend, frameLeft_contends (s := withRequests [] s) hsend]
    refine contend_barred drainVisit_apart
      (fun s z h => HeadBarred.visited h (drainVisit_signs s z).mgu (drainVisit_tif s z)) turns (drained p s)
      (s := s.setTif (s.tif.select p)) ⟨hq, h.imp_right fun hfull => ?_⟩
    rw [State.setTif_tif, Tif.select_other _ _ _ hfull.2.2]
    exact ⟨hfull.1, hfull.2.1⟩
  · have idle : frameLeft p turns s = s := if_neg hsend
    have idle' : frameLeft p turns (withRequests [] s) = withRequests [] s := if_neg hsend
    rw [idle, idle', ← hq]
    rfl

theorem completionTurn_barred (turns : List Turn) (h : HeadBarred r rest s) :
    completionTurn turns s =
      withRequests (r :: rest) (completionTurn turns (withRequests [] s)) := by
  unfold completionTurn
  rw [show (withRequests [] s).stage = s.stage from rfl]
  split
  next =>
    rw [evaluationEnds_eq, evaluationEnds_eq, completed_apart]
    refine contend_barred signVisit_apart
      (fun s z h => HeadBarred.visited h (signVisit_signs s z).mgu (signVisit_tif s z)) turns _
      ⟨(completed_requests s).trans h.1, ?_⟩
    unfold Barred
    rw [completed_executing, completed_tif]
    exact h.2
  all_goals
    rw [← h.1]
    rfl

/-- Whatever the turns, an event takes no head that MGU may not take. -/
theorem turns_takeNone {c : Instr} {p : Port} (hq : s.mgu.requests = r :: rest)
    (h : s.mgu.executing.isSome = true ∨
      ((s.tif.port r.port).room = 0 ∧ (s.tif.port r.port).sending.isSome = true ∧
        c ≠ .frameSent r.port turns))
    (hc : c = .frameSent p turns ∨ c = .evaluationComplete turns)
    (hv : exec c (withRequests [] s) = .next v) : exec c s = .next (withRequests (r :: rest) v) := by
  have gated {f : State → State} (hf : f s = withRequests (r :: rest) (f (withRequests [] s)))
      (hv : whenReleased f (withRequests [] s) = .next v) :
      whenReleased f s = .next (withRequests (r :: rest) v) := by
    unfold whenReleased at hv ⊢
    cases hv
    rw [show (withRequests [] s).resetHeld = s.resetHeld from rfl, hf]
    split
    next => rw [← hq]; rfl
    next => rfl
  rcases hc with rfl | rfl
  · refine gated (frameLeft_barred turns hq (h.imp_right fun hfull => ?_)) hv
    exact ⟨hfull.1, hfull.2.1, fun hp => hfull.2.2 (by rw [hp])⟩
  · exact gated (completionTurn_barred turns
      ⟨hq, h.imp_right fun hfull => ⟨hfull.1, hfull.2.1⟩⟩) hv

/-! ### Before time passes (R168) -/

/-- What is due at an instant begins with the head that MGU may take. -/
theorem settle_takes (hq : s.mgu.requests = r :: rest) (h : MayTake r s) :
    settle s = settle (takeRequest r (withRequests rest s)) := by
  have served : serveQueue s = serveQueue (takeRequest r (withRequests rest s)) := by
    unfold serveQueue
    rw [hq, takeRequest_requests]
    exact congrArg (serve rest.length) (look_takes s r rest hq (mayTake_iff_canTake.mp h))
  unfold settle
  rw [served]

theorem step_takes (hr : s.resetHeld = none) (hpending : s.pending = [])
    (hq : s.mgu.requests = r :: rest) (h : MayTake r s) :
    step s = step (takeRequest r (withRequests rest s)) := by
  have outside : Outside [] none (takeRequest r (withRequests rest s)) :=
    (outside_keptInTime [] none).take r rest ⟨hpending, hr⟩ hq (mayTake_iff_canTake.mp h)
  have idles {t : State} (ht : Outside [] none t) : step t = .next (settle t).passTime := by
    unfold step
    rw [ht.1]
    exact whenReleased_free ht.2
  rw [idles ⟨hpending, hr⟩, idles outside, settle_takes hq h]

end

end Sys2Proof.Machine
end

section
/-! Proofs about the bytes and frames that arrive while MGU may not take the head of its queue
(R9, R11, R12, R167, R168). -/

namespace Sys2Proof.Machine

section
variable {r : Request} {rest : List Request} {s t u : State} {p : Port} {x : Tif}
  {g : PortState → PortState}

/-! ### A port that has no room and is sending -/

/-- The insertion queue of `p` has no room, and the port is sending. -/
def FullSending (p : Port) (x : Tif) : Prop :=
  (x.port p).room = 0 ∧ (x.port p).sending.isSome = true

theorem FullSending.modPort (h : FullSending p x) (q : Port)
    (hroom : ∀ ps, (g ps).room = ps.room) (hsend : ∀ ps, (g ps).sending = ps.sending) :
    FullSending p (x.modPort q g) := by
  unfold FullSending
  rw [Tif.port_modPort]
  split
  next => rw [hroom, hsend]; exact h
  next => exact h

theorem FullSending.wake (h : FullSending p x) (q : Port) : FullSending p (x.wake q) := by
  by_cases hq : p = q
  · subst hq
    rwa [Tif.wake_busy _ _ h.2]
  · unfold FullSending
    rwa [Tif.wake_other _ hq]

theorem fullSending_keptByTraffic (p : Port) : KeptByTraffic (FullSending p) where
  offer q group ho h := by
    obtain ⟨busy, full⟩ := RoomOrBusy.offer (.inr h.2) ho
    have room := full h.1
    exact ⟨room, busy.resolve_left (by omega)⟩
  mark {t} m h := FullSending.wake (x := { t with markSlot := some m }) (by cases p <;> exact h) .field
  counts q g hg h := h.modPort q
    (fun ps => by unfold PortState.room; rw [(hg ps).2.2.1, (hg ps).2.2.2.1])
    fun ps => (hg ps).2.2.2.2.1

theorem fullSending_offerTransit (q : Port) (f : Frame) (s : State) :
    Moved (FullSending p) s (offerTransit q f s) := by
  unfold offerTransit Tif.enterTransit
  by_cases hroom : (s.tif.port (otherPort q)).transit.length < Config.transitDepth
  · rw [if_pos hroom]
    exact moved_setTif fun h => h.modPort _ (fun _ => rfl) fun _ => rfl
  · rw [if_neg hroom]
    exact moved_trunkError (fullSending_keptByTraffic p) q .drop s

theorem moved_wakeOutbound (q : Port) (s : State) :
    Moved (FullSending p) s (wakeOutbound q s) := moved_setTif fun h => h.wake _

/-! ### The head stays -/

/-- The request `r` is the head of the queue, and MGU may not take it: a COPY or a round evaluation is in
progress, or the port of `r` has no room and is sending. -/
structure HeadStays (r : Request) (rest : List Request) (s : State) : Prop where
  head : ∃ more, s.mgu.requests = r :: (rest ++ more)
  barred : s.mgu.executing.isSome = true ∨ s.rct.phase = .evaluating ∨ FullSending r.port s.tif

theorem HeadStays.canTake (h : HeadStays r rest s) : canTake r s = false := by
  rcases h.barred with h | h | h
  · exact canTake_busy (.inl h)
  · exact canTake_busy (.inr h)
  · exact canTake_full h.1

theorem HeadStays.moved (h : HeadStays r rest s) (hm : Moved (FullSending r.port) s t)
    (hphase : s.rct.phase = .evaluating → t.rct.phase = .evaluating) : HeadStays r rest t :=
  ⟨by rw [hm.requests]; exact h.head,
    h.barred.imp (fun hx => by rw [hm.executing]; exact hx) (Or.imp hphase hm.tif)⟩

/-- A request that arrives waits behind the others, or is dropped. -/
theorem HeadStays.request (h : HeadStays r rest s) (a : Request) :
    HeadStays r rest (requestArrives a s) := by
  obtain ⟨more, hq⟩ := h.head
  by_cases hlen : s.mgu.requests.length < 4
  · rw [requestArrives_waits hlen fun head tail htail => ?_]
    · exact ⟨⟨more ++ [a], by
        change s.mgu.requests ++ [a] = _
        rw [hq, List.cons_append, List.append_assoc]⟩, h.barred⟩
    · rw [hq] at htail
      cases htail
      exact h.canTake
  · rw [requestArrives_dropped (Nat.le_of_not_lt hlen)]
    exact ⟨h.head, h.barred⟩

theorem offerTransit_rct (q : Port) (f : Frame) (s : State) : (offerTransit q f s).rct = s.rct := by
  unfold offerTransit
  split
  next => rfl
  next => exact (trunkError_blocks q .drop s).1

theorem takeSample_evaluating (c : SampleCopy) (h : s.rct.phase = .evaluating) :
    (takeSample c s).rct.phase = .evaluating := by
  have sampled := takeSample_sampled c s
  revert sampled
  generalize takeSample c s = t
  intro sampled
  cases sampled with
  | closed => exact closeRound_phase _
  | _ => exact h

theorem takeYard_rct (y : YardCopy) (s : State) : (takeYard y s).rct = s.rct := by
  unfold takeYard
  split <;> rfl

theorem headStays_keptByArrivals (r : Request) (rest : List Request) :
    KeptByArrivals (HeadStays r rest) where
  request a h := h.request a
  framed q rx h := h.moved (moved_setTif fun h => h.modPort q (fun _ => rfl) fun _ => rfl) id
  framerReset q f h := h.moved (moved_setTif fun h => h.modPort q (fun _ => rfl) fun _ => rfl) id
  counted {s} q g hg h := h.moved (moved_modPort (fullSending_keptByTraffic _) s q hg) id
  crcError {s} q h := h.moved (moved_trunkError (fullSending_keptByTraffic _) q .crc s) fun he => by
    rw [(trunkError_blocks q .crc s).1]
    exact he
  forwarded {s} q f g hg h :=
    h.moved (((fullSending_offerTransit q f s).trans
      (moved_modPort (fullSending_keptByTraffic _) _ q hg)).trans (moved_wakeOutbound q _)) fun he => by
        change (offerTransit q f s).rct.phase = _
        rw [offerTransit_rct]
        exact he
  copied {s} q f c h :=
    h.moved (((fullSending_offerTransit q f s).trans
      (moved_takeSample (fullSending_keptByTraffic _) c _)).trans (moved_wakeOutbound q _)) fun he =>
        takeSample_evaluating c (by rw [offerTransit_rct]; exact he)
  yard {s} y h := h.moved (moved_takeYard y s) fun he => by rw [takeYard_rct]; exact he

/-- In a sound trunk a port without room is sending. -/
theorem TrunkSound.fullSending (h : TrunkSound s) (hroom : (s.tif.port p).room = 0) :
    FullSending p s.tif := by
  refine ⟨hroom, Option.isSome_iff_ne_none.mpr fun hidle => ?_⟩
  have idle := (h.ports p).idle hidle
  have reserved := (h.ports p).reserved
  unfold PortState.room at hroom
  rw [idle.2.1, reserved] at hroom
  have few : reservedFor s p ≤ 1 := by
    unfold reservedFor
    split
    next => split <;> omega
    next => omega
  change 16 - 0 - reservedFor s p = 0 at hroom
  omega

theorem headStays_of_sound (h : TrunkSound s) (hq : s.mgu.requests = r :: rest)
    (hno : ¬ MayTake r s) : HeadStays r rest s := by
  refine ⟨⟨[], by rw [List.append_nil]; exact hq⟩, ?_⟩
  by_contra hfree
  rw [not_or, not_or] at hfree
  obtain ⟨hexec, hphase, hfull⟩ := hfree
  refine hno ⟨by simpa using hexec, hphase, ?_⟩
  by_contra hroom
  exact hfull (h.fullSending (by omega))

/-- The clause of O58 about the bytes and frames that arrive. -/
theorem arrivals_takeNone {after : Nat} {c : Instr}
    (hc : (∃ rx, c = .strayByte after p rx) ∨ ∃ f, c = .frameArrival after p f)
    (hr : s.resetHeld = none) (h : TrunkSound (s.elapse after))
    (hq : (s.elapse after).mgu.requests = r :: rest) (hno : ¬ MayTake r (s.elapse after))
    (ht : exec c s = .next t) : ∃ more, t.mgu.requests = r :: (rest ++ more) := by
  have stays := headStays_of_sound h hq hno
  rcases hc with ⟨rx, rfl⟩ | ⟨f, rfl⟩
  · have given : exec (.strayByte after p rx) s = .next (receive p rx (s.elapse after)) :=
      whenReleased_free (f := fun s => receive p rx (s.elapse after)) hr
    rw [given] at ht
    cases ht
    exact ((headStays_keptByArrivals r rest).receive p rx stays).head
  · have given : exec (.frameArrival after p f) s = .next (frameArrives p f (s.elapse after)) :=
      whenReleased_free (f := fun s => frameArrives p f (s.elapse after)) hr
    rw [given] at ht
    cases ht
    exact ((headStays_keptByArrivals r rest).frameArrives p f stays).head

end

/-- Settles O58: arrivals by what a taken request answers, looks by what commutes with the queue, and the
head that may not be taken by what every event keeps. -/
theorem requestsWaitOrAreDropped : Obligations.RequestsWaitOrAreDropped := by
  refine ⟨fun unit e op table b s hr => requestsArrive unit e op table b s hr,
    fun c r rest s v hr hq hc hv => ?_, fun p turns c r rest s v hq h hc hv => turns_takeNone hq h hc hv,
    fun after p c r rest s t hc hr hsound hq hno ht => arrivals_takeNone hc hr hsound hq hno ht,
    fun c s v hc hv => asksNothing hc hv,
    fun r rest s hr hpending hq h => step_takes hr hpending hq h⟩
  have looks := looks_after hr hc hv
  rw [hq] at looks
  exact ⟨fun h => looks.trans (congrArg _ ((look_beside r rest v).1 h)),
    fun h => looks.trans (congrArg _ ((look_beside r rest v).2 h))⟩

end Sys2Proof.Machine
end
